-- ==== Sys2Proof/Word.lean ====
section
/-! DEFINITION. The words of the part: bytes and 64-bit addresses. -/

namespace Sys2Proof

/-- A byte of a record, of host memory or of a drive sector. -/
abbrev Byte := BitVec 8

/-- An address in host memory (R195: addresses are 8 bytes). -/
abbrev Addr := BitVec 64

end Sys2Proof
end

