-- ==== Sys2Proof/Syntax.lean ====
section
/-! DEFINITION. The commands of the Dazwel 4410: one constructor for each row of the table of operations and events,
with what comes in from outside as its operands. A row that the part gives itself (a job's execution after its dispatch,
a catalogue request, an offer, a step of a box sequence) has no operand: it takes the oldest waiting item of its kind. -/

namespace Sys2Proof

/-- What a drive answers to a port command (R131, R132). `data` is what a READ delivers; `value` is the capacity in
sectors that IDENTIFY reports and the temperature in degrees that READ_TEMP reports. -/
inductive Answer where
  | done (data : List Byte) (value : Int)
  | mediaError
  | otherError
  deriving DecidableEq, Repr

/-- A read of host memory that can fail to return a completion within 50 ms. -/
inductive HostRead where
  | setupBlock
  | anchorLink (c : Fin 4)
  | jobRecord (c : Fin 4)
  | configBlock
  | source (n : Fin 8)
  | referenceList (job : Nat)
  | fetchList (job : Nat)
  | blockSource (job : Nat)
  deriving DecidableEq, Repr

/-- The commands. `none` in a read's operand is a bus error; `ok = false` in a write's operand is a bus error. -/
inductive Instr where
  /-- R189. Power is applied from off, with the presence lines (bit d for bay d), the mains-good line and the
  battery-low line as given. -/
  | coldStart (present : BitVec 4) (mainsGood battLow : Bool)
  /-- R1. A write to SETUP_ADDR. -/
  | setupAddrWrite (v : BitVec 64)
  /-- R1. The read of the setup block ends. -/
  | setupBlockReadDone (r : Option (List Byte))
  /-- R2. Every write of the full status page has been delivered. -/
  | statusPageFullWriteDone
  /-- R7. A write to NUDGE. -/
  | nudge (v : BitVec 64)
  /-- R4 steps 1 to 3. The read of the anchor's link ends. -/
  | anchorLinkReadDone (c : Fin 4) (r : Option (List Byte))
  /-- R4 steps 4 and 5. The read of the linked record ends. -/
  | jobRecordReadDone (c : Fin 4) (r : Option (List Byte))
  /-- R4 steps 6 and 7. The TAKEN write ends. -/
  | takenWriteDone (c : Fin 4) (ok : Bool)
  /-- R6. -/
  | chainPollTimerExpiry (c : Fin 4)
  /-- R2. A read returns no completion within 50 ms. -/
  | hostReadTimeout (r : HostRead)
  /-- R8. A completion write of the job is delivered. -/
  | completionWriteDelivered (job : Nat)
  /-- R9. A completion write of the job meets a bus error. -/
  | completionFault (job : Nat)
  /-- R18, R2. A status page write meets a bus error. -/
  | statusPageWriteError
  /-- R18. Every write of a rewrite has ended; whether all were delivered. -/
  | statusPageRewriteDone (allDelivered : Bool)
  /-- R11, R14. -/
  | detach
  /-- R12, R14. -/
  | engineReset
  /-- R14. -/
  | powerConsent
  /-- R15. -/
  | attnWrite (v : BitVec 64)
  /-- R16. -/
  | attnEnWrite (v : BitVec 64)
  /-- R13. A write that the window ignores: its offset, its width in bytes and its value. -/
  | registerWriteIgnored (offset width : Nat) (v : BitVec 64)
  /-- R20. The dispatched CONFIGURE is carried out. -/
  | configure
  /-- R20, R23. The read of the 512-byte configuration block ends. -/
  | configBlockReadDone (r : Option (List Byte))
  /-- R26. One second passes. -/
  | clockTick
  /-- R27. The dispatched SET_CLOCK executes. -/
  | setClock
  /-- R29. The dispatched SET_ALARM executes. -/
  | setAlarm
  /-- R48, R49. The dispatched OPEN_STREAM joins its stream's list. -/
  | openStream
  /-- R48, R50. The dispatched FEED joins its stream's list. -/
  | feed
  /-- R35. A DMA read of the active FEED's source delivers bytes. -/
  | sourceReadDone (n : Fin 8) (bytes : List Byte)
  /-- R41. A source read of the active FEED ends in a bus error. -/
  | sourceReadBusError (n : Fin 8)
  /-- R48, R66. The dispatched CLOSE_STREAM joins its stream's list. -/
  | closeStream
  /-- R52. The Catalogue Engine takes a resolution request. -/
  | resolution
  /-- R53. The reference write of the stream's RESOLVING chunk ends. -/
  | referenceWriteDone (n : Fin 8) (ok : Bool)
  /-- R60. The Catalogue Engine takes a compare verdict. -/
  | compareVerdict
  /-- R96. The Catalogue Engine takes a write outcome. -/
  | writeOutcome
  /-- R64. The rewrite of the reference of the stream's chunk `chunk` ends. -/
  | referenceRewriteDone (n : Fin 8) (chunk : Nat) (ok : Bool)
  /-- R82, R83. The dispatched RETAIN is checked. -/
  | retain
  /-- R82, R84. The dispatched RELEASE is checked. -/
  | release
  /-- R82. The reference list read of the job ends. -/
  | referenceListReadDone (job : Nat) (r : Option (List Byte))
  /-- R83. The Catalogue Engine takes one reference of a RETAIN. -/
  | retainReference
  /-- R84. The Catalogue Engine takes one reference of a RELEASE. -/
  | releaseReference
  /-- R115. The dispatched CHECKPOINT is carried out. -/
  | checkpoint
  /-- R110. The checkpoint takes the hold and begins its image write. -/
  | checkpointImageWriteBegin
  /-- R117. The dispatched LOAD is carried out. -/
  | load
  /-- R117 steps 2 and 4. -/
  | loadDrivesSettled
  /-- R118. The header reads have ended. -/
  | loadHeadersRead
  /-- R118, R119. The tried image has been read. -/
  | loadImageReadDone
  /-- R120. The dispatched FORMAT is checked. -/
  | format
  /-- R120, R121. -/
  | formatDrivesSettled
  /-- R121. -/
  | formatWritesDone
  /-- R151. -/
  | driveControlStart
  /-- R152. -/
  | driveControlPark
  /-- R152. -/
  | driveControlPowerOff
  /-- R153. -/
  | clearFault
  /-- R102. -/
  | adopt
  /-- R103. -/
  | adoptAction
  /-- R104. -/
  | resync
  /-- R125. The Scheduler takes the oldest offer. -/
  | operationOffer
  /-- R132. The drive answers the command outstanding on its port. -/
  | commandAnswer (d : Fin 4) (a : Answer)
  /-- R131. -/
  | commandTimeout (d : Fin 4)
  /-- R131. -/
  | portResetAnswered (d : Fin 4)
  /-- R131. -/
  | portResetTimeout (d : Fin 4)
  /-- R145. -/
  | driveAnnounce (d : Fin 4)
  /-- R146. -/
  | startTimeout (d : Fin 4)
  /-- R149. -/
  | idleTimerExpiry (d : Fin 4)
  /-- R140, R154. The 100 ms sample: rail currents in units of 10 mA, presence lines (bit d for bay d). -/
  | railSample (current : Vector Nat 4) (present : BitVec 4)
  /-- R154. -/
  | railGraceExpiry (d : Fin 4)
  /-- R155. The dispatched FETCH is checked. -/
  | fetch
  /-- R155, R156. The FETCH list read ends. -/
  | fetchListReadDone (job : Nat) (r : Option (List Byte))
  /-- R159, R160. The Catalogue Engine takes a bad-read report. -/
  | badReadReport
  /-- R156, R163. The destination write of a FETCH's reference `ref`, or of a BLOCK_READ, ends. -/
  | destinationWriteDone (job ref : Nat) (ok : Bool)
  /-- R162. The dispatched BLOCK_WRITE is checked. -/
  | blockWrite
  /-- R162. The BLOCK_WRITE source read ends. -/
  | blockSourceReadDone (job : Nat) (r : Option (List Byte))
  /-- R163. The dispatched BLOCK_READ is checked. -/
  | blockRead
  /-- R165. -/
  | repairTake
  /-- R166. -/
  | repairPlacement
  /-- R167. -/
  | repairUpdate
  /-- R168. The dispatched SCRUB is checked. -/
  | scrub
  /-- R169. -/
  | scrubSlotStep
  /-- R171. -/
  | scrubPlan
  /-- R172. -/
  | scrubFinalUpdate
  /-- R175. -/
  | tempPollTimerExpiry (d : Fin 4)
  /-- R176. -/
  | hotGraceExpiry (d : Fin 4)
  /-- R177. -/
  | decayTimerExpiry (d : Fin 4)
  /-- R183. The mains-good line takes the level `good`. -/
  | supplySwitchOver (good : Bool)
  /-- R184. The battery-low line takes the level `low`. -/
  | batteryLowChange (low : Bool)
  /-- R184. -/
  | holdTimerExpiry
  /-- R190. -/
  | drainTimerExpiry
  /-- R191. -/
  | shutdownPhaseStep
  /-- R185. The dispatched SLEEP executes. -/
  | sleep
  /-- R185. -/
  | sleepSequenceStep
  /-- R186. -/
  | consentTimerExpiry
  /-- R188. -/
  | networkWake
  /-- R188. -/
  | buttonPress
  /-- R189. -/
  | hostRailStep
  /-- R116. -/
  | lossOfPower
  deriving DecidableEq, Repr

end Sys2Proof
end

