-- ==== Sys2Proof/Decode.lean ====
section
/-! DEFINITION. What spells a command: a write of the register window, and a word (the table gives no row any bits, so no
word spells one). -/

namespace Sys2Proof

/-- A write to COMMAND (R14): the value is its command, and any other value is ignored. -/
def commandWrite (width : Nat) (v : BitVec 64) : Instr :=
  if v = 1 then .detach
  else if v = 2 then .engineReset
  else if v = 3 then .powerConsent
  else .registerWriteIgnored 0x30 width v

/-- The command that a write of the register window is (R13, R14): offset and width in bytes, and the value. An access of
another width than 8 bytes is ignored, and so is a write of IDENT, of LINK and of the unused offset. -/
def registerWrite (offset width : Nat) (v : BitVec 64) : Instr :=
  if width ≠ 8 then .registerWriteIgnored offset width v
  else match offset with
    | 0x10 => .setupAddrWrite v
    | 0x18 => .nudge v
    | 0x20 => .attnWrite v
    | 0x28 => .attnEnWrite v
    | 0x30 => commandWrite width v
    | _ => .registerWriteIgnored offset width v

/-- The command that a word spells by the table's bits: none, since no row of the table has bits. -/
def decodeTableWord (_nbits _w : Nat) : Option Instr := none

end Sys2Proof
end

