-- ==== Sys2Proof/Machine/Types.lean ====
section
/-! DEFINITION. The plain data that the blocks of the part hold, one section a block. -/

namespace Sys2Proof.Machine

/-! ## Names of states and codes -/

/-- The attach state (01, The setup block and attach). -/
inductive Attach where
  | detached | attaching | attached | detaching
  deriving DecidableEq, Repr, Inhabited

/-- Which part of ATTACHING is under way (R1, R2). -/
inductive AttachStage where
  | idle | readingSetup | writingPage
  deriving DecidableEq, Repr, Inhabited

inductive ChainState where
  | running | stalled | faulted | stopped
  deriving DecidableEq, Repr, Inhabited

inductive BoxState where
  | run | sleepPrep | sleep | waking
  deriving DecidableEq, Repr, Inhabited

inductive CatState where
  | notLoaded | loading | ready
  deriving DecidableEq, Repr, Inhabited

inductive Supply where
  | mains | battery
  deriving DecidableEq, Repr, Inhabited

/-- The class of a piece of drive work, most urgent first. -/
inductive WorkClass where
  | interactive | bulk | background
  deriving DecidableEq, Repr, Inhabited

inductive Power where
  | absent | unpowered | starting | ready | stopping | parked
  deriving DecidableEq, Repr, Inhabited

inductive Level where
  | full | limited | none
  deriving DecidableEq, Repr, Inhabited

inductive Membership where
  | blank | member | foreign
  deriving DecidableEq, Repr, Inhabited

/-- The status codes, from least to most severe (01, Status codes). -/
inductive Status where
  | ok | okClamped | partialStop | badKind | badParam | wrongState | noCatalogue | noSpace | writeFailed
  | damagedData | notFound | readFailed | driveUnavailable | checkpointFailed | noValidImage | tooSmall | hostMemoryError
  deriving DecidableEq, Repr, Inhabited

/-- The attention causes, in bit order (01, Attention and the interrupt). -/
inductive Cause where
  | jobNotify | chainFault | supply | batteryLow | driveFault | wake | powerDown | checkpointMissed
  | repairOverflow | alarm | button | clockInvalid
  deriving DecidableEq, Repr, Inhabited

/-! ## Outputs -/

/-- A command on a drive's link (R131). -/
inductive DriveCmd where
  | identify
  | read (first count : Nat)
  | write (first : Nat) (data : List Byte)
  | flush
  | standby
  | wake
  | setFeature (code value : BitVec 16)
  | readTemp
  deriving DecidableEq, Repr

/-- An action of a step on the outside. -/
inductive Out where
  /-- a DMA read of host memory -/
  | hostRead (a : Addr) (len : Nat)
  /-- a DMA write of host memory -/
  | hostWrite (a : Addr) (data : List Byte)
  /-- the unused bytes of the status page written as zero, with a full write or a rewrite (R197) -/
  | pageZeroUnused
  | port (d : Fin 4) (c : DriveCmd)
  | portReset (d : Fin 4)
  | rail (d : Fin 4) (on : Bool)
  | hostRail (n : Fin 2) (on : Bool)
  deriving DecidableEq, Repr

/-- One field of the status page: its offset and its bytes. -/
abbrev PageField := Nat × List Byte

/-- What a step issues to the outside: its actions in their order, the writes of status page fields that it makes (R17), and
the link's interrupt message, which comes last (R16, notes/assumptions/17.md). -/
structure Outputs where
  acts : List Out := []
  page : List PageField := []
  /-- assert (true) or deassert -/
  msg : Option Bool := none
  /-- only while a step runs: the page's fields as they stood when a field was about to change once more -/
  notes : List (List PageField) := []
  deriving DecidableEq, Repr, Inhabited

/-! ## Chain Walker -/

structure Link where
  attach : Attach := .detached
  stage : AttachStage := .idle
  setupAddr : Addr := 0
  pageAddr : Addr := 0
  pageError : Bool := false
  rewriting : Bool := false
  /-- the fields as last issued to the page in host memory -/
  page : List PageField := []
  deriving DecidableEq, Repr, Inhabited

/-- The progress of a take attempt (R4). -/
inductive Take where
  | idle
  | linkRead
  | recordRead (link : Addr)
  | takenWrite (link : Addr) (record : List Byte)
  deriving DecidableEq, Repr, Inhabited

/-- What asked for a take attempt while one was under way (R6). -/
inductive Trigger where
  | poll | nudge
  deriving DecidableEq, Repr, Inhabited

structure Chain where
  st : ChainState := .stopped
  anchor : Addr := 0
  taken : BitVec 32 := 0
  done : BitVec 32 := 0
  inFlight : Nat := 0
  /-- the poll timer: the interval in ms it was started with, while it runs -/
  poll : Option Nat := none
  take : Take := .idle
  again : Option Trigger := none
  faultedMeanwhile : Bool := false
  deriving DecidableEq, Repr, Inhabited

/-- The parameters of a job, as its record holds them (13, Job record). -/
inductive JobReq where
  | configure (block : Addr)
  | format (boxId : BitVec 64) (h : Nat) (force : Bool)
  | load
  | checkpoint
  | driveControl (drive action : Nat)
  | setClock (seconds : BitVec 32)
  | setAlarm (slot : Nat) (actions mask : Byte) (enable : Bool) (time : BitVec 32) (period : Nat)
  | sleep
  | fetch (list : Addr) (count capacity : Nat) (dest : Addr)
  | blockRead (first count : Nat) (dest : Addr)
  | openStream (stream k verify copies minLen maxLen : Nat)
  | feed (stream srcLen : Nat) (src recipe : Addr) (capacity : Nat)
  | closeStream (stream : Nat) (recipe : Addr) (capacity : Nat) (discard withSeal : Bool)
  | retain (list : Addr) (count : Nat)
  | release (list : Addr) (count : Nat)
  | blockWrite (first count : Nat) (src : Addr)
  | scrub (start count : Nat) (wakeOk remirror : Bool) (skipRecent : Nat)
  deriving DecidableEq, Repr, Inhabited

/-- A job's outcome: what step 1 of R8 writes. -/
structure Result where
  status : Status := .ok
  aux : Nat := 0
  w0 : BitVec 32 := 0
  w1 : BitVec 32 := 0
  w2 : BitVec 32 := 0
  deriving DecidableEq, Repr, Inhabited

/-! ## Chunks, references and copies -/

/-- Copy A or copy B. -/
inductive CopyName where
  | a | b
  deriving DecidableEq, Repr, Inhabited

/-- An image slot on a catalogue drive. -/
inductive ImgSlot where
  | a | b
  deriving DecidableEq, Repr, Inhabited

inductive CopyState where
  | good | suspect | absent
  deriving DecidableEq, Repr, Inhabited

/-- Where a copy lies: its drive and its first sector. -/
structure Loc where
  drive : Fin 4 := 0
  sector : Nat := 0
  deriving DecidableEq, Repr, Inhabited

structure Copy where
  loc : Loc := {}
  st : CopyState := .good
  deriving DecidableEq, Repr, Inhabited

inductive EntryState where
  | pending | live | damaged
  deriving DecidableEq, Repr, Inhabited

/-- A chunk's key: fingerprint and length. -/
structure Key where
  fp : BitVec 64 := 0
  len : Nat := 0
  deriving DecidableEq, Repr, Inhabited

/-- An index entry (05, The entry). -/
structure Entry where
  key : Key := {}
  st : EntryState := .pending
  refcount : Nat := 1
  wanted : Nat := 1
  a : Copy := {}
  b : Option Copy := none
  day : Nat := 0
  deriving DecidableEq, Repr, Inhabited

/-- A chunk reference (R196): the drive numbers are those of its bytes, which may name no drive. -/
structure Ref where
  key : Key := {}
  unindexed : Bool := false
  oneCopy : Bool := false
  lost : Bool := false
  driveA : Nat := 0
  driveB : Nat := 0
  sectorA : Nat := 0
  sectorB : Nat := 0
  deriving DecidableEq, Repr, Inhabited

inductive AuState where
  | reserved | free | filling | sealed | drained | retired
  deriving DecidableEq, Repr, Inhabited

/-- An AU record (06, The allocation table). -/
structure AuRec where
  st : AuState := .free
  fill : Nat := 0
  live : Nat := 0
  inFlight : Nat := 0
  drainedGen : BitVec 64 := 0
  retire : Bool := false
  deriving DecidableEq, Repr, Inhabited

/-- The geometry that FORMAT fixes (R89). -/
structure Geometry where
  e : Nat := 0
  h : Nat := 0
  au : Vector Nat 4 := Vector.replicate 4 0
  c : Nat := 0
  deriving DecidableEq, Repr

/-- A kept label (06, Labels and membership). -/
structure Label where
  boxId : BitVec 64 := 0
  slot : Nat := 0
  auCount : Nat := 0
  deriving DecidableEq, Repr, Inhabited

/-- The fields of a catalogue header (13, Catalogue header). -/
structure Header where
  generation : BitVec 64 := 0
  boxId : BitVec 64 := 0
  imageCrc : BitVec 32 := 0
  e : Nat := 0
  stale0 : Bool := false
  stale1 : Bool := false
  h : Nat := 0
  au : Vector Nat 4 := Vector.replicate 4 0
  c : Nat := 0
  time : BitVec 32 := 0
  deriving DecidableEq, Repr

/-- Dirty marks of one image slot: page p is marked when p is listed, or, with `all`, when it is not listed. -/
structure Marks where
  all : Bool := false
  but : List Nat := []
  deriving DecidableEq, Repr, Inhabited

structure Cat where
  st : CatState := .notLoaded
  boxId : BitVec 64 := 0
  geo : Geometry := {}
  index : List (Nat × Entry) := []
  aus : Vector (List (Nat × AuRec)) 4 := Vector.replicate 4 []
  marksA : Marks := {}
  marksB : Marks := {}
  genA : BitVec 64 := 0
  genB : BitVec 64 := 0
  inStepA : Vector Bool 2 := Vector.replicate 2 false
  inStepB : Vector Bool 2 := Vector.replicate 2 false
  stale : Vector Bool 2 := Vector.replicate 2 false
  lastTime : BitVec 32 := 0
  collisions : Nat := 0
  unindexed : Nat := 0
  accounting : Nat := 0
  overflows : Nat := 0
  deriving DecidableEq, Repr

/-! ## Streams -/

inductive StreamState where
  | closed | opened | feeding | closing
  deriving DecidableEq, Repr, Inhabited

inductive ChunkOutcome where
  | new | duplicate | lost
  deriving DecidableEq, Repr, Inhabited

/-- The write of one copy of a chunk (R55, R97). -/
structure CopyWrite where
  copy : CopyName := .a
  loc : Loc := {}
  /-- the ADOPT count of the drive slot when the sectors were reserved (R96) -/
  epoch : Nat := 0
  /-- whether this is the re-placement -/
  second : Bool := false
  /-- the final write outcome, when it has been reached: whether the copy was written -/
  result : Option Bool := none
  deriving DecidableEq, Repr, Inhabited

inductive ChunkPhase where
  /-- cut, not yet resolved -/
  | waiting
  /-- RESOLVING: its resolution request is with the Catalogue Engine -/
  | resolving
  /-- RESOLVING: a STRICT compare reads a copy of the entry in the slot; the copies already read -/
  | comparing (slot : Nat) (reading : CopyName) (loc : Loc) (tried : List CopyName)
  /-- RESOLVING: its verdict is with the Catalogue Engine -/
  | verdict
  /-- RESOLVING: its reference write is under way -/
  | referencing
  /-- RESOLVED -/
  | resolved
  /-- its outcome is decided and its reference is being rewritten -/
  | rewriting
  deriving DecidableEq, Repr, Inhabited

inductive Target where
  | none
  | entry (slot : Nat)
  | unindexed
  deriving DecidableEq, Repr, Inhabited

/-- A chunk in a stream's window (04, the chunk record). -/
structure Chunk where
  id : Nat := 0
  key : Key := {}
  bytes : List Byte := []
  /-- how many of the bytes came from the FEED that owns the chunk -/
  own : Nat := 0
  owner : Option Nat := Option.none
  phase : ChunkPhase := .waiting
  /-- the recipe slot, once the reference was issued -/
  slot : Option Nat := Option.none
  target : Target := .none
  collision : Bool := false
  writes : List CopyWrite := []
  /-- the reference as last issued -/
  ref : Option Ref := Option.none
  outcome : Option ChunkOutcome := Option.none
  /-- the reference as it must stand when the chunk finishes -/
  final : Ref := {}
  /-- no reference write is made for it any more (R53, R64, R68) -/
  mute : Bool := false
  deriving DecidableEq, Repr, Inhabited

structure Stream where
  st : StreamState := .closed
  k : Nat := 0
  minLen : Nat := 0
  maxLen : Nat := 0
  strict : Bool := false
  copies : Nat := 0
  h : BitVec 32 := 0
  crc : BitVec 64 := BitVec.allOnes 64
  held : Bool := false
  /-- the current chunk's bytes in staging; L is their number -/
  cur : List Byte := []
  /-- how many of them came from the active FEED -/
  curOwn : Nat := 0
  window : List Chunk := []
  /-- the job list: ids of the jobs, the head first -/
  list : List Nat := []
  finished : BitVec 64 := 0
  new : BitVec 64 := 0
  lost : BitVec 64 := 0
  /-- the close under way is the internal close of R68 -/
  internal : Bool := false
  deriving DecidableEq, Repr, Inhabited

/-- The progress of a FEED or a CLOSE_STREAM (R50, R51, R65, R66). -/
structure StreamWork where
  stream : Fin 8 := 0
  recipe : Addr := 0
  capacity : Nat := 0
  src : Addr := 0
  /-- source bytes not yet taken into the cut state -/
  left : Nat := 0
  /-- bytes delivered by a source read and not yet taken (back-pressure, R38) -/
  buf : List Byte := []
  discard : Bool := false
  withSeal : Bool := false
  /-- the job has been the active job of its stream -/
  active : Bool := false
  /-- a FEED has stopped taking bytes -/
  stopped : Bool := false
  /-- a FEED has handed over; a CLOSE_STREAM has seen its stream CLOSED -/
  ended : Bool := false
  /-- references delivered at resolution -/
  written : Nat := 0
  new : Nat := 0
  lost : Nat := 0
  consumed : Nat := 0
  status : Status := .ok
  deriving DecidableEq, Repr, Inhabited

/-! ## Progress of the other jobs -/

/-- RETAIN and RELEASE (R82 to R86). -/
structure RefWork where
  refs : List Ref := []
  done : Nat := 0
  /-- RETAIN: not retained; RELEASE: removed -/
  other : Nat := 0
  missing : Nat := 0
  pinned : Nat := 0
  accounting : Bool := false
  deriving DecidableEq, Repr, Inhabited

inductive FetchState where
  /-- waits until the entry under its key leaves PENDING -/
  | waiting
  | reading (copy : CopyName) (loc : Loc)
  /-- its destination bytes are being written: chunk bytes (true) or zeros -/
  | writing (chunk : Bool)
  | settled
  deriving DecidableEq, Repr, Inhabited

/-- How a reference of a FETCH is counted. -/
inductive FetchCount where
  | none | delivered | notFound | damaged
  deriving DecidableEq, Repr, Inhabited

structure FetchRef where
  ref : Ref := {}
  offset : Nat := 0
  st : FetchState := .waiting
  count : FetchCount := .none
  /-- the slot of the entry that was found LIVE -/
  slot : Nat := 0
  /-- the entry's copies as the lookup found them, or the reference's locations -/
  a : Option Copy := Option.none
  b : Option Copy := Option.none
  /-- copies read, all of them bad -/
  tried : List CopyName := []
  /-- copies whose read was not made (R191) -/
  passed : List CopyName := []
  deriving DecidableEq, Repr, Inhabited

structure FetchWork where
  dest : Addr := 0
  refs : List FetchRef := []
  status : Status := .ok
  deriving DecidableEq, Repr, Inhabited

/-- How one catalogue drive's write of a BLOCK_WRITE ended (R162). -/
inductive AreaWrite where
  | notOffered | underWay | done | partly | nothing
  deriving DecidableEq, Repr, Inhabited

structure BlockWriteWork where
  first : Nat := 0
  count : Nat := 0
  data : List Byte := []
  /-- the source has been read -/
  ready : Bool := false
  offered : Bool := false
  d0 : AreaWrite := .notOffered
  d1 : AreaWrite := .notOffered
  deriving DecidableEq, Repr, Inhabited

structure BlockReadWork where
  first : Nat := 0
  count : Nat := 0
  dest : Addr := 0
  drive : Fin 4 := 0
  /-- the drive's stale flag when it was chosen -/
  stale : Bool := false
  others : List (Fin 4) := []
  deriving DecidableEq, Repr, Inhabited

/-- A header read of LOAD. -/
inductive HdrRead where
  | none | underWay | read (sector : List Byte) | failed
  deriving DecidableEq, Repr, Inhabited

inductive LoadStage where
  | starting | headers | image
  deriving DecidableEq, Repr, Inhabited

/-- A header that passed its check and has not been tried (R118). -/
structure Candidate where
  drive : Fin 4 := 0
  slot : ImgSlot := .a
  hdr : Header := {}
  deriving DecidableEq, Repr

structure LoadWork where
  stage : LoadStage := .starting
  /-- drives whose start LOAD waits for -/
  waiting : List (Fin 4) := []
  a0 : HdrRead := .none
  a1 : HdrRead := .none
  b0 : HdrRead := .none
  b1 : HdrRead := .none
  /-- the slot B header reads have been offered, or slot B cannot be located -/
  bAsked : Bool := false
  /-- the headers that passed, the one being tried first -/
  cands : List Candidate := []
  passed : Nat := 0
  /-- page reads of the tried image under way -/
  reads : Nat := 0
  bytes : List Byte := []
  bad : Bool := false
  deriving DecidableEq, Repr

/-- The steps of FORMAT's write sequence on one drive (R121). -/
inductive FormatStep where
  | none | label | zeroB | flush1 | pages | flush2 | header | flush3 | finished | failed
  deriving DecidableEq, Repr, Inhabited

structure FormatWork where
  boxId : BitVec 64 := 0
  h : Nat := 0
  writing : Bool := false
  waiting : List (Fin 4) := []
  geo : Geometry := {}
  time : BitVec 32 := 0
  steps : Vector FormatStep 4 := Vector.replicate 4 .none
  /-- page writes under way on drives 0 and 1 -/
  pagesLeft : Vector Nat 2 := Vector.replicate 2 0
  /-- drives whose label write was answered DONE -/
  labelled : BitVec 4 := 0
  deriving DecidableEq, Repr

inductive AdoptStage where
  | starting | labelRead | askingHold | copying | checkpointing | labelWrite
  deriving DecidableEq, Repr, Inhabited

structure AdoptWork where
  drive : Fin 4 := 0
  stage : AdoptStage := .starting
  absent : Nat := 0
  damaged : Nat := 0
  reset : Nat := 0
  auCopied : Nat := 0
  status : Status := .ok
  deriving DecidableEq, Repr, Inhabited

inductive ResyncStage where
  | starting | askingHold | copying
  deriving DecidableEq, Repr, Inhabited

/-- The progress of a job in flight. -/
inductive JobPhase where
  /-- taken and passed to the block that carries it out (R5); its own row has not run yet -/
  | dispatched
  | configRead
  | stream (w : StreamWork)
  /-- OPEN_STREAM waiting on its stream's job list -/
  | openListed
  /-- CLOSE_STREAM with SEAL, waiting for its checkpoint with its result (R67) -/
  | sealing (r : Result)
  /-- the reference list of RETAIN or RELEASE is being read -/
  | refList
  | refs (w : RefWork)
  | fetchList
  | fetching (w : FetchWork)
  | blockWriting (w : BlockWriteWork)
  | blockReading (w : BlockReadWork)
  /-- the destination write of a BLOCK_READ, with its result -/
  | blockDelivering (r : Result)
  | checkpointing
  | loading (w : LoadWork)
  | formatting (w : FormatWork)
  /-- DRIVE_CONTROL START -/
  | starting (d : Fin 4)
  /-- DRIVE_CONTROL PARK (false) or POWER_OFF (true) -/
  | parking (d : Fin 4) (off : Bool)
  | adopting (w : AdoptWork)
  | resyncing (d : Fin 4) (stage : ResyncStage)
  | scrubbing
  | sleeping
  /-- step 1 of R8 is under way -/
  | writingResults (r : Result)
  /-- step 2 of R8 is under way -/
  | writingDone (r : Result)
  deriving DecidableEq, Repr

structure Job where
  id : Nat
  chain : Fin 4
  record : Addr
  notify : Bool
  req : JobReq
  phase : JobPhase
  /-- the start failures of the drive of a START, PARK or POWER_OFF since the job was taken (R151) -/
  fails : Nat := 0
  deriving DecidableEq, Repr

/-! ## Configuration and clock -/

structure DriveCfg where
  spinUp : Nat := 20
  run : Nat := 6
  park : Nat := 1
  idlePark : Nat := 900
  startTimeout : Nat := 30
  setup : List (BitVec 16 × BitVec 16) := []
  deriving DecidableEq, Repr, Inhabited

/-- The configuration, with the defaults of its table (R25). -/
structure Cfg where
  poll : Nat := 10
  k : Nat := 16
  minLen : Nat := 16384
  maxLen : Nat := 262144
  strict : Bool := true
  copies : Nat := 2
  e : Nat := 20
  mainsBudget : Nat := 60
  batteryBudget : Nat := 25
  drive : Vector DriveCfg 4 := Vector.replicate 4 {}
  hot : Nat := 55
  recover : Nat := 50
  hotGrace : Nat := 120
  mediaLimit : Nat := 8
  leak : Nat := 5
  railGrace : Nat := 2
  holdTime : Nat := 60
  credit : Nat := 8
  wakeNetwork : Bool := true
  wakeButton : Bool := true
  wakeAlarm : Bool := true
  wakeMains : Bool := true
  deriving DecidableEq, Repr

structure Alarm where
  time : BitVec 32 := 0
  period : Nat := 0
  wake : Bool := false
  prestart : Bool := false
  attention : Bool := false
  mask : BitVec 4 := 0
  enable : Bool := false
  deriving DecidableEq, Repr, Inhabited

structure Clock where
  count : BitVec 32 := 0
  valid : Bool := false
  alarms : Vector Alarm 4 := Vector.replicate 4 {}
  deriving DecidableEq, Repr

/-! ## Operations and ports -/

inductive OpKind where
  | chunkRead | chunkWrite | areaRead | areaWrite | labelRead | labelWrite | flush | tempPoll
  deriving DecidableEq, Repr, Inhabited

/-- On whose behalf an operation was offered. -/
inductive Owner where
  | chunkCopy (stream : Fin 8) (chunk : Nat) (copy : CopyName)
  | compare (stream : Fin 8) (chunk : Nat)
  | fetch (job ref : Nat)
  | blockRead (job : Nat)
  | blockWrite (job : Nat)
  | checkpoint
  | loadLabel
  | loadHeader (slot : ImgSlot)
  | loadPage
  | format
  | adoptLabelRead
  | adoptLabelWrite
  | hostCopy
  | repairRead
  | repairWrite
  | scrubRead (copy : CopyName)
  | scrubRewrite (copy : CopyName)
  | scrubMirror
  | tempPoll
  deriving DecidableEq, Repr, Inhabited

inductive OpState where
  | waiting | active | suspended
  deriving DecidableEq, Repr, Inhabited

structure Op where
  id : Nat := 0
  cls : WorkClass := .bulk
  kind : OpKind := .flush
  first : Nat := 0
  count : Nat := 0
  owner : Owner := .checkpoint
  /-- what a write carries -/
  payload : List Byte := []
  st : OpState := .waiting
  /-- segments answered DONE -/
  segsDone : Nat := 0
  /-- what the answered segments of a read delivered -/
  data : List Byte := []
  /-- its owner has withdrawn it while a segment was in flight (R137) -/
  withdrawn : Bool := false
  deriving DecidableEq, Repr, Inhabited

/-- The outcome of an operation (R130). -/
inductive OpOutcome where
  | done (data : List Byte)
  | error (media : Bool)
  | noAnswer
  | driveFailed
  | notReady
  | withdrawn
  deriving DecidableEq, Repr, Inhabited

structure Offer where
  drive : Fin 4 := 0
  op : Op := {}
  deriving DecidableEq, Repr, Inhabited

/-- What the command outstanding on a port is for. -/
inductive PortUse where
  /-- the next segment of the operation with this id -/
  | segment (op : Nat)
  | feature
  | identify
  | label
  | standby
  | wake
  deriving DecidableEq, Repr, Inhabited

inductive PortState where
  | idle
  | command (u : PortUse) (c : DriveCmd) (retried : Bool)
  /-- resetting after a command's timeout -/
  | resetting (u : PortUse) (c : DriveCmd) (retried : Bool)
  /-- the port reset that ENGINE_RESET makes (R138) -/
  | engineResetting
  deriving DecidableEq, Repr

inductive StartupStage where
  | features | identify | label
  deriving DecidableEq, Repr, Inhabited

/-- A start-up phase in progress (R133, R134). -/
structure Startup where
  stage : StartupStage := .features
  /-- setup list entries not yet ended -/
  todo : List (BitVec 16 × BitVec 16) := []
  failed : Bool := false
  deriving DecidableEq, Repr, Inhabited

/-! ## Drive power and health -/

/-- Who raised a demand (09, Start requests). -/
inductive DemandBy where
  | prestart | checkpoint | load | format | start | adopt | resync
  deriving DecidableEq, Repr, Inhabited

/-- A pending park (off = false) or power-off; whether a DRIVE_CONTROL job waits on it. -/
structure ParkReq where
  off : Bool := false
  job : Bool := false
  deriving DecidableEq, Repr, Inhabited

/-- The causes FAILED is latched with. -/
structure Causes where
  start : Bool := false
  noAnswer : Bool := false
  removed : Bool := false
  rail : Bool := false
  deriving DecidableEq, Repr, Inhabited

/-- The causes of a fault snapshot, coded as in the chapter Record Formats. -/
inductive FaultCause where
  | start | noAnswer | removed | rail | media
  deriving DecidableEq, Repr, Inhabited

/-- A fault snapshot (R180). -/
structure Snapshot where
  failed : Bool := false
  cause : FaultCause := .media
  time : BitVec 32 := 0
  temp : Option Int := Option.none
  score : Nat := 0
  noAnswer : Nat := 0
  startFails : Nat := 0
  power : Power := .absent
  deriving DecidableEq, Repr, Inhabited

structure Drive where
  -- Power Controller
  present : Bool := false
  power : Power := .absent
  rail : Bool := false
  fromParked : Bool := false
  startTimer : Option Nat := Option.none
  wakeAsked : Bool := false
  standbyAsked : Bool := false
  demands : List DemandBy := []
  park : Option ParkReq := Option.none
  idle : Option Nat := Option.none
  /-- the conditions under which the idle timer runs held after the last step -/
  idleCond : Bool := false
  idleHeld : Bool := false
  railGrace : Option Nat := Option.none
  -- Operation Scheduler and Drive Port
  ops : List Op := []
  room : List Op := []
  credit : Nat := 8
  port : PortState := .idle
  startup : Option Startup := Option.none
  setupIncomplete : Bool := false
  identified : Bool := false
  capacity : Nat := 0
  -- Integrity Unit
  temp : Option Int := Option.none
  hot : Bool := false
  hotGrace : Option Nat := Option.none
  poll : Option Nat := Option.none
  score : Nat := 0
  decay : Option Nat := Option.none
  noAnswer : Nat := 0
  startFails : Nat := 0
  degraded : Bool := false
  causes : Causes := {}
  snap : Option Snapshot := Option.none
  snapCount : BitVec 32 := 0
  -- Catalogue Engine
  label : Option Label := Option.none
  epoch : Nat := 0
  deriving DecidableEq, Repr

/-- A start request (R141, R142): `age` orders the joining moments. -/
structure StartReq where
  drive : Fin 4 := 0
  cls : WorkClass := .bulk
  age : Nat := 0
  deriving DecidableEq, Repr, Inhabited

/-! ## Catalogue requests, hold and checkpoint -/

inductive Verdict where
  | equal | different | noGoodCopy
  deriving DecidableEq, Repr, Inhabited

/-- How a chunk write ended, as R96 and R167 distinguish it. -/
inductive WriteResult where
  | done | media | failed
  /-- a repair write that ended NOT_READY because the box sleeps: for its AU an error of another kind, after which the repair
  stops -/
  | asleep
  deriving DecidableEq, Repr, Inhabited

/-- The owner of a chunk write whose outcome is a request of its own. -/
inductive WriteOwner where
  | chunk (stream : Fin 8) (chunk : Nat) (copy : CopyName)
  | repair
  | mirror
  deriving DecidableEq, Repr, Inhabited

/-- A mutation request to the Catalogue Engine (R80). -/
inductive CatReq where
  | resolution (stream : Fin 8) (chunk : Nat)
  | verdict (stream : Fin 8) (chunk : Nat) (v : Verdict)
  | writeOutcome (o : WriteOwner) (r : WriteResult)
  | retainRef (job : Nat)
  | releaseRef (job : Nat)
  /-- the copy of the slot's entry was read bad -/
  | badCopy (slot : Nat) (key : Key) (copy : CopyName) (loc : Loc)
  /-- every copy that was read of the slot's entry was bad -/
  | damage (slot : Nat) (key : Key)
  | repairPlacement
  | repairUpdate
  | scrubPlan
  | scrubUpdate
  deriving DecidableEq, Repr, Inhabited

inductive HoldOwner where
  | checkpoint | adopt | resync
  deriving DecidableEq, Repr, Inhabited

inductive CkptReq where
  | job (id : Nat)
  | sealed (id : Nat)
  | adopt
  | sleep
  | shutdown (exclude0 exclude1 : Bool)
  deriving DecidableEq, Repr, Inhabited

/-- One tried drive's write sequence (R110). -/
inductive CkptStep where
  | notTried
  /-- tried, its start not yet ended -/
  | starting
  /-- tried, READY when looked at; the image write has not begun -/
  | prepared
  | pages (left : Nat)
  | flush1
  | header
  | flush2
  | completed
  | failed
  deriving DecidableEq, Repr, Inhabited

structure Ckpt where
  reqs : List CkptReq := []
  d0 : CkptStep := .notTried
  d1 : CkptStep := .notTried
  /-- it has asked for the hold -/
  asked : Bool := false
  /-- the image write has begun: the values fixed then -/
  writing : Bool := false
  target : ImgSlot := .a
  gen : BitVec 64 := 0
  crc : BitVec 32 := 0
  time : BitVec 32 := 0
  deriving DecidableEq, Repr, Inhabited

/-- A host-area copy (R101). -/
structure HostCopy where
  target : Fin 2 := 0
  /-- pairs completed -/
  pairs : Nat := 0
  /-- it waits for the AREA_WRITEs already offered by BLOCK_WRITE -/
  waiting : Bool := true
  deriving DecidableEq, Repr, Inhabited

structure Engine where
  requests : List CatReq := []
  held : List CatReq := []
  waiters : List CatReq := []
  hold : Option HoldOwner := Option.none
  holdQueue : List HoldOwner := []
  ckpt : Option Ckpt := Option.none
  queued : Option (List CkptReq) := Option.none
  hostCopy : Option HostCopy := Option.none
  /-- BLOCK_WRITE jobs abandoned while writes that they had offered still run (R190), with their ids -/
  orphans : List (Nat × BlockWriteWork) := []
  deriving DecidableEq, Repr, Inhabited

/-! ## Repair and scrub -/

inductive RepairReason where
  | verifyFail | readError | missing
  deriving DecidableEq, Repr, Inhabited

structure RepairEntry where
  slot : Nat := 0
  copy : CopyName := .a
  reason : RepairReason := .verifyFail
  key : Key := {}
  loc : Loc := {}
  deriving DecidableEq, Repr, Inhabited

/-- The repair worker (R165 to R167); `src` is the source copy's location. -/
inductive Worker where
  | idle
  | reading (e : RepairEntry) (src : Loc)
  | placing (e : RepairEntry) (src : Loc) (buf : List Byte)
  | writing (e : RepairEntry) (src : Loc) (buf : List Byte) (loc : Loc) (epoch : Nat) (second : Bool)
  | updating (e : RepairEntry) (src loc : Loc) (epoch : Nat)
  deriving DecidableEq, Repr, Inhabited

structure Repair where
  list : List RepairEntry := []
  worker : Worker := .idle
  deriving DecidableEq, Repr, Inhabited

/-- A copy's verdict in a scrub step (R170). -/
inductive CopyVerdict where
  | reading | good | bad (reason : RepairReason) | notRead
  deriving DecidableEq, Repr, Inhabited

structure ScrubCopy where
  copy : CopyName := .a
  loc : Loc := {}
  verdict : CopyVerdict := .reading
  deriving DecidableEq, Repr, Inhabited

structure ScrubRewrite where
  copy : CopyName := .a
  loc : Loc := {}
  epoch : Nat := 0
  reason : RepairReason := .verifyFail
  result : Option WriteResult := Option.none
  deriving DecidableEq, Repr, Inhabited

/-- The copy that REMIRROR adds (R171 step 5). -/
structure ScrubMirror where
  /-- the copy whose place it takes, and where that copy stood -/
  place : CopyName := .b
  old : Option Copy := Option.none
  loc : Loc := {}
  epoch : Nat := 0
  second : Bool := false
  result : Option WriteResult := Option.none
  /-- its last outcome has been applied to its AU -/
  applied : Bool := false
  deriving DecidableEq, Repr, Inhabited

inductive ScrubStage where
  | reading | planning | writing | updating
  deriving DecidableEq, Repr, Inhabited

structure ScrubStep where
  slot : Nat := 0
  key : Key := {}
  copies : List ScrubCopy := []
  buf : Option (List Byte) := Option.none
  stage : ScrubStage := .reading
  rewrites : List ScrubRewrite := []
  mirror : Option ScrubMirror := Option.none
  deriving DecidableEq, Repr, Inhabited

/-- The scrub context (11, The SCRUB job). -/
structure ScrubCtx where
  /-- the job, unless it was abandoned -/
  job : Option Nat := Option.none
  wakeOk : Bool := false
  remirror : Bool := false
  skipRecent : Nat := 0
  next : Nat := 0
  left : Nat := 0
  walked : Nat := 0
  repaired : Nat := 0
  damaged : Nat := 0
  skipped : Nat := 0
  clamped : Bool := false
  step : Option ScrubStep := Option.none
  deriving DecidableEq, Repr, Inhabited

/-! ## Box -/

inductive HoldTimer where
  | stopped
  | running (seconds : Nat)
  | expired
  deriving DecidableEq, Repr, Inhabited

/-- The steps of the two box sequences (R185, R190, R191). -/
inductive SeqStep where
  | stop | close | others | checkpoint | park | complete | detach | consent
  deriving DecidableEq, Repr, Inhabited

inductive SeqCkpt where
  | none | waiting | succeeded | failed
  deriving DecidableEq, Repr, Inhabited

structure Seq where
  /-- the emergency shutdown, or else the sleep sequence -/
  shutdown : Bool := false
  step : SeqStep := .stop
  /-- the SLEEP job -/
  job : Option Nat := Option.none
  closed : Nat := 0
  ckpt : SeqCkpt := .none
  deriving DecidableEq, Repr, Inhabited

/-- The wake reason set (13, Status page, offset 132). -/
structure WakeReason where
  cold : Bool := false
  network : Bool := false
  button : Bool := false
  alarm : Bool := false
  mains : Bool := false
  deriving DecidableEq, Repr, Inhabited

structure Box where
  st : BoxState := .waking
  supply : Supply := .mains
  battLow : Bool := false
  switchTime : BitVec 32 := 0
  hold : HoldTimer := .stopped
  seq : Option Seq := Option.none
  drain : Bool := false
  consentTimer : Bool := false
  consentWait : Bool := false
  consentKept : Bool := false
  pendingMains : Bool := false
  wakeReason : WakeReason := {}
  rail1 : Bool := false
  rail2 : Bool := false
  fromSleep : Bool := false
  keptPrestart : BitVec 4 := 0
  deriving DecidableEq, Repr, Inhabited

end Sys2Proof.Machine
end

