-- ==== Sys2Proof/Config.lean ====
section
/-! DEFINITION. What the manual leaves to the part: the layout of an index slot and of an AU record inside an image
page, and result words that it gives no value. The constants have no body, so no proof can know which layout it is (notes/assumptions/9.md). -/

namespace Sys2Proof

/-- The 32 bytes of an index slot in an index page ("internal to the part", 05 Index geometry); `none` is FREE. -/
opaque Config.slotBytes : Option Machine.Entry → Vector Byte 32

/-- The 8 bytes of an AU record in an allocation page (512 records a page, R89; layout internal to the part). -/
opaque Config.auBytes : Machine.AuRec → Vector Byte 8

/-- How the part reads an index slot's 32 bytes back. -/
opaque Config.slotOfBytes : List Byte → Option Machine.Entry

/-- How the part reads an AU record's 8 bytes back. -/
opaque Config.auOfBytes : List Byte → Machine.AuRec

/-- A result word or aux that the manual gives no value: LOAD's and FORMAT's results with a status other than those
whose results are stated (R117, R120, R121), and BLOCK_READ's word 1 and aux after a destination bus error (R163). The
number is taken from `State.nextId`, so that no two occasions share it (notes/assumptions/10.md). -/
opaque Config.openWord : Nat → BitVec 32

end Sys2Proof
end

