-- ==== Sys2Proof/Machine/Bytes.lean ====
section
/-! DEFINITION. Byte order (R195), the two CRCs (R43, R45), the rolling hash's term (R35) and rounding up (R46). -/

namespace Sys2Proof.Machine

/-- ⌈n / d⌉. -/
def ceilDiv (n d : Nat) : Nat := (n + (d - 1)) / d

/-- The `n` bytes of `v`, least significant first (R195). -/
def leBytes : Nat → Nat → List Byte
  | 0, _ => []
  | n + 1, v => BitVec.ofNat 8 v :: leBytes n (v / 256)

/-- The number that bytes spell, least significant first (R195). -/
def ofLe : List Byte → Nat
  | [] => 0
  | b :: bs => b.toNat + 256 * ofLe bs

/-- The field of `size` bytes at `offset`; a byte that is not there counts as 0. -/
def field (r : List Byte) (offset size : Nat) : Nat := ofLe ((r.drop offset).take size)

/-- Bit `i` of the byte at `offset`. -/
def flagBit (r : List Byte) (offset i : Nat) : Bool := (r.getD offset 0).getLsbD i

/-- `n` bytes of zero. -/
def zeros (n : Nat) : List Byte := List.replicate n 0

/-- The list cut or filled with zeros to `n` bytes. -/
def padTo (n : Nat) (l : List Byte) : List Byte := l.take n ++ zeros (n - l.length)

/-- One shift of the CRC-64 register toward its most significant end (R43). -/
def crc64Shift (r : BitVec 64) : BitVec 64 :=
  if r.msb then (r <<< 1) ^^^ 0x42F0E1EBA9EA3693#64 else r <<< 1

/-- `n` shifts. -/
def crc64Shifts : Nat → BitVec 64 → BitVec 64
  | 0, r => r
  | n + 1, r => crc64Shifts n (crc64Shift r)

/-- The CRC-64 register takes in a byte (R43). -/
def crc64Byte (r : BitVec 64) (b : Byte) : BitVec 64 :=
  crc64Shifts 8 (r ^^^ (b.setWidth 64 <<< 56))

/-- The fingerprint of a run of bytes (R43). -/
def fingerprint (l : List Byte) : BitVec 64 := ~~~ (l.foldl crc64Byte (BitVec.allOnes 64))

/-- One shift of the CRC-32 register toward its least significant end (R45). -/
def crc32Shift (r : BitVec 32) : BitVec 32 :=
  if r.getLsbD 0 then (r >>> 1) ^^^ 0xEDB88320#32 else r >>> 1

/-- `n` shifts. -/
def crc32Shifts : Nat → BitVec 32 → BitVec 32
  | 0, r => r
  | n + 1, r => crc32Shifts n (crc32Shift r)

/-- The CRC-32 register takes in a byte (R45). -/
def crc32Byte (r : BitVec 32) (b : Byte) : BitVec 32 := crc32Shifts 8 (r ^^^ b.setWidth 32)

/-- The image and header check of a run of bytes (R45). -/
def crc32 (l : List Byte) : BitVec 32 := ~~~ (l.foldl crc32Byte (BitVec.allOnes 32))

/-- G(b) of R35. -/
def hashTerm (b : Byte) : BitVec 32 := BitVec.ofNat 32 ((b.toNat + 1) * 2654435761)

/-- h after a byte (R35 step 2). -/
def hashStep (h : BitVec 32) (b : Byte) : BitVec 32 := BitVec.ofNat 32 (2 * h.toNat) + hashTerm b

/-- Bytes in a sector. -/
def sectorBytes : Nat := 4096

/-- Sectors of a chunk of `len` bytes (R46). -/
def sectorsOf (len : Nat) : Nat := ceilDiv len 4096

/-- A number raised by one and saturating at `top`. -/
def satInc (top n : Nat) : Nat := if n < top then n + 1 else n

/-- The top of the 32-bit saturating counts. -/
def top32 : Nat := 4294967295

end Sys2Proof.Machine
end

