-- ==== Sys2Proof/Machine/Operands.lean ====
section
/-! DEFINITION. The records of the chapter Record Formats, read and written: job record, setup block, configuration
block with its clamping (R21, R22), reference, catalogue header, drive label, and a job's result. -/

namespace Sys2Proof.Machine

/-! ## Status codes -/

/-- The code a status is written as (01, Status codes). -/
def Status.code : Status → Nat
  | .ok => 0x0000
  | .okClamped => 0x0001
  | .partialStop => 0x0002
  | .badKind => 0x0010
  | .badParam => 0x0011
  | .wrongState => 0x0012
  | .noCatalogue => 0x0013
  | .noSpace => 0x0020
  | .writeFailed => 0x0021
  | .damagedData => 0x0022
  | .notFound => 0x0023
  | .readFailed => 0x0024
  | .driveUnavailable => 0x0030
  | .checkpointFailed => 0x0031
  | .noValidImage => 0x0032
  | .tooSmall => 0x0033
  | .hostMemoryError => 0x0040

/-- The severity of a status (01, Status codes). -/
def Status.severity : Status → Nat
  | .ok => 0
  | .okClamped => 1
  | .partialStop => 2
  | .badKind => 3
  | .badParam => 4
  | .wrongState => 5
  | .noCatalogue => 6
  | .noSpace => 7
  | .writeFailed => 8
  | .damagedData => 9
  | .notFound => 10
  | .readFailed => 11
  | .driveUnavailable => 12
  | .checkpointFailed => 13
  | .noValidImage => 14
  | .tooSmall => 15
  | .hostMemoryError => 16

/-- The more severe of two outcomes (R19). -/
def Status.worse (x y : Status) : Status := if x.severity < y.severity then y else x

/-- `x` when the condition holds, else OK. -/
def Status.when (c : Bool) (x : Status) : Status := if c then x else .ok

/-! ## Results -/

/-- The 16 bytes at offset 48 of a job record that step 1 of R8 writes: status, aux and the three result words. -/
def Result.bytes (r : Result) : List Byte :=
  leBytes 2 r.status.code ++ leBytes 2 r.aux ++ leBytes 4 r.w0.toNat ++ leBytes 4 r.w1.toNat ++ leBytes 4 r.w2.toNat

/-- A refusal: results and aux 0 (R5). -/
def Result.refusal (s : Status) : Result := { status := s }

/-! ## Setup block and job record -/

/-- The status page address of a setup block. -/
def setupPage (r : List Byte) : Addr := BitVec.ofNat 64 (field r 0 8)

/-- The root address of chain `c` in a setup block. -/
def setupRoot (r : List Byte) (c : Fin 4) : Addr := BitVec.ofNat 64 (field r (8 + 8 * c.val) 8)

/-- Whether an address is non-zero and a multiple of `n`. -/
def goodAddr (n : Nat) (a : Addr) : Bool := a != 0 && a.toNat % n == 0

/-- The link at the head of a job record or anchor (13, Job record). -/
def recordLink (r : List Byte) : Addr := BitVec.ofNat 64 (field r 0 8)

/-- The state byte of a job record says POSTED. -/
def recordPosted (r : List Byte) : Bool := r.getD 9 0 == 1

/-- The NOTIFY flag of a job record. -/
def recordNotify (r : List Byte) : Bool := flagBit r 10 0

/-- The kind and parameters of a job record; `none` for a code that is no kind (13, Job record). -/
def parseJob (r : List Byte) : Option JobReq :=
  let addr := fun o => BitVec.ofNat 64 (field r o 8)
  match field r 8 1 with
  | 0x01 => some (.configure (addr 16))
  | 0x02 => some (.format (BitVec.ofNat 64 (field r 16 8)) (field r 24 2) (flagBit r 10 1))
  | 0x03 => some .load
  | 0x04 => some .checkpoint
  | 0x05 => some (.driveControl (field r 16 1) (field r 17 1))
  | 0x06 => some (.setClock (BitVec.ofNat 32 (field r 16 4)))
  | 0x07 => some (.setAlarm (field r 16 1) (r.getD 17 0) (r.getD 18 0) (flagBit r 19 0)
      (BitVec.ofNat 32 (field r 20 4)) (field r 24 4))
  | 0x08 => some .sleep
  | 0x10 => some (.fetch (addr 16) (field r 24 4) (field r 28 4) (addr 32))
  | 0x11 => some (.blockRead (field r 16 4) (field r 20 2) (addr 24))
  | 0x20 => some (.openStream (field r 16 1) (field r 17 1) (field r 18 1) (field r 19 1) (field r 20 4) (field r 24 4))
  | 0x21 => some (.feed (field r 16 1) (field r 20 4) (addr 24) (addr 32) (field r 40 4))
  | 0x22 => some (.closeStream (field r 16 1) (addr 24) (field r 32 4) (flagBit r 10 1) (flagBit r 10 2))
  | 0x23 => some (.retain (addr 16) (field r 24 4))
  | 0x24 => some (.release (addr 16) (field r 24 4))
  | 0x25 => some (.blockWrite (field r 16 4) (field r 20 2) (addr 24))
  | 0x30 => some (.scrub (field r 16 4) (field r 20 4) (flagBit r 24 0) (flagBit r 24 1) (field r 25 1))
  | _ => none

/-- The chain that accepts a kind (01, The chain contexts). -/
def JobReq.chain : JobReq → Fin 4
  | .configure _ | .format _ _ _ | .load | .checkpoint | .driveControl _ _ | .setClock _ | .setAlarm _ _ _ _ _ _
  | .sleep => 0
  | .fetch _ _ _ _ | .blockRead _ _ _ => 1
  | .openStream _ _ _ _ _ _ | .feed _ _ _ _ _ | .closeStream _ _ _ _ _ | .retain _ _ | .release _ _
  | .blockWrite _ _ _ => 2
  | .scrub _ _ _ _ _ => 3

/-- The in-flight limit of a chain (01, The chain contexts). -/
def chainLimit (c : Fin 4) : Nat := if c = 1 ∨ c = 2 then 8 else 1

/-! ## Configuration block -/

/-- A clamped value: the number of its field in the table of the configuration, and its drive for a per-drive field. -/
abbrev Clamped := Nat × Option (Fin 4)

/-- A value clamped to the nearer end of a range (R21), with the field's number listed when it had to change. -/
def clampTo (no : Nat) (drive : Option (Fin 4)) (lo hi v : Nat) : Nat × List Clamped :=
  if v < lo then (lo, [(no, drive)]) else if hi < v then (hi, [(no, drive)]) else (v, [])

/-- The entries of drive `d`'s setup list, at most the first 16. -/
def setupEntries (r : List Byte) (d : Fin 4) (n : Nat) : List (BitVec 16 × BitVec 16) :=
  (List.range (min n 16)).map fun i =>
    (BitVec.ofNat 16 (field r (128 + 64 * d.val + 4 * i) 2), BitVec.ofNat 16 (field r (128 + 64 * d.val + 4 * i + 2) 2))

/-- The four drives. -/
def drives4 : List (Fin 4) := [0, 1, 2, 3]

/-- Idle park time (R21): 0 is taken as given and 1 to 59 as 60. -/
def clampIdle (d : Fin 4) (v : Nat) : Nat × List Clamped :=
  if v = 0 then (0, []) else clampTo 13 (some d) 60 65535 v

/-- What a 512-byte configuration block installs, and its clamped values in table order (R21, R22). -/
def readCfg (r : List Byte) : Cfg × List Clamped :=
  let byte := fun o => field r o 1
  let perDrive := fun (no o size lo hi : Nat) (d : Fin 4) => clampTo no (some d) lo hi (field r (64 + 16 * d.val + o) size)
  let k := clampTo 2 none 11 18 (byte 1)
  let maxLen := clampTo 4 none 4096 1048576 (field r 8 4)
  let minLen := clampTo 3 none 512 maxLen.1 (field r 4 4)
  let strict : Bool × List Clamped :=
    if byte 2 = 1 then (true, []) else if byte 2 = 2 then (false, []) else (true, [(5, none)])
  let copies := clampTo 6 none 1 2 (byte 3)
  let e := clampTo 7 none 16 24 (byte 12)
  let mains := clampTo 8 none 10 255 (byte 13)
  let battery := clampTo 9 none 0 255 (byte 14)
  let spin := fun d => perDrive 10 0 1 1 100 d
  let run := fun d => perDrive 11 1 1 1 50 d
  let park := fun d => perDrive 12 2 1 0 20 d
  let idle := fun (d : Fin 4) => clampIdle d (field r (64 + 16 * d.val + 4) 2)
  let start := fun d => perDrive 14 3 1 5 60 d
  let setup := fun (d : Fin 4) =>
    let n := field r (64 + 16 * d.val + 6) 1
    (setupEntries r d n, (if 16 < n then [(15, some d)] else [] : List Clamped))
  let hot := clampTo 16 none 30 80 (byte 15)
  let recover := clampTo 17 none (hot.1 - 20) (hot.1 - 1) (byte 16)
  let hotGrace := clampTo 18 none 10 3600 (field r 20 2)
  let media := clampTo 19 none 1 255 (byte 17)
  let leak := clampTo 20 none 1 50 (byte 18)
  let railGrace := clampTo 21 none 1 10 (byte 19)
  let hold := clampTo 22 none 0 600 (field r 22 2)
  let credit := clampTo 23 none 1 64 (byte 24)
  let driveCfg := fun (d : Fin 4) =>
    ({ spinUp := (spin d).1, run := (run d).1, park := (park d).1, idlePark := (idle d).1,
       startTimeout := (start d).1, setup := (setup d).1 } : DriveCfg)
  ({ poll := byte 0, k := k.1, minLen := minLen.1, maxLen := maxLen.1, strict := strict.1, copies := copies.1, e := e.1,
     mainsBudget := mains.1, batteryBudget := battery.1, drive := Vector.ofFn driveCfg, hot := hot.1, recover := recover.1,
     hotGrace := hotGrace.1, mediaLimit := media.1, leak := leak.1, railGrace := railGrace.1, holdTime := hold.1,
     credit := credit.1, wakeNetwork := flagBit r 25 0, wakeButton := flagBit r 25 1, wakeAlarm := flagBit r 25 2,
     wakeMains := flagBit r 25 3 },
   k.2 ++ minLen.2 ++ maxLen.2 ++ strict.2 ++ copies.2 ++ e.2 ++ mains.2 ++ battery.2
     ++ drives4.flatMap (fun d => (spin d).2) ++ drives4.flatMap (fun d => (run d).2)
     ++ drives4.flatMap (fun d => (park d).2) ++ drives4.flatMap (fun d => (idle d).2)
     ++ drives4.flatMap (fun d => (start d).2) ++ drives4.flatMap (fun d => (setup d).2)
     ++ hot.2 ++ recover.2 ++ hotGrace.2 ++ media.2 ++ leak.2 ++ railGrace.2 ++ hold.2 ++ credit.2)

/-- The drives named in a list of clamped values, as a mask (R21, result word 1). -/
def clampedDrives (l : List Clamped) : BitVec 4 :=
  l.foldl (fun m c => match c.2 with | some d => m ||| (1#4 <<< d.val) | none => m) 0

/-- CONFIGURE's result (R21). -/
def configureResult (l : List Clamped) : Result :=
  { status := if l.isEmpty then .ok else .okClamped
    aux := min l.length 65535
    w0 := BitVec.ofNat 32 ((l.head?.map (·.1)).getD 0)
    w1 := (clampedDrives l).setWidth 32
    w2 := 0 }

/-! ## References -/

/-- A reference read as R196 states: without UNINDEXED its locations are ignored; with ONE_COPY copy B's are. -/
def readRef (r : List Byte) : Ref :=
  let u := flagBit r 12 0
  let one := flagBit r 12 1
  { key := { fp := BitVec.ofNat 64 (field r 0 8), len := field r 8 4 }
    unindexed := u
    oneCopy := one
    lost := flagBit r 12 2
    driveA := if u then field r 13 1 else 0
    driveB := if u && !one then field r 14 1 else 0
    sectorA := if u then field r 16 8 else 0
    sectorB := if u && !one then field r 24 8 else 0 }

/-- The 32 bytes of a reference that the Chunker writes (R195, R196). -/
def Ref.bytes (r : Ref) : List Byte :=
  let flags := (if r.unindexed then 1 else 0) + (if r.oneCopy then 2 else 0) + (if r.lost then 4 else 0)
  let locs := r.unindexed
  let locB := r.unindexed && !r.oneCopy
  leBytes 8 r.key.fp.toNat ++ leBytes 4 r.key.len ++ [BitVec.ofNat 8 flags]
    ++ leBytes 1 (if locs then r.driveA else 0) ++ leBytes 1 (if locB then r.driveB else 0) ++ [0]
    ++ leBytes 8 (if locs then r.sectorA else 0) ++ leBytes 8 (if locB then r.sectorB else 0)

/-- The references of a list of `n`. -/
def readRefs (n : Nat) (r : List Byte) : List Ref := (List.range n).map fun i => readRef ((r.drop (32 * i)).take 32)

/-! ## Catalogue header and label -/

/-- The 48 bytes of a header that its CRC covers. -/
def Header.body (h : Header) : List Byte :=
  leBytes 8 h.generation.toNat ++ leBytes 8 h.boxId.toNat ++ leBytes 4 h.imageCrc.toNat ++ leBytes 1 h.e
    ++ leBytes 1 ((if h.stale0 then 1 else 0) + (if h.stale1 then 2 else 0)) ++ leBytes 2 h.h
    ++ leBytes 4 h.au[0] ++ leBytes 4 h.au[1] ++ leBytes 4 h.au[2] ++ leBytes 4 h.au[3]
    ++ leBytes 4 h.c ++ leBytes 4 h.time.toNat

/-- A header's sector. -/
def Header.sector (h : Header) : List Byte := padTo 4096 (h.body ++ leBytes 4 (crc32 h.body).toNat)

/-- The fields of a header sector. -/
def readHeader (r : List Byte) : Header :=
  { generation := BitVec.ofNat 64 (field r 0 8)
    boxId := BitVec.ofNat 64 (field r 8 8)
    imageCrc := BitVec.ofNat 32 (field r 16 4)
    e := field r 20 1
    stale0 := flagBit r 21 0
    stale1 := flagBit r 21 1
    h := field r 22 2
    au := Vector.ofFn fun d => field r (24 + 4 * d.val) 4
    c := field r 40 4
    time := BitVec.ofNat 32 (field r 44 4) }

/-- Image sectors of a geometry: the header, N/128 index pages and the allocation pages (R89). -/
def imageSectors (e : Nat) (au : Vector Nat 4) : Nat := 1 + 2 ^ e / 128 + ceilDiv (au[0] + au[1] + au[2] + au[3]) 512

/-- C of a geometry (R89). -/
def slotAus (e : Nat) (au : Vector Nat 4) : Nat := ceilDiv (imageSectors e au) 1024

/-- The header check of R118; `none` when it fails. -/
def checkHeader (r : List Byte) : Option Header :=
  let h := readHeader r
  if field r 48 4 = (crc32 (padTo 48 r)).toNat ∧ 16 ≤ h.e ∧ h.e ≤ 24 ∧ 1 ≤ h.h ∧ h.h ≤ 1024
      ∧ (∀ d : Fin 4, 2 ≤ h.au[d]) ∧ h.c = slotAus h.e h.au
  then some h else none

/-- A label's sector (13, Drive label). -/
def labelSector (boxId : BitVec 64) (slot auCount : Nat) (time : BitVec 32) : List Byte :=
  let body := leBytes 8 boxId.toNat ++ leBytes 1 slot ++ zeros 3 ++ leBytes 4 auCount ++ leBytes 4 time.toNat
  padTo 4096 (body ++ leBytes 4 (crc32 body).toNat)

/-- The label that a sector holds; `none` when its CRC does not match (R90). -/
def readLabel (r : List Byte) : Option Label :=
  if field r 20 4 = (crc32 (padTo 20 r)).toNat then
    some { boxId := BitVec.ofNat 64 (field r 0 8), slot := field r 8 1, auCount := field r 12 4 }
  else none

end Sys2Proof.Machine
end

