-- ==== Sys2Proof/Machine/Sparse.lean ====
section
/-! DEFINITION. Sparse tables: lists of (number, value) in strictly rising order of numbers. -/

namespace Sys2Proof.Machine

variable {α : Type}

/-- The value listed under `k`. -/
def tabGet : List (Nat × α) → Nat → Option α
  | [], _ => none
  | (i, v) :: l, k => if i = k then some v else tabGet l k

/-- The table without `k`. -/
def tabErase : List (Nat × α) → Nat → List (Nat × α)
  | [], _ => []
  | (i, v) :: l, k => if i = k then tabErase l k else (i, v) :: tabErase l k

/-- The table with `v` under `k`. -/
def tabPut : List (Nat × α) → Nat → α → List (Nat × α)
  | [], k, v => [(k, v)]
  | (i, w) :: l, k, v =>
    if k < i then (k, v) :: (i, w) :: l
    else if k = i then (k, v) :: l
    else (i, w) :: tabPut l k v

/-- Numbers strictly rising. -/
def tabSorted : List (Nat × α) → Bool
  | [] => true
  | [_] => true
  | (i, _) :: (j, w) :: l => decide (i < j) && tabSorted ((j, w) :: l)

/-- A list of any form made into a table, a later entry of a number replacing an earlier one. -/
def tabOf (l : List (Nat × α)) : List (Nat × α) := l.foldl (fun t p => tabPut t p.1 p.2) []

/-- A rising list of numbers with `k` in it. -/
def setPut : List Nat → Nat → List Nat
  | [], k => [k]
  | i :: l, k => if k < i then k :: i :: l else if k = i then i :: l else i :: setPut l k

/-- A list of numbers without `k`. -/
def setErase (l : List Nat) (k : Nat) : List Nat := l.filter (· ≠ k)

end Sys2Proof.Machine
end

