-- ==== Sys2Proof/Machine/State.lean ====
section
/-! DEFINITION. The state of the part as plain data, its value right after a cold start, and the reasons a step can stop. -/

namespace Sys2Proof.Machine

/-- Everything the spec gives the part, block by block, and four fields of the model's own: the queue of waiting
commands, the outputs of the last step, whether the part has power, and the next name. -/
structure State where
  /-- commands waiting, the front first (the model's own) -/
  pending : List Instr := []
  /-- what the last step issued to the outside (the model's own) -/
  out : Outputs := {}
  /-- the part has its own supply (R116) -/
  powered : Bool := true
  /-- the next name for a job, a chunk, an operation or an age (the model's own) -/
  nextId : Nat := 0
  link : Link := {}
  chains : Vector Chain 4 := Vector.replicate 4 {}
  /-- ATTN: bit 11 is CLOCK_INVALID, set at cold start (R12) -/
  attn : BitVec 12 := 0x800
  attnEn : BitVec 12 := 0
  jobs : List Job := []
  cfg : Cfg := {}
  clock : Clock := {}
  streams : Vector Stream 8 := Vector.replicate 8 {}
  cat : Cat := {}
  engine : Engine := {}
  /-- operations offered and not yet taken by the Scheduler, the oldest first -/
  offers : List Offer := []
  drives : Vector Drive 4 := Vector.replicate 4 {}
  /-- the start queue in the order of R142 -/
  startQueue : List StartReq := []
  repair : Repair := {}
  scrub : Option ScrubCtx := none
  box : Box := {}
  deriving DecidableEq, Repr

/-- No step of the part stops with a fault: what the manual calls a fault is state (a FAULTED chain, a FAILED drive,
CHAIN_FAULT). The type has no value, so nothing can raise one (safe). -/
inductive Fault : Type
  deriving DecidableEq, Repr

/-- Why a command would have no meaning. -/
inductive Refusal where
  /-- raised only by an arm of `exec` whose command has no meaning yet; there is none (safe) -/
  | notModelled (mnemonic : String)
  deriving DecidableEq, Repr

/-- The part right after a cold start (R189), with a drive in every bay, the mains good and the battery not low
(notes/assumptions/4.md): the box is in WAKING with reason {COLD} and the first host rail on, every drive is UNPOWERED
with its rail off (R139), CLOCK_INVALID is set (R15), and every other field has its cold-start value. -/
def State.reset : State :=
  { drives := Vector.replicate 4 { present := true, power := .unpowered }
    box := { wakeReason := { cold := true }, rail1 := true } }

end Sys2Proof.Machine
end

