-- ==== Sys2Proof/Machine/Flags.lean ====
section
/-! DEFINITION. Flags and figures computed from the state: attention and the interrupt, a drive's service level and
membership, the timestamp and today, the catalogue's figures, the registers as read, and the fields of the status page. -/

namespace Sys2Proof.Machine

/-! ## Attention -/

/-- The bit of a cause in ATTN. -/
def Cause.bit : Cause → Nat
  | .jobNotify => 0
  | .chainFault => 1
  | .supply => 2
  | .batteryLow => 3
  | .driveFault => 4
  | .wake => 5
  | .powerDown => 6
  | .checkpointMissed => 7
  | .repairOverflow => 8
  | .alarm => 9
  | .button => 10
  | .clockInvalid => 11

/-- ATTN with a cause's bit set. -/
def withCause (attn : BitVec 12) (c : Cause) : BitVec 12 := attn ||| (1#12 <<< c.bit)

/-- ATTN with a cause's bit clear. -/
def withoutCause (attn : BitVec 12) (c : Cause) : BitVec 12 := attn &&& ~~~(1#12 <<< c.bit)

/-- The bits of ATTN that a write can clear: 0 to 2 and 4 to 10 (R15). -/
def clearable : BitVec 12 := 0x7F7

/-- ATTN after a write of `v` (R15). -/
def attnAfterWrite (attn : BitVec 12) (v : BitVec 64) : BitVec 12 := attn &&& ~~~(v.setWidth 12 &&& clearable)

/-- The interrupt is asserted (R16). -/
def State.irq (s : State) : Bool := s.attn &&& s.attnEn != 0

/-! ## Drives -/

/-- FAILED is latched. -/
def Drive.failed (x : Drive) : Bool := x.causes.start || x.causes.noAnswer || x.causes.removed || x.causes.rail

/-- The service level (R181). -/
def Drive.level (x : Drive) : Level := if x.failed then .none else if x.degraded || x.hot then .limited else .full

/-- Present and not FAILED. -/
def Drive.usable (x : Drive) : Bool := x.power != .absent && !x.failed

/-- READY with the start-up phase ended. -/
def Drive.serving (x : Drive) : Bool := x.power == .ready && x.startup.isNone

/-- The membership of a drive (R91). -/
def State.membership (s : State) (d : Fin 4) : Membership :=
  if s.cat.st = .ready then
    match s.drives[d].label with
    | none => .blank
    | some l =>
      if l.boxId = s.cat.boxId ∧ l.slot = d.val ∧ l.auCount = s.cat.geo.au[d] then .member else .foreign
  else .blank

/-- The drive is a MEMBER. -/
def State.member (s : State) (d : Fin 4) : Bool := s.membership d == .member

/-- The drive of a catalogue drive number. -/
def catDrive (i : Fin 2) : Fin 4 := i.castLE (by decide)

/-- The other catalogue drive. -/
def peer (i : Fin 2) : Fin 2 := 1 - i

/-! ## Clock -/

/-- The timestamp of an event (R28). -/
def State.stamp (s : State) : BitVec 32 := if s.clock.valid then s.clock.count else 0

/-- Today, while the clock is valid (R28). -/
def State.today (s : State) : Option Nat := if s.clock.valid then some (s.clock.count.toNat / 86400) else none

/-! ## Catalogue figures -/

/-- The catalogue generation (R106). -/
def Cat.generation (c : Cat) : BitVec 64 := if c.genA.toNat < c.genB.toNat then c.genB else c.genA

/-- The slot that the next checkpoint targets (R106). -/
def Cat.target (c : Cat) : ImgSlot := if c.genA.toNat < c.genB.toNat then .a else .b

/-- N. -/
def Geometry.slots (g : Geometry) : Nat := 2 ^ g.e

/-- Index pages N/128. -/
def Geometry.indexPages (g : Geometry) : Nat := g.slots / 128

/-- Allocation pages (R89). -/
def Geometry.allocPages (g : Geometry) : Nat := ceilDiv (g.au[0] + g.au[1] + g.au[2] + g.au[3]) 512

/-- All pages of the image. -/
def Geometry.pages (g : Geometry) : Nat := g.indexPages + g.allocPages

/-- The number of the first chunk AU of a drive slot (06, Layout of a member drive). -/
def Geometry.firstChunkAu (g : Geometry) (d : Fin 4) : Nat := if d.val < 2 then 2 * g.c + g.h + 1 else 1

/-- The record of an AU that the allocation table does not list: RESERVED or FREE (R92). -/
def Geometry.plainAu (g : Geometry) (d : Fin 4) (a : Nat) : AuRec :=
  if a < g.firstChunkAu d then { st := .reserved } else {}

/-- Whether a page is marked. -/
def Marks.has (m : Marks) (p : Nat) : Bool := if m.all then !m.but.contains p else m.but.contains p

/-- How many of the first `n` pages are marked. -/
def Marks.count (m : Marks) (n : Nat) : Nat := if m.all then n - m.but.length else m.but.length

/-- The mark of a page set. -/
def Marks.put (m : Marks) (p : Nat) : Marks :=
  if m.all then { m with but := setErase m.but p } else { m with but := setPut m.but p }

/-- The marks of an image slot. -/
def Cat.marks (c : Cat) : ImgSlot → Marks
  | .a => c.marksA
  | .b => c.marksB

/-- The dirty page count (R105). -/
def Cat.dirty (c : Cat) : Nat := if c.st = .ready then (c.marks c.target).count c.geo.pages else 0

/-- The free AU count of a drive (R92). -/
def Cat.freeAus (c : Cat) (d : Fin 4) : Nat :=
  if c.st = .ready then
    (c.geo.au[d] - c.geo.firstChunkAu d)
      - (c.aus[d].filter fun p => p.2.st != .free && p.2.st != .reserved).length
  else 0

/-! ## Power figures -/

/-- A drive's contribution to the committed draw (R143). -/
def contribution (p : Power) (c : DriveCfg) : Nat :=
  match p with
  | .absent | .unpowered => 0
  | .starting => c.spinUp
  | .ready | .stopping => c.run
  | .parked => c.park

/-- The committed draw (R143). -/
def State.committed (s : State) : Nat :=
  contribution s.drives[0].power s.cfg.drive[0] + contribution s.drives[1].power s.cfg.drive[1]
    + contribution s.drives[2].power s.cfg.drive[2] + contribution s.drives[3].power s.cfg.drive[3]

/-- The budget in force (R143). -/
def State.budget (s : State) : Nat :=
  match s.box.supply with
  | .mains => s.cfg.mainsBudget
  | .battery => s.cfg.batteryBudget

/-! ## Checkpoint and sequence -/

/-- The catalogue drive number of a drive. -/
def catIndex (d : Fin 4) : Option (Fin 2) := if h : d.val < 2 then some ⟨d.val, h⟩ else none

/-- Where a catalogue drive stands. -/
def Ckpt.at (c : Ckpt) (i : Fin 2) : CkptStep := if i = 0 then c.d0 else c.d1

/-- A catalogue drive moved. -/
def Ckpt.put (c : Ckpt) (i : Fin 2) (x : CkptStep) : Ckpt := if i = 0 then { c with d0 := x } else { c with d1 := x }

/-- A checkpoint writes the drive: the drive has neither completed nor failed. -/
def CkptStep.busy : CkptStep → Bool
  | .pages _ | .flush1 | .header | .flush2 => true
  | .notTried | .starting | .prepared | .completed | .failed => false

/-- A drive is still tried while the preparation runs. -/
def CkptStep.tried : CkptStep → Bool
  | .starting | .prepared => true
  | .notTried | .pages _ | .flush1 | .header | .flush2 | .completed | .failed => false

/-- The emergency shutdown is in its power-down phase (R191), or the box is in SLEEP, where lists and start queue stay empty
(R138, R142): work that comes there late ends as in that phase (notes/assumptions/59.md). -/
def State.powerDown (s : State) : Bool := (s.box.seq.any fun q => q.shutdown && q.step != .stop) || s.box.st == .sleep

/-- The request is the emergency shutdown's own. -/
def CkptReq.isShutdown : CkptReq → Bool
  | .shutdown _ _ => true
  | .job _ | .sealed _ | .adopt | .sleep => false

/-- The drive is tried by the shutdown's own checkpoint (R191); none is in box SLEEP. -/
def State.ownCkptDrive (s : State) (d : Fin 4) : Bool :=
  match catIndex d, s.engine.ckpt with
  | some i, some c =>
    s.box.st != .sleep && c.reqs.any CkptReq.isShutdown && ((c.at i).tried || (c.at i).busy)
  | _, _ => false

/-! ## Codes -/

def Attach.code : Attach → Nat
  | .detached => 0
  | .attaching => 1
  | .attached => 2
  | .detaching => 3

def ChainState.code : ChainState → Nat
  | .running => 0
  | .stalled => 1
  | .faulted => 2
  | .stopped => 3

def BoxState.code : BoxState → Nat
  | .run => 0
  | .sleepPrep => 1
  | .sleep => 2
  | .waking => 3

def CatState.code : CatState → Nat
  | .notLoaded => 0
  | .loading => 1
  | .ready => 2

def Supply.code : Supply → Nat
  | .mains => 0
  | .battery => 1

def Power.code : Power → Nat
  | .absent => 0
  | .unpowered => 1
  | .starting => 2
  | .ready => 3
  | .stopping => 4
  | .parked => 5

def Level.code : Level → Nat
  | .full => 0
  | .limited => 1
  | .none => 2

def Membership.code : Membership → Nat
  | .blank => 0
  | .member => 1
  | .foreign => 2

def FaultCause.code : FaultCause → Nat
  | .start => 1
  | .noAnswer => 2
  | .removed => 3
  | .rail => 4
  | .media => 5

/-- 1 for true. -/
def bitOf (b : Bool) : Nat := if b then 1 else 0

def WakeReason.code (w : WakeReason) : Nat :=
  bitOf w.cold + 2 * bitOf w.network + 4 * bitOf w.button + 8 * bitOf w.alarm + 16 * bitOf w.mains

/-- The latched faults field (13, Status page, +4). -/
def Drive.faultBits (x : Drive) : Nat := bitOf x.degraded + 2 * bitOf x.failed + 4 * bitOf x.setupIncomplete

def Causes.code (c : Causes) : Nat := bitOf c.start + 2 * bitOf c.noAnswer + 4 * bitOf c.removed + 8 * bitOf c.rail

/-- A temperature as the status page codes it: -32,768 for no reading. -/
def tempCode (t : Option Int) : Nat := (BitVec.ofInt 16 (t.getD (-32768))).toNat

/-! ## Registers -/

/-- LINK (01, The register window). -/
def State.linkReg (s : State) : BitVec 64 :=
  BitVec.ofNat 64 (s.link.attach.code + 16 * s.box.st.code + 256 * s.cat.st.code + 4096 * bitOf s.link.pageError)

/-- What a read of the window returns (R13): offset and width in bytes. A read changes no state. -/
def State.readRegister (s : State) (offset width : Nat) : BitVec 64 :=
  if width ≠ 8 then 0
  else match offset with
    | 0x00 => 0x14410
    | 0x08 => s.linkReg
    | 0x10 => s.link.setupAddr
    | 0x20 => s.attn.setWidth 64
    | 0x28 => s.attnEn.setWidth 64
    | _ => 0

/-! ## Status page -/

/-- One field: offset, width and value. -/
def pf (offset size v : Nat) : PageField := (offset, leBytes size v)

/-- The fields of chain `c`. -/
def chainFields (x : Chain) (c : Nat) : List PageField :=
  [pf (32 * c) 1 x.st.code, pf (32 * c + 8) 8 x.anchor.toNat, pf (32 * c + 16) 4 x.taken.toNat,
   pf (32 * c + 20) 4 x.done.toNat]

/-- The box group. -/
def boxFields (s : State) : List PageField :=
  [pf 128 1 s.box.st.code, pf 129 1 s.box.supply.code, pf 130 1 (bitOf s.box.battLow), pf 131 1 (bitOf s.clock.valid),
   pf 132 1 s.box.wakeReason.code, pf 136 4 s.box.switchTime.toNat, pf 140 4 s.clock.count.toNat]

/-- The catalogue group, whose figures read 0 while the catalogue is not READY (R197). -/
def catFields (c : Cat) : List PageField :=
  let g := fun v => if c.st = .ready then v else 0
  [pf 192 1 c.st.code, pf 200 8 (g c.generation.toNat), pf 208 4 (g c.index.length), pf 212 4 c.dirty,
   pf 216 4 (g c.lastTime.toNat), pf 220 4 (g c.collisions), pf 224 4 (g c.unindexed), pf 228 4 (g c.accounting),
   pf 232 4 (g c.overflows)]

/-- The host-area-stale field of a drive: 0 for drives 2 and 3, and while the catalogue is not READY (R197). -/
def State.staleField (s : State) (d : Fin 4) : Nat :=
  if h : d.val < 2 then (if s.cat.st = .ready then bitOf s.cat.stale[(⟨d.val, h⟩ : Fin 2)] else 0) else 0

/-- The drive group of drive `d`. -/
def driveFields (s : State) (d : Fin 4) : List PageField :=
  let x := s.drives[d]
  let o := 256 + 32 * d.val
  [pf o 1 (bitOf (x.power != .absent)), pf (o + 1) 1 (s.membership d).code, pf (o + 2) 1 x.power.code,
   pf (o + 3) 1 x.level.code, pf (o + 4) 1 x.faultBits, pf (o + 5) 1 x.causes.code, pf (o + 6) 1 (bitOf x.hot),
   pf (o + 7) 1 x.score, pf (o + 8) 2 (tempCode x.temp), pf (o + 10) 1 (s.staleField d), pf (o + 12) 4 (s.cat.freeAus d)]

/-- The fault snapshot of drive `d`, its count last (R17, R197). -/
def snapFields (x : Drive) (d : Fin 4) : List PageField :=
  let o := 512 + 32 * d.val
  let f := match x.snap with
    | none => [pf o 1 0, pf (o + 1) 1 0, pf (o + 2) 1 0, pf (o + 3) 1 0, pf (o + 4) 4 0, pf (o + 8) 2 0, pf (o + 10) 1 0,
        pf (o + 11) 1 0, pf (o + 12) 1 0]
    | some n => [pf o 1 d.val, pf (o + 1) 1 (if n.failed then 1 else 2), pf (o + 2) 1 n.cause.code,
        pf (o + 3) 1 n.power.code, pf (o + 4) 4 n.time.toNat, pf (o + 8) 2 (tempCode n.temp), pf (o + 10) 1 n.score,
        pf (o + 11) 1 n.noAnswer, pf (o + 12) 1 n.startFails]
  f ++ [pf (o + 28) 4 x.snapCount.toNat]

/-- The offsets of the fields of the status page (13, Status page). -/
def pageOffsets : List Nat :=
  ([0, 1, 2, 3].flatMap fun c => [32 * c, 32 * c + 8, 32 * c + 16, 32 * c + 20])
    ++ [128, 129, 130, 131, 132, 136, 140, 192, 200, 208, 212, 216, 220, 224, 228, 232]
    ++ ([0, 1, 2, 3].flatMap fun d => [0, 1, 2, 3, 4, 5, 6, 7, 8, 10, 12].map fun o => 256 + 32 * d + o)
    ++ ([0, 1, 2, 3].flatMap fun d => [0, 1, 2, 3, 4, 8, 10, 11, 12, 28].map fun o => 512 + 32 * d + o)

/-- Every field of the status page with its current value (13, Status page). -/
def State.pageFields (s : State) : List PageField :=
  chainFields s.chains[0] 0 ++ chainFields s.chains[1] 1 ++ chainFields s.chains[2] 2 ++ chainFields s.chains[3] 3
    ++ boxFields s ++ catFields s.cat
    ++ driveFields s 0 ++ driveFields s 1 ++ driveFields s 2 ++ driveFields s 3
    ++ snapFields s.drives[0] 0 ++ snapFields s.drives[1] 1 ++ snapFields s.drives[2] 2 ++ snapFields s.drives[3] 3

end Sys2Proof.Machine
end

