-- ==== Sys2Proof/Machine/Ops.lean ====
section
/-! DEFINITION. The operations that every block shares: outputs, attention, the status page as written, jobs and their
completion, the chains' take attempts, and the frame that every command's meaning runs in. -/

namespace Sys2Proof.Machine

open Host (Outcome)

/-! ## Small updates -/

/-- The actions with one more at the end. -/
def State.emit (s : State) (o : Out) : State := { s with out := { s.out with acts := s.out.acts ++ [o] } }

/-- The actions with a list of more at the end. -/
def State.emits (s : State) (l : List Out) : State := { s with out := { s.out with acts := s.out.acts ++ l } }

/-- An attention cause arrives (R15). -/
def State.setCause (s : State) (c : Cause) : State := { s with attn := withCause s.attn c }

/-- An attention cause is cleared. -/
def State.clearCause (s : State) (c : Cause) : State := { s with attn := withoutCause s.attn c }

/-- One drive changed. -/
def State.modDrive (s : State) (d : Fin 4) (f : Drive → Drive) : State :=
  { s with drives := s.drives.set d (f s.drives[d]) }

/-- One stream changed. -/
def State.modStream (s : State) (n : Fin 8) (f : Stream → Stream) : State :=
  { s with streams := s.streams.set n (f s.streams[n]) }

/-- One chain context changed. -/
def State.modChain (s : State) (c : Fin 4) (f : Chain → Chain) : State :=
  { s with chains := s.chains.set c (f s.chains[c]) }

/-- The catalogue changed. -/
def State.modCat (s : State) (f : Cat → Cat) : State := { s with cat := f s.cat }

/-- The Catalogue Engine's queues changed. -/
def State.modEngine (s : State) (f : Engine → Engine) : State := { s with engine := f s.engine }

/-- The box changed. -/
def State.modBox (s : State) (f : Box → Box) : State := { s with box := f s.box }

/-- A name taken. -/
def State.bump (s : State) : State := { s with nextId := s.nextId + 1 }

/-! ## The status page and the interrupt -/

/-- The bytes of a field; none where the fields do not hold it. -/
def pageAt (fields : List PageField) (offset : Nat) : List Byte :=
  match fields.find? fun f => f.1 == offset with
  | some f => f.2
  | none => []

/-- The writes that bring the page from `old` to `new` (R17): each field that changed, in page order. -/
def pageDiff (old new : List PageField) : List PageField :=
  (pageOffsets.filter fun o => pageAt new o != [] && pageAt new o != pageAt old o).map fun o => (o, pageAt new o)

/-- The writes that take the page from `old` through the values that its fields had one after another (R17). -/
def pageWrites : List PageField → List (List PageField) → List PageField
  | _, [] => []
  | old, new :: l => pageDiff old new ++ pageWrites new l

/-- The page is kept up to date: ATTACHED or DETACHING (R17). -/
def State.kept (s : State) : Bool := s.link.attach == .attached || s.link.attach == .detaching

/-- The page's fields as they stand, for a page that is kept up to date. -/
def State.stage (s : State) : List (List PageField) := if s.kept then [s.pageFields] else []

/-- The values that the fields have now are noted, because one of them is about to change once more in this step: each value
of a field is written (R17). -/
def State.note (s : State) : State := { s with out := { s.out with notes := s.out.notes ++ s.stage } }

/-- The values that the page's fields had one after another in this step. -/
def State.stages (s : State) : List (List PageField) := s.out.notes ++ s.stage

/-- What the page holds after a step that began with `old` on it; a DETACHED part has no page. -/
def State.pageNow (s : State) (old : List PageField) : List PageField :=
  if s.link.attach = .detached then s.link.page else (s.stages.getLast?).getD old

/-- The interrupt message of a step that began with the line at `old` (R16). -/
def State.message (s : State) (old : Bool) : Option Bool := if old = s.irq then none else some s.irq

/-- The end of a step that began in `s₀`: the page writes, and the interrupt message when the line changed (R16, R17). -/
def finish (s₀ s : State) : State :=
  { s with
    out := { acts := s.out.acts, page := pageWrites s₀.link.page s.stages, msg := s.message s₀.irq }
    link := { s.link with page := s.pageNow s₀.link.page } }

/-- The frame of every command's meaning: without power nothing happens (R116); otherwise `f` acts on the state with no
outputs yet, and the step ends. The queue of waiting commands stands outside the part: no command touches it. -/
def run (s : State) (f : State → State) : Outcome State Fault Refusal :=
  if s.powered then .next { finish s (f { s with out := {} }) with pending := s.pending } else .next { s with out := {} }

/-! ## Jobs -/

/-- The job with an id. -/
def State.job (s : State) (id : Nat) : Option Job := s.jobs.find? fun j => j.id == id

/-- A job's progress changed. -/
def State.setPhase (s : State) (id : Nat) (p : JobPhase) : State :=
  { s with jobs := s.jobs.map fun j => if j.id = id then { j with phase := p } else j }

/-- The job leaves the part. -/
def State.dropJob (s : State) (id : Nat) : State := { s with jobs := s.jobs.filter fun j => j.id != id }

/-- A block reports a job finished: step 1 of R8 is issued (results, aux and status at offset 48 of the record). The manual
does not say in how many writes; they are one write of 16 bytes (DESIGN CHOICE, notes/assumptions/57.md). -/
def State.complete (s : State) (id : Nat) (r : Result) : State :=
  match s.job id with
  | none => s
  | some j => (s.setPhase id (.writingResults r)).emit (.hostWrite (j.record + 48) r.bytes)

/-- A block reports a job finished with a status whose results the manual does not state: words and aux are free values. -/
def State.completeOpen (s : State) (id : Nat) (x : Status) : State :=
  s.bump.complete id
    { status := x, aux := (Config.openWord (4 * s.nextId)).toNat % 65536, w0 := Config.openWord (4 * s.nextId + 1),
      w1 := Config.openWord (4 * s.nextId + 2), w2 := Config.openWord (4 * s.nextId + 3) }

/-- The oldest job of a chain that is dispatched and whose own row has not run yet. -/
def State.dispatched (s : State) (c : Fin 4) : Option Job :=
  s.jobs.find? fun j => j.chain == c && j.phase == .dispatched

/-- Whether a job of the chain is in flight. -/
def State.inFlightOn (s : State) (c : Fin 4) : Bool := s.jobs.any fun j => j.chain == c

/-! ## Take attempts -/

/-- The chain becomes FAULTED and CHAIN_FAULT is set (R4). -/
def State.faultChain (s : State) (c : Fin 4) : State :=
  (s.modChain c fun x => { x with st := .faulted, take := .idle, poll := none, again := none, faultedMeanwhile := false }).setCause
    .chainFault

/-- A take attempt begins (R4 step 1): the anchor is checked and its link read is issued. -/
def State.takeAttempt (s : State) (c : Fin 4) : State :=
  let a := s.chains[c].anchor
  if goodAddr 64 a then
    (s.modChain c fun x => { x with take := .linkRead, poll := none, again := none, faultedMeanwhile := false }).emit (.hostRead a 8)
  else s.faultChain c

/-- The chain makes a take attempt if it is RUNNING below its limit with none under way (R4). -/
def State.tryTake (s : State) (c : Fin 4) : State :=
  let x := s.chains[c]
  if x.st = .running ∧ x.inFlight < chainLimit c ∧ x.take = .idle then s.takeAttempt c else s

/-- The poll timer as it starts: not at all when the interval is 0 (R6). -/
def State.pollStart (s : State) : Option Nat := if s.cfg.poll = 0 then none else some s.cfg.poll

/-- An attempt ends in STALLED (R4, R6). A second trigger that arrived meanwhile makes another attempt. -/
def State.stallTake (s : State) (c : Fin 4) : State :=
  let x := s.chains[c]
  if x.faultedMeanwhile then
    let t := s.modChain c fun x => { x with st := .faulted, take := .idle, poll := none, again := none, faultedMeanwhile := false }
    if x.again = some .nudge then t.takeAttempt c else t
  else
    let t := s.modChain c fun x => { x with st := .stalled, take := .idle, poll := s.pollStart, again := none }
    if x.again.isSome then t.takeAttempt c else t

/-- An attempt ends in FAULTED (R4). A NUDGE that arrived meanwhile makes another attempt (R7). -/
def State.failTake (s : State) (c : Fin 4) : State :=
  let x := s.chains[c]
  let t := s.faultChain c
  if x.again = some .nudge then t.takeAttempt c else t

/-! ## Detaching -/

/-- DETACHED: the contexts are discarded and SETUP_ADDR reads 0 (R11, R12). -/
def State.detachNow (s : State) : State := { s with link := {}, chains := Vector.replicate 4 {} }

/-- The attach fails: DETACHED, with CHAIN_FAULT (R1). -/
def State.attachFail (s : State) : State := s.detachNow.setCause .chainFault

/-- Every chain goes to STOPPED: no take attempts, no poll timers; an attempt under way ends without effect (R11). -/
def stopChain (x : Chain) : Chain :=
  { x with st := .stopped, poll := none, take := .idle, again := none, faultedMeanwhile := false }

/-- In-flight counts of all four chains are 0. -/
def State.noneInFlight (s : State) : Bool :=
  s.chains[0].inFlight == 0 && s.chains[1].inFlight == 0 && s.chains[2].inFlight == 0 && s.chains[3].inFlight == 0

/-- While DETACHING with nothing in flight, DETACHED follows; the page gets the writes due until then (R11). -/
def State.detachIfIdle (s : State) : State :=
  if s.link.attach = .detaching ∧ s.noneInFlight then s.note.detachNow else s

/-- The stop of R11: the chains go to STOPPED; while ATTACHING it ends the attach. -/
def State.stop (s : State) : State :=
  match s.link.attach with
  | .detached => s
  | .attaching => s.detachNow
  | .attached | .detaching => { s with chains := s.chains.map stopChain }

/-- A detach, by the command or by a box sequence (R11). -/
def State.detach (s : State) : State :=
  match s.link.attach with
  | .detached | .detaching => s
  | .attaching => s.detachNow
  | .attached => { s with chains := s.chains.map stopChain, link := { s.link with attach := .detaching } }.detachIfIdle

/-- A job leaves its chain's in-flight count. -/
def State.leaveChain (s : State) (c : Fin 4) : State :=
  s.modChain c fun x => { x with inFlight := x.inFlight - 1 }

end Sys2Proof.Machine
end

