-- ==== Sys2Proof/Machine/Catalogue.lean ====
section
/-! DEFINITION. The Catalogue Engine's operations: lookup, entries, dirty marks, AU records, draining, placement,
presence, copy choice, and the bytes of the image. -/

namespace Sys2Proof.Machine

/-! ## Entries and marks -/

/-- Both marks of a page set (R105). -/
def Cat.markPage (c : Cat) (p : Nat) : Cat := { c with marksA := c.marksA.put p, marksB := c.marksB.put p }

/-- The entry in a slot. -/
def Cat.entry (c : Cat) (slot : Nat) : Option Entry := tabGet c.index slot

/-- A slot's contents set; its page is marked unless nothing changed (R71). -/
def Cat.setSlot (c : Cat) (slot : Nat) (e : Option Entry) : Cat :=
  if c.entry slot = e then c
  else
    match e with
    | none => { c with index := tabErase c.index slot }.markPage (slot / 128)
    | some v => { c with index := tabPut c.index slot v }.markPage (slot / 128)

/-- The slots of a key's probe window in window order (R72). -/
def Geometry.window (g : Geometry) (fp : BitVec 64) : List Nat :=
  let buckets := g.slots / 8
  (List.range 32).map fun i => ((fp.toNat + i / 8) % buckets) * 8 + i % 8

/-- The three results of a lookup (R73). -/
inductive Lookup where
  | found (slot : Nat) (e : Entry)
  | room (slot : Nat)
  | full
  deriving DecidableEq, Repr

/-- A lookup of a key (R73): all 32 slots are examined, so an entry beyond a FREE slot is found. -/
def Cat.lookup (c : Cat) (k : Key) : Lookup :=
  let w := c.geo.window k.fp
  match w.find? fun i => (c.entry i).any fun e => e.key == k with
  | some i =>
    match c.entry i with
    | some e => .found i e
    | none => .full
  | none =>
    match w.find? fun i => (c.entry i).isNone with
    | some i => .room i
    | none => .full

/-- A copy of an entry. -/
def Entry.copy (e : Entry) : CopyName → Option Copy
  | .a => some e.a
  | .b => e.b

/-- An entry with a copy changed. -/
def Entry.setCopy (e : Entry) (n : CopyName) (x : Copy) : Entry :=
  match n with
  | .a => { e with a := x }
  | .b => { e with b := some x }

/-- The other copy's name. -/
def CopyName.other : CopyName → CopyName
  | .a => .b
  | .b => .a

/-- The copies of an entry with their names. -/
def Entry.copies (e : Entry) : List (CopyName × Copy) :=
  (.a, e.a) :: (match e.b with | some x => [(.b, x)] | none => [])

/-- A copy is present (R77). -/
def State.present (s : State) (x : Copy) : Bool :=
  x.st != .absent && s.member x.loc.drive && !s.drives[x.loc.drive].failed

/-- The present copies of an entry. -/
def State.presentCopies (s : State) (e : Entry) : List (CopyName × Copy) := e.copies.filter fun p => s.present p.2

/-- The slot holds the key, LIVE, with the copy standing at the location: the check of R80. -/
def Cat.standing (c : Cat) (slot : Nat) (k : Key) (n : CopyName) (l : Loc) : Option Entry :=
  match c.entry slot with
  | none => none
  | some e =>
    match e.copy n with
    | none => none
    | some x => if e.key = k ∧ e.st = .live ∧ x.loc = l ∧ x.st ≠ .absent then some e else none

/-- The slot holds the key, with that copy at the location: the check that R80 makes of a write outcome. -/
def Cat.holdsCopy (c : Cat) (slot : Nat) (k : Key) (n : CopyName) (l : Loc) : Bool :=
  (c.entry slot).any fun e => e.key == k && (e.copy n).any fun x => x.loc == l && x.st != .absent

/-! ## AU records -/

/-- The AU that holds a sector. -/
def auOf (sector : Nat) : Nat := sector / 1024

/-- An AU's record. -/
def Cat.au (c : Cat) (d : Fin 4) (a : Nat) : AuRec := (tabGet c.aus[d] a).getD (c.geo.plainAu d a)

/-- The allocation page of an AU, numbered after the index pages (07, Image slots and the pages of an image). -/
def Geometry.auPage (g : Geometry) (d : Fin 4) (a : Nat) : Nat :=
  let before := (if 0 < d.val then g.au[0] else 0) + (if 1 < d.val then g.au[1] else 0) + (if 2 < d.val then g.au[2] else 0)
  g.indexPages + (before + a) / 512

/-- An AU's record set, its page marked unless nothing changed (R93). -/
def Cat.setAu (c : Cat) (d : Fin 4) (a : Nat) (r : AuRec) : Cat :=
  if c.au d a = r then c
  else
    { c with aus := c.aus.set d (if r = c.geo.plainAu d a then tabErase c.aus[d] a else tabPut c.aus[d] a r) }.markPage
      (c.geo.auPage d a)

/-- The test of R98: a SEALED AU with nothing live and nothing in flight drains, or is RETIRED. -/
def AuRec.drain (r : AuRec) (gen : BitVec 64) : AuRec :=
  if r.st = .sealed ∧ r.live = 0 ∧ r.inFlight = 0 then
    if r.retire then { r with st := .retired } else { r with st := .drained, drainedGen := gen }
  else r

/-- A record set after the draining test. -/
def Cat.setAuTested (c : Cat) (d : Fin 4) (a : Nat) (r : AuRec) : Cat := c.setAu d a (r.drain c.generation)

/-- An accounting error counted (R85). -/
def Cat.countAccounting (c : Cat) : Cat := { c with accounting := satInc top32 c.accounting }

/-- `n` sectors leave the live count of the AU at a location (R98). -/
def Cat.giveUp (c : Cat) (l : Loc) (n : Nat) : Cat :=
  let a := auOf l.sector
  let r := c.au l.drive a
  if r.live < n then (c.setAuTested l.drive a { r with live := 0 }).countAccounting
  else c.setAuTested l.drive a { r with live := r.live - n }

/-- An entry's copy is given up unless it is ABSENT (R75). -/
def Cat.giveUpCopy (c : Cat) (x : Copy) (len : Nat) : Cat :=
  if x.st = .absent then c else c.giveUp x.loc (sectorsOf len)

/-- Every copy of an entry is given up. -/
def Cat.giveUpEntry (c : Cat) (e : Entry) : Cat :=
  let c := c.giveUpCopy e.a e.key.len
  match e.b with
  | some x => c.giveUpCopy x e.key.len
  | none => c

/-- A removal (R75). -/
def Cat.remove (c : Cat) (slot : Nat) (e : Entry) : Cat := (c.giveUpEntry e).setSlot slot none

/-- One location of an UNINDEXED reference given back; whether it was an accounting error (R85). -/
def Cat.giveBack (c : Cat) (drive sector n : Nat) : Cat × Bool :=
  if h : drive < 4 then
    let d : Fin 4 := ⟨drive, h⟩
    let a := auOf sector
    if a < c.geo.firstChunkAu d ∨ c.geo.au[d] ≤ a then (c.countAccounting, true)
    else (c.giveUp ⟨d, sector⟩ n, decide ((c.au d a).live < n))
  else (c.countAccounting, true)

/-- A write outcome applied to an AU (R96). -/
def Cat.applyWrite (c : Cat) (l : Loc) (n : Nat) (r : WriteResult) : Cat :=
  let a := auOf l.sector
  let x := c.au l.drive a
  match r with
  | .done => c.setAuTested l.drive a { x with live := x.live + n, inFlight := x.inFlight - 1 }
  | .failed | .asleep => c.setAuTested l.drive a { x with inFlight := x.inFlight - 1 }
  | .media =>
    c.setAuTested l.drive a
      { x with inFlight := x.inFlight - 1, retire := true, st := if x.st = .filling then .sealed else x.st }

/-- A scrub rewrite's outcome applied to an AU (R172): its live sectors do not change. -/
def Cat.applyRewrite (c : Cat) (l : Loc) (r : WriteResult) : Cat :=
  match r with
  | .done => c.applyWrite l 0 .failed
  | x => c.applyWrite l 0 x

/-! ## Placement -/

/-- The FILLING AU of a drive. -/
def Cat.filling (c : Cat) (d : Fin 4) : Option (Nat × AuRec) := c.aus[d].find? fun p => p.2.st == .filling

/-- A FILLING AU fits a copy of `n` sectors (R94). -/
def auFits (r : AuRec) (n : Nat) : Bool := r.fill + n ≤ 1024 && r.inFlight < 32

/-- The lowest number from `a` that a rising table does not list as other than FREE. -/
def lowestFree : List (Nat × AuRec) → Nat → Nat
  | [], a => a
  | (i, r) :: l, a => if i < a then lowestFree l a else if i = a ∧ r.st ≠ .free then lowestFree l (a + 1) else a

/-- The lowest-numbered FREE AU of a drive slot. -/
def Cat.firstFree (c : Cat) (d : Fin 4) : Option Nat :=
  let a := lowestFree c.aus[d] (c.geo.firstChunkAu d)
  if a < c.geo.au[d] then some a else none

/-- A drive has room for a copy of `n` sectors (R94). -/
def Cat.room (c : Cat) (d : Fin 4) (n : Nat) : Bool :=
  ((c.filling d).any fun p => auFits p.2 n) || (c.firstFree d).isSome

/-- The rank of a power state for placement and copy choice (R94, R158). -/
def Power.rank : Power → Nat
  | .ready => 0
  | .starting => 1
  | .parked | .stopping => 2
  | .unpowered => 3
  | .absent => 4

/-- A drive is a candidate (R94); with `readyOnly` it must be READY. -/
def State.candidate (s : State) (n : Nat) (exclude : List (Fin 4)) (readyOnly : Bool) (d : Fin 4) : Bool :=
  s.member d && s.drives[d].level == .full && !exclude.contains d && s.cat.room d n
    && (!readyOnly || s.drives[d].power == .ready)

/-- Whether drive `x` ranks strictly before drive `y` (R94): power state, then more free AUs; ties go to the lower number. -/
def State.ranksBefore (s : State) (x y : Fin 4) : Bool :=
  let px := s.drives[x].power.rank
  let py := s.drives[y].power.rank
  px < py || (px == py && s.cat.freeAus y < s.cat.freeAus x)

/-- The best candidate. -/
def State.bestCandidate (s : State) (n : Nat) (exclude : List (Fin 4)) (readyOnly : Bool) : Option (Fin 4) :=
  (drives4.filter (s.candidate n exclude readyOnly)).foldl
    (fun best d => match best with
      | none => some d
      | some b => if s.ranksBefore d b then some d else some b) none

/-- A reservation of `n` sectors in AU `a`, whose record is `r` (R95). -/
def Cat.reserveIn (c : Cat) (d : Fin 4) (a : Nat) (r : AuRec) (n : Nat) : Nat × Cat :=
  let fill := r.fill + n
  (a * 1024 + r.fill,
   c.setAu d a { r with fill := fill, inFlight := r.inFlight + 1, st := if fill = 1024 then .sealed else .filling })

/-- A reservation of `n` sectors on a drive that has room (R95): the first sector and the catalogue after it. -/
def Cat.reserve (c : Cat) (d : Fin 4) (n : Nat) : Nat × Cat :=
  match c.filling d with
  | some (a, r) =>
    if auFits r n then c.reserveIn d a r n
    else
      let c := c.setAuTested d a { r with st := .sealed }
      match c.firstFree d with
      | some b => c.reserveIn d b (c.au d b) n
      | none => (0, c)
  | none =>
    match c.firstFree d with
    | some b => c.reserveIn d b (c.au d b) n
    | none => (0, c)

/-- Placement of one copy (R94, R95). -/
def State.place (s : State) (n : Nat) (exclude : List (Fin 4)) (readyOnly : Bool) : Option (Loc × State) :=
  match s.bestCandidate n exclude readyOnly with
  | none => none
  | some d =>
    let r := s.cat.reserve d n
    some (⟨d, r.1⟩, { s with cat := r.2 })

/-! ## Copy choice -/

/-- A copy is eligible to be read (R158). -/
def State.eligible (s : State) (tried : List CopyName) (p : CopyName × Copy) : Bool :=
  p.2.st != .absent && s.member p.2.loc.drive && s.drives[p.2.loc.drive].level != .none && !tried.contains p.1

/-- Whether a copy on drive `y` is read before one on drive `x` (R158): power state, then among READY drives the shorter list. -/
def State.readsBefore (s : State) (y x : Fin 4) : Bool :=
  let py := s.drives[y].power.rank
  let px := s.drives[x].power.rank
  py < px || (py == 0 && px == 0 && s.drives[y].ops.length < s.drives[x].ops.length)

/-- The copy choice rule (R158) over copies A and B. -/
def State.chooseCopy (s : State) (a b : Option Copy) (tried : List CopyName) : Option (CopyName × Copy) :=
  let all := (match a with | some x => [(CopyName.a, x)] | none => []) ++ (match b with | some x => [(CopyName.b, x)] | none => [])
  let ok := all.filter (s.eligible tried)
  let good := ok.filter fun p => p.2.st == .good
  let use := if good.isEmpty then ok else good
  use.foldl (fun best p => match best with
    | none => some p
    | some q => if s.readsBefore p.2.loc.drive q.2.loc.drive then some p else some q) none

/-! ## The check of a copy read -/

/-- A copy read is good (R44): the CRC over the first L bytes equals the key's fingerprint. -/
def goodRead (k : Key) (data : List Byte) : Bool := fingerprint (data.take k.len) == k.fp

/-- A chunk as it is written: whole sectors, the rest zero (R46). -/
def paddedChunk (bytes : List Byte) : List Byte := padTo (sectorsOf bytes.length * 4096) bytes

/-! ## The image -/

/-- The AU that has number `k` when the drive slots' AUs are counted one slot after another. -/
def Geometry.auNumber (g : Geometry) (k : Nat) : Option (Fin 4 × Nat) :=
  if k < g.au[0] then some (0, k)
  else if k < g.au[0] + g.au[1] then some (1, k - g.au[0])
  else if k < g.au[0] + g.au[1] + g.au[2] then some (2, k - g.au[0] - g.au[1])
  else if k < g.au[0] + g.au[1] + g.au[2] + g.au[3] then some (3, k - g.au[0] - g.au[1] - g.au[2])
  else none

/-- The bytes of an image page as it stands in local DDR: 128 slots, or 512 AU records with zeros after the last. -/
def Cat.pageBytes (c : Cat) (p : Nat) : List Byte :=
  if p < c.geo.indexPages then
    (List.range 128).flatMap fun i => (Config.slotBytes (c.entry (p * 128 + i))).toList
  else
    (List.range 512).flatMap fun i =>
      match c.geo.auNumber ((p - c.geo.indexPages) * 512 + i) with
      | some (d, a) => (Config.auBytes (c.au d a)).toList
      | none => zeros 8

/-- The bytes of consecutive pages. -/
def Cat.pagesBytes (c : Cat) (first count : Nat) : List Byte :=
  (List.range count).flatMap fun i => c.pageBytes (first + i)

/-- The image CRC over all pages in page order (R45, R110). -/
def Cat.imageCrc (c : Cat) : BitVec 32 := crc32 (c.pagesBytes 0 c.geo.pages)

/-- The first sector of an image slot (07, Image slots and the pages of an image). -/
def Geometry.slotSector (g : Geometry) : ImgSlot → Nat
  | .a => 1024
  | .b => (g.c + 1) * 1024

/-- The header that a checkpoint into generation `gen` writes, with the stale flags as they stand now (R111). -/
def Cat.header (c : Cat) (gen : BitVec 64) (crc time : BitVec 32) : Header :=
  { generation := gen, boxId := c.boxId, imageCrc := crc, e := c.geo.e, stale0 := c.stale[0], stale1 := c.stale[1],
    h := c.geo.h, au := c.geo.au, c := c.geo.c, time := time }

/-- Rising page numbers as runs of consecutive pages, at most 256 each (R110): (first page, pages). The manual does not say
how a longer stretch is divided: its short run comes first here, and last in `wholeRuns` (DESIGN CHOICE,
notes/assumptions/64.md). -/
def runsOf (l : List Nat) : List (Nat × Nat) :=
  l.foldr (fun p runs => match runs with
    | (f, n) :: rest => if f = p + 1 ∧ n < 256 then (p, n + 1) :: rest else (p, 1) :: runs
    | [] => [(p, 1)]) []

/-- Whole-image reads and writes in runs of 256 pages. -/
def wholeRuns (pages : Nat) : List (Nat × Nat) :=
  (List.range (ceilDiv pages 256)).map fun i => (256 * i, min 256 (pages - 256 * i))

/-- The runs of pages that a checkpoint writes to a drive (R110 step 1). -/
def Cat.runs (c : Cat) (x : ImgSlot) (inStep : Bool) : List (Nat × Nat) :=
  if inStep then runsOf ((List.range c.geo.pages).filter (c.marks x).has) else wholeRuns c.geo.pages

/-- The index that an image's pages hold. -/
def imageIndex (g : Geometry) (bytes : List Byte) : List (Nat × Entry) :=
  (List.range g.slots).filterMap fun i =>
    (Config.slotOfBytes ((bytes.drop (32 * i)).take 32)).map fun e => (i, e)

/-- A record as LOAD takes it (R92): nothing in flight. -/
def loadedAu (bytes : List Byte) (base k : Nat) : AuRec :=
  { Config.auOfBytes ((bytes.drop (base + 8 * k)).take 8) with inFlight := 0 }

/-- The number of AUs of the drive slots before `d`. -/
def Geometry.ausBefore (g : Geometry) (d : Fin 4) : Nat :=
  (if 0 < d.val then g.au[0] else 0) + (if 1 < d.val then g.au[1] else 0) + (if 2 < d.val then g.au[2] else 0)

/-- The AU records of a drive slot that an image's pages hold, listed where they are not plain. -/
def imageAus (g : Geometry) (bytes : List Byte) (d : Fin 4) : List (Nat × AuRec) :=
  (List.range g.au[d]).filterMap fun a =>
    let r := loadedAu bytes (4096 * g.indexPages) (g.ausBefore d + a)
    if r = g.plainAu d a then none else some (a, r)

end Sys2Proof.Machine
end

