-- ==== Sys2Proof/Machine/Drives.lean ====
section
/-! DEFINITION. Operation Scheduler, Drive Ports and Power Controller: operations and segments (R122 to R130), the
operation list, port commands and the start-up phase (R131 to R135), start requests and grants (R141 to R144). -/

namespace Sys2Proof.Machine

/-! ## Operations -/

/-- The number of segments of an operation (R122). -/
def Op.segments (o : Op) : Nat :=
  match o.kind with
  | .flush | .tempPoll => 1
  | .chunkRead | .chunkWrite | .areaRead | .areaWrite | .labelRead | .labelWrite => ceilDiv o.count 64

/-- The sectors of the operation's next segment (R122). -/
def Op.segCount (o : Op) : Nat := min 64 (o.count - 64 * o.segsDone)

/-- The command that carries the operation's next segment (R122). -/
def Op.command (o : Op) : DriveCmd :=
  let first := o.first + 64 * o.segsDone
  match o.kind with
  | .chunkRead | .areaRead | .labelRead => .read first o.segCount
  | .chunkWrite | .areaWrite | .labelWrite =>
    .write first (padTo (o.segCount * 4096) (o.payload.drop (64 * 4096 * o.segsDone)))
  | .flush => .flush
  | .tempPoll => .readTemp

/-- Whether the sector count or range is one that R122 refuses. The range is checked once IDENTIFY has reported a
capacity. -/
def Op.badRange (o : Op) (capacity : Nat) : Bool :=
  match o.kind with
  | .flush | .tempPoll => false
  | .chunkRead | .chunkWrite | .areaRead | .areaWrite | .labelRead | .labelWrite =>
    o.count == 0 || 256 < o.count || (capacity != 0 && capacity < o.first + o.count)

/-- Operations leave the lists with no outcome handed to any owner, a segment in flight or not (R138, R167). -/
def State.emptied (s : State) (p : Op → Bool) : State :=
  { s with
    drives := s.drives.map fun (x : Drive) => { x with ops := x.ops.filter fun o => !p o, room := x.room.filter fun o => !p o }
    offers := s.offers.filter fun f => !p f.op }

/-- An operation is offered (R125); the Scheduler takes it in OPERATION_OFFER. -/
def State.offer (s : State) (d : Fin 4) (cls : WorkClass) (kind : OpKind) (first count : Nat) (owner : Owner)
    (payload : List Byte) : State :=
  { s with
    nextId := s.nextId + 1
    offers := s.offers ++ [{ drive := d, op := { id := s.nextId, cls, kind, first, count, owner, payload } }] }

/-- The urgency of a class. -/
def WorkClass.rank : WorkClass → Nat
  | .interactive => 0
  | .bulk => 1
  | .background => 2

/-- An operation put in class order behind those of its own class (R124). -/
def placeOp : List Op → Op → List Op
  | [], o => [o]
  | x :: l, o => if o.cls.rank < x.cls.rank then o :: x :: l else x :: placeOp l o

/-- An INTERACTIVE or BULK operation is on the list. -/
def Drive.hasWork (x : Drive) : Bool := x.ops.any fun o => o.cls != .background

/-- The work class that the Scheduler reports (R125). -/
def Drive.workClass (x : Drive) : Option WorkClass :=
  if x.ops.any fun o => o.cls == .interactive then some .interactive
  else if x.ops.any fun o => o.cls == .bulk then some .bulk
  else none

/-- The operation with an id leaves the list (R130). -/
def Drive.dropOp (x : Drive) (id : Nat) : Drive := { x with ops := x.ops.filter fun o => o.id != id }

/-- The operation with an id changed. -/
def Drive.modOp (x : Drive) (id : Nat) (f : Op → Op) : Drive :=
  { x with ops := x.ops.map fun o => if o.id = id then f o else o }

/-- The operation whose segment is on the port. -/
def PortState.segment : PortState → Option Nat
  | .command (.segment id) _ _ | .resetting (.segment id) _ _ => some id
  | _ => none

/-- A drive's list after its operations that satisfy `p` are withdrawn: one with a segment in flight stays, marked, and
leaves when that segment's command ends (R137). Producers waiting for room are withdrawn too. An ACTIVE INTERACTIVE operation with
no segment in flight, which R137 does not name, leaves at once (DESIGN CHOICE, notes/assumptions/78.md). -/
def Drive.withdraw (x : Drive) (p : Op → Bool) : Drive :=
  let flying := x.port.segment
  { x with
    ops := (x.ops.filter fun o => !p o || flying == some o.id).map fun o => if p o then { o with withdrawn := true } else o
    room := x.room.filter fun o => !p o }

/-- Owners withdraw their operations (R137), those only offered among them; the outcome WITHDRAWN asks nothing of them. -/
def State.withdraw (s : State) (p : Fin 4 → Op → Bool) : State :=
  { s with
    drives := Vector.ofFn fun d => s.drives[d].withdraw (p d)
    offers := s.offers.filter fun f => !p f.drive f.op }

/-! ## Choosing the next segment -/

/-- I of R128. -/
def Drive.nextInteractive (x : Drive) : Option Op :=
  match x.ops.find? fun o => o.cls == .interactive && o.st == .active with
  | some o => some o
  | none => x.ops.find? fun o => o.cls == .interactive && o.st == .waiting

/-- M of R128. -/
def Drive.nextOther (x : Drive) : Option Op :=
  match x.ops.find? fun o => o.cls != .interactive && o.st == .suspended with
  | some o => some o
  | none =>
    match x.ops.find? fun o => o.cls != .interactive && o.st == .active with
    | some o => some o
    | none =>
      match x.ops.find? fun o => o.cls == .bulk && o.st == .waiting with
      | some o => some o
      | none => x.ops.find? fun o => o.cls == .background && o.st == .waiting

/-- A BULK is waiting (R128), given M. -/
def Drive.bulkWaiting (x : Drive) (m : Op) : Bool :=
  m.cls == .bulk || (m.cls == .background && m.st == .suspended && x.ops.any fun o => o.cls == .bulk && o.st == .waiting)

/-- The operation whose segment is issued next (R128). -/
def Drive.choose (x : Drive) : Option Op :=
  match x.nextInteractive, x.nextOther with
  | none, none => none
  | none, some m => some m
  | some i, none => some i
  | some i, some m => if x.credit = 0 ∧ x.bulkWaiting m then some m else some i

/-- The list and the credit as the segment of `o` is issued (R128, R129): `o` is ACTIVE, and an ACTIVE non-interactive
operation that an INTERACTIVE segment passes becomes SUSPENDED. -/
def Drive.issue (x : Drive) (credit : Nat) (o : Op) : Drive :=
  { x with
    ops := x.ops.map fun p =>
      if p.id = o.id then { p with st := .active }
      else if o.cls = .interactive ∧ p.cls ≠ .interactive ∧ p.st = .active then { p with st := .suspended }
      else p
    credit := if o.cls = .interactive then x.credit - 1 else credit }

/-! ## Ports -/

/-- A command is issued on an idle port (R131). -/
def State.portIssue (s : State) (d : Fin 4) (u : PortUse) (c : DriveCmd) : State :=
  (s.modDrive d fun x => { x with port := .command u c false }).emit (.port d c)

/-- The next list segment is issued, when there is one (R128). -/
def State.issueNext (s : State) (d : Fin 4) : State :=
  match s.drives[d].choose with
  | some o => (s.modDrive d fun y => y.issue s.cfg.credit o).portIssue d (.segment o.id) o.command
  | none => s

/-- The credit of a port that has become idle with an empty list refills (R129). -/
def Drive.refilled (x : Drive) (credit : Nat) : Drive :=
  if x.port = .idle ∧ x.ops.isEmpty then { x with credit := credit } else x

/-- A command or a port reset has ended: the credit refills when the list is empty (R129). -/
def State.refill (s : State) (d : Fin 4) : State := s.modDrive d fun x => x.refilled s.cfg.credit

/-- The next command of a start-up phase (R133, R134), or the phase's end. SETUP_INCOMPLETE is settled when the setup
list has been sent. The phase's LABEL_READ, which R134 calls BULK, is no segment of an operation of the list and leaves the credit
as it is (DESIGN CHOICE, notes/assumptions/77.md). -/
def State.startupNext (s : State) (d : Fin 4) (u : Startup) : State :=
  match u.stage with
  | .features =>
    match u.todo with
    | (code, value) :: _ => s.portIssue d .feature (.setFeature code value)
    | [] =>
      let t := s.modDrive d fun y => { y with setupIncomplete := u.failed }
      if s.drives[d].identified then t.modDrive d fun y => { y with startup := none }
      else (t.modDrive d fun y => { y with startup := some { u with stage := .identify } }).portIssue d .identify .identify
  | .identify => s.portIssue d .identify .identify
  | .label => s.portIssue d .label (.read 0 1)

/-- What an idle port issues: STANDBY and WAKE first (R135), then a start-up phase's command, then list segments. -/
def State.kickPort (s : State) (d : Fin 4) : State :=
  let x := s.drives[d]
  if x.port ≠ .idle then s
  else if x.power = .starting ∧ x.wakeAsked then
    (s.modDrive d fun y => { y with wakeAsked := false }).portIssue d .wake .wake
  else if x.power = .stopping ∧ x.standbyAsked then
    (s.modDrive d fun y => { y with standbyAsked := false }).portIssue d .standby .standby
  else if x.power = .ready then
    match x.startup with
    | some u =>
      let t := s.startupNext d u
      if t.drives[d].startup.isNone then t.issueNext d else t
    | none => s.issueNext d
  else s

/-- A drive enters READY and its start-up phase begins with the setup list in force (R133, R145). -/
def State.enterReady (s : State) (d : Fin 4) : State :=
  s.modDrive d fun x =>
    { x with power := .ready, startTimer := none, startFails := 0, startup := some { todo := s.cfg.drive[d].setup } }

/-! ## Start requests and grants -/

/-- The rank of a request in the start queue (R142). -/
def StartReq.before (x y : StartReq) : Bool :=
  x.cls.rank < y.cls.rank || (x.cls.rank == y.cls.rank && x.age < y.age)

/-- A request put in the queue's order (R142). -/
def queueInsert : List StartReq → StartReq → List StartReq
  | [], r => [r]
  | x :: l, r => if r.before x then r :: x :: l else x :: queueInsert l r

/-- The class of the drive's start request, when it has one to make (R141). -/
def Drive.reason (x : Drive) : Option WorkClass :=
  if (x.power = .unpowered ∨ x.power = .parked) ∧ !x.failed then
    match x.workClass with
    | some c => some c
    | none => if x.demands.isEmpty then none else some .bulk
  else none

/-- What the drive holds for the shutdown's own checkpoint alone: its demand, and its operations (R191). -/
def Drive.ckptOnly (x : Drive) : Drive :=
  { x with demands := x.demands.filter fun b => b == .checkpoint, ops := x.ops.filter fun o => o.owner == .checkpoint }

/-- The class of the start request that the drive has to make as the box stands (R141, R191): in the power-down phase only a
drive of the shutdown's own checkpoint has one, and for that checkpoint's sake alone. In box SLEEP no drive has a reason (R142). -/
def State.reason (s : State) (d : Fin 4) : Option WorkClass :=
  if s.powerDown then (if s.ownCkptDrive d then s.drives[d].ckptOnly.reason else none) else s.drives[d].reason

/-- The start queue brought up to date for one drive (R141): a request joins with a fresh age, changes class with its age
kept, or is withdrawn. -/
def State.syncRequest (s : State) (d : Fin 4) : State :=
  let rest := s.startQueue.filter fun r => r.drive != d
  match s.reason d, s.startQueue.find? fun r => r.drive == d with
  | none, _ => { s with startQueue := rest }
  | some c, some r => { s with startQueue := queueInsert rest { r with cls := c } }
  | some c, none => { s with startQueue := queueInsert rest { drive := d, cls := c, age := s.nextId }, nextId := s.nextId + 1 }

/-- The start queue brought up to date. -/
def State.syncQueue (s : State) : State := drives4.foldl State.syncRequest s

/-- The head fits in the budget in force (R144). -/
def State.fits (s : State) (d : Fin 4) : Bool :=
  let c := s.committed
  c ≤ s.budget && c - contribution s.drives[d].power s.cfg.drive[d] + s.cfg.drive[d].spinUp ≤ s.budget

/-- A grant (R144, R145). The power state that the drive leaves is noted for the status page (R17). -/
def State.grant (s : State) (d : Fin 4) : State :=
  let q := { s.note with startQueue := s.startQueue.filter fun r => r.drive != d }
  if s.drives[d].power = .parked then
    q.modDrive d fun x => { x with power := .starting, fromParked := true, wakeAsked := true }
  else
    (q.modDrive d fun x =>
      { x with power := .starting, fromParked := false, rail := true, startTimer := some s.cfg.drive[d].startTimeout,
               railGrace := none }).emit (.rail d true)

/-- Grants as long as the head fits; the queue holds at most four requests. -/
def State.grantLoop : Nat → State → State
  | 0, s => s
  | n + 1, s =>
    match s.startQueue with
    | [] => s
    | r :: _ => if s.fits r.drive then (s.grant r.drive).grantLoop n else s

/-- The rail of a drive is commanded off and it is UNPOWERED. -/
def State.powerOff (s : State) (d : Fin 4) : State :=
  (s.modDrive d fun x => { x with power := .unpowered, rail := false, startTimer := none, wakeAsked := false, standbyAsked := false }).emit
    (.rail d false)

/-- A STANDBY request is made and the drive enters STOPPING (R150). The power state that it leaves is noted for the status page
(R17). -/
def State.makeStandby (s : State) (d : Fin 4) : State :=
  s.note.modDrive d fun x => { x with power := .stopping, standbyAsked := true, idle := none, idleHeld := false }

/-- A STANDBY request may be made: READY, start-up phase ended, list empty, port IDLE (R150). -/
def Drive.canStandby (x : Drive) : Bool := x.serving && x.ops.isEmpty && x.port == .idle

/-- A demand is held for a drive (R141). A demand for a READY drive is released at once, and one for a FAILED or ABSENT
drive is answered at once: neither is held. Whether the start is under way or to come is the answer. -/
def State.raiseDemand (s : State) (d : Fin 4) (b : DemandBy) : State :=
  let x := s.drives[d]
  if x.usable && x.power != .ready && !x.demands.contains b then s.modDrive d fun y => { y with demands := y.demands ++ [b] }
  else s

/-- A demand is of kind ONCE. -/
def DemandBy.once : DemandBy → Bool
  | .prestart | .checkpoint | .load => true
  | .format | .start | .adopt | .resync => false

/-- A pending park or power-off of a drive is placed; a power-off in a box sequence may replace a park. -/
def State.setPark (s : State) (d : Fin 4) (p : ParkReq) : State := s.modDrive d fun x => { x with park := some p, idle := none, idleHeld := false }

end Sys2Proof.Machine
end

