-- ==== Sys2Proof/Machine/Checkpoint.lean ====
section
/-! DEFINITION. Checkpoints up to the hold: requests, preparation, answers (R108 to R110, R113, R114), and the write
sequence of one drive (R110 to R112). -/

namespace Sys2Proof.Machine

/-! ## The checkpoint in flight -/

/-- The mask of the drives that completed. -/
def Ckpt.mask (c : Ckpt) : Nat := bitOf (c.d0 == .completed) + 2 * bitOf (c.d1 == .completed)

/-- The checkpoint in flight changed. -/
def State.modCkpt (s : State) (f : Ckpt → Ckpt) : State := s.modEngine fun e => { e with ckpt := e.ckpt.map f }

/-- A request names the catalogue drive as excluded (R108). -/
def CkptReq.excludes : CkptReq → Fin 2 → Bool
  | .shutdown a b, i => if i = 0 then a else b
  | .job _, _ | .sealed _, _ | .adopt, _ | .sleep, _ => false

/-- An image slot's code. -/
def ImgSlot.code : ImgSlot → Nat
  | .a => 0
  | .b => 1

/-! ## Answers -/

/-- The job that carries ADOPT, with its progress. -/
def State.adoptJob (s : State) : Option (Nat × AdoptWork) :=
  s.jobs.findSome? fun j => match j.phase with
    | .adopting w => some (j.id, w)
    | _ => none

/-- ADOPT's result with its counts (R103). -/
def AdoptWork.result (w : AdoptWork) (x : Status) : Result :=
  { status := w.status.worse x, aux := min w.auCopied 65535, w0 := BitVec.ofNat 32 w.absent, w1 := BitVec.ofNat 32 w.damaged,
    w2 := BitVec.ofNat 32 w.reset }

/-- ADOPT's checkpoint is answered: the label write follows success (R103 step 5). -/
def State.answerAdopt (s : State) (ok : Bool) : State :=
  match s.adoptJob with
  | none => s
  | some (id, w) =>
    if w.stage ≠ .checkpointing then s
    else if ok then
      (s.setPhase id (.adopting { w with stage := .labelWrite })).offer w.drive .bulk .labelWrite 0 1 .adoptLabelWrite
        (labelSector s.cat.boxId w.drive.val s.cat.geo.au[w.drive] s.stamp)
    else s.complete id (w.result .checkpointFailed)

/-- The sequence in progress changed. -/
def State.modSeq (s : State) (f : Seq → Seq) : State := s.modBox fun b => { b with seq := b.seq.map f }

/-- One request of a checkpoint is answered (R113 step 6, R114, R115, R67, R103, R186, R192). -/
def State.answer (s : State) (q : CkptReq) (ok : Bool) (mask : Nat) (x : ImgSlot) : State :=
  match q with
  | .job id =>
    s.complete id
      { status := if ok then .ok else .checkpointFailed
        aux := x.code
        w0 := s.cat.generation.setWidth 32
        w1 := (s.cat.generation >>> 32).setWidth 32
        w2 := BitVec.ofNat 32 mask }
  | .sealed id =>
    match s.job id with
    | some { phase := .sealing r, .. } =>
      s.complete id (if ok then r else { r with status := r.status.worse .checkpointFailed })
    | _ => s
  | .adopt => s.answerAdopt ok
  | .sleep => s.modSeq fun q => { q with ckpt := if ok then .succeeded else .failed }
  | .shutdown _ _ =>
    let t := s.modSeq fun q => { q with ckpt := if ok then .succeeded else .failed }
    if ok then t else t.setCause .checkpointMissed

/-- Every request served is answered. -/
def State.answerAll (s : State) (l : List CkptReq) (ok : Bool) (mask : Nat) (x : ImgSlot) : State :=
  l.foldl (fun s q => s.answer q ok mask x) s

/-! ## Preparation -/

/-- A catalogue drive is tried (R109). -/
def State.ckptTries (s : State) (l : List CkptReq) (i : Fin 2) : Bool :=
  s.member (catDrive i) && s.drives[catDrive i].usable && !l.any fun q => q.excludes i

/-- The checkpoint asks for the hold once every start has ended (R109). One that serves the ADOPT in possession of the
hold will take it directly and joins no queue (R108). -/
def State.ckptAsk (s : State) : State :=
  match s.engine.ckpt with
  | none => s
  | some c =>
    if c.asked ∨ c.d0 = .starting ∨ c.d1 = .starting ∨ !(c.d0 == .prepared || c.d1 == .prepared) then s
    else
      let t := s.modCkpt fun c => { c with asked := true }
      if s.engine.hold = some .adopt ∧ c.reqs.contains .adopt then t
      else t.modEngine fun e => { e with holdQueue := e.holdQueue ++ [.checkpoint] }

/-- Where a checkpoint starts on a catalogue drive (R109). In the power-down phase a checkpoint that is not the shutdown's own gets
no start (R191): its demand is answered at once, and the drive is dropped (DESIGN CHOICE, notes/assumptions/76.md). -/
def State.ckptStep (s : State) (l : List CkptReq) (i : Fin 2) : CkptStep :=
  if !s.ckptTries l i then .notTried
  else if s.drives[catDrive i].power = .ready then .prepared
  else if s.powerDown && !l.any CkptReq.isShutdown then .notTried
  else .starting

/-- A checkpoint starts (R109); with no drive to try it fails at once. -/
def State.beginCkpt (s : State) (l : List CkptReq) : State :=
  let step := s.ckptStep l
  if step 0 = .notTried ∧ step 1 = .notTried then s.answerAll l false 0 s.cat.target
  else
    let t := s.modEngine fun e => { e with ckpt := some { reqs := l, d0 := step 0, d1 := step 1 } }
    let t := if step 0 = .starting then t.raiseDemand 0 .checkpoint else t
    let t := if step 1 = .starting then t.raiseDemand 1 .checkpoint else t
    t.ckptAsk

/-- A checkpoint is requested (R108): it starts one, or joins the queued one; without a READY catalogue the answer is
the failure that the requester's chapter gives. -/
def State.requestCkpt (s : State) (q : CkptReq) : State :=
  if s.cat.st ≠ .ready then s.answer q false 0 s.cat.target
  else
    match s.engine.ckpt, s.engine.queued with
    | none, none => s.beginCkpt [q]
    | _, some l => s.modEngine fun e => { e with queued := some (l ++ [q]) }
    | some _, none => s.modEngine fun e => { e with queued := some [q] }

/-- ADOPT's request is served by the checkpoint in flight, which has not begun its image write while ADOPT holds (R108). -/
def State.requestCkptAdopt (s : State) : State :=
  match s.engine.ckpt with
  | none => s.beginCkpt [.adopt]
  | some _ => s.modCkpt fun c => { c with reqs := c.reqs ++ [.adopt] }

/-! ## The write sequence of a drive -/

/-- The operations of the image write are queued for one drive (R110 step 1, or step 2 with no pages to write). -/
def State.ckptQueue (s : State) (x : ImgSlot) (i : Fin 2) : State :=
  let d := catDrive i
  let inStep := match x with
    | .a => s.cat.inStepA[i]
    | .b => s.cat.inStepB[i]
  let runs := s.cat.runs x inStep
  if runs.isEmpty then (s.modCkpt fun c => c.put i .flush1).offer d .bulk .flush 0 0 .checkpoint []
  else
    runs.foldl
      (fun s r => s.offer d .bulk .areaWrite (s.cat.geo.slotSector x + 1 + r.1) r.2 .checkpoint (s.cat.pagesBytes r.1 r.2))
      (s.modCkpt fun c => c.put i (.pages runs.length))

/-- A drive fails the checkpoint: its operations not yet issued are withdrawn (R112). -/
def State.ckptFailDrive (s : State) (i : Fin 2) : State :=
  (s.modCkpt fun c => c.put i .failed).withdraw fun d o => d == catDrive i && o.owner == .checkpoint

/-- The next step of a drive's write sequence after an operation answered DONE (R110). -/
def State.ckptAdvance (s : State) (c : Ckpt) (i : Fin 2) : State :=
  let d := catDrive i
  let go := fun x => s.modCkpt fun c => c.put i x
  match c.at i with
  | .pages n => if n ≤ 1 then (go .flush1).offer d .bulk .flush 0 0 .checkpoint [] else go (.pages (n - 1))
  | .flush1 =>
    (go .header).offer d .bulk .areaWrite (s.cat.geo.slotSector c.target) 1 .checkpoint
      (s.cat.header (c.gen + 1) c.crc c.time).sector
  | .header => (go .flush2).offer d .bulk .flush 0 0 .checkpoint []
  | .flush2 => go .completed
  | .notTried | .starting | .prepared | .completed | .failed => s

/-- The outcome of a checkpoint operation on drive `i` (R110, R112). -/
def State.ckptOp (s : State) (i : Fin 2) (r : OpOutcome) : State :=
  match s.engine.ckpt with
  | none => s
  | some c =>
    if !(c.at i).busy then s
    else match r with
      | .done _ => s.ckptAdvance c i
      | .error _ | .noAnswer | .driveFailed | .notReady | .withdrawn => s.ckptFailDrive i

/-! ## The catalogue changes of a success -/

/-- A drained AU frees (R99). -/
def AuRec.reuse (r : AuRec) (gen : BitVec 64) : AuRec :=
  if r.st = .drained ∧ r.drainedGen.toNat + 2 ≤ gen.toNat then {} else r

/-- Every DRAINED record of a drive slot that meets the reuse rule becomes FREE (R99). -/
def Cat.reuseDrive (c : Cat) (d : Fin 4) : Cat :=
  c.aus[d].foldl (fun c p => c.setAu d p.1 ((c.au d p.1).reuse c.generation)) c

/-- Both catalogue drives are in step for both slots. -/
def Cat.allInStep (c : Cat) : Bool := c.inStepA[0] && c.inStepA[1] && c.inStepB[0] && c.inStepB[1]

/-- Steps 1 to 5 of R113. -/
def Cat.checkpointed (c : Cat) (k : Ckpt) : Cat :=
  let done := #v[k.d0 == .completed, k.d1 == .completed]
  let c := match k.target with
    | .a => { c with genA := k.gen + 1, marksA := {}, inStepA := done, lastTime := k.time }
    | .b => { c with genB := k.gen + 1, marksB := {}, inStepB := done, lastTime := k.time }
  if c.allInStep then drives4.foldl Cat.reuseDrive c else c

end Sys2Proof.Machine
end

