-- ==== Sys2Proof/Machine/Streams.lean ====
section
/-! DEFINITION. The Chunker: the cut of a stream (R33 to R42), the stream's job list (R47, R48), owners, references and
the finish of a chunk (R52 to R54, R63 to R66, R68). What a resolution does to the catalogue is in Requests.lean. -/

namespace Sys2Proof.Machine

/-! ## Cut state -/

/-- The cut state at its starting values, with nothing in staging (R33, R40). -/
def Stream.fresh (x : Stream) : Stream := { x with h := 0, crc := BitVec.allOnes 64, held := false, cur := [], curOwn := 0 }

/-- A byte is taken into the current chunk (R35). -/
def Stream.takeByte (x : Stream) (b : Byte) : Stream :=
  { x with cur := x.cur ++ [b], h := hashStep x.h b, crc := crc64Byte x.crc b, curOwn := x.curOwn + 1 }

/-- The cut test (R36). -/
def Stream.cutTest (x : Stream) : Bool :=
  x.cur.length == x.maxLen || (x.minLen ≤ x.cur.length && x.h.toNat < 2 ^ (32 - x.k))

/-- The active job of a stream (R48). -/
def Stream.active (x : Stream) : Option Nat :=
  match x.st with
  | .feeding | .closing => if x.internal then none else x.list.head?
  | .opened | .closed => none

/-- The current chunk joins the window as chunk `id` (R37, R52). -/
def Stream.cutAs (x : Stream) (id : Nat) : Stream :=
  { x.fresh with
    window := x.window ++
      [{ id := id, key := { fp := ~~~x.crc, len := x.cur.length }, bytes := x.cur, own := x.curOwn, owner := x.active }] }

/-- A cut (R37). -/
def State.cut (s : State) (n : Fin 8) : State := s.bump.modStream n fun x => x.cutAs s.nextId

/-- The window has room for another chunk. -/
def Stream.windowOpen (x : Stream) : Bool := decide (x.window.length < 3)

/-- A cut, or, with three unfinished chunks in the window, a held cut (R37, R38). -/
def State.cutOrHold (s : State) (n : Fin 8) : State :=
  if s.streams[n].windowOpen then s.cut n else s.modStream n fun x => { x with held := true }

/-- A held cut is made when the window has room (R38). -/
def State.makeHeld (s : State) (n : Fin 8) : State :=
  if s.streams[n].held && s.streams[n].windowOpen then s.cut n else s

/-- Bytes are taken until none is left or the held flag is set (R35 to R38); the bytes not taken. -/
def State.takeBytes (s : State) (n : Fin 8) : List Byte → State × List Byte
  | [] => (s, [])
  | b :: l =>
    if s.streams[n].held then (s, b :: l)
    else
      let t := s.modStream n fun x => x.takeByte b
      (if t.streams[n].cutTest then t.cutOrHold n else t).takeBytes n l

/-! ## Owners -/

/-- The progress of a FEED or CLOSE_STREAM. -/
def State.work (s : State) (id : Nat) : Option StreamWork :=
  match s.job id with
  | some { phase := .stream w, .. } => some w
  | _ => none

/-- The progress of a FEED or CLOSE_STREAM changed. -/
def State.modWork (s : State) (id : Nat) (f : StreamWork → StreamWork) : State :=
  match s.work id with
  | some w => s.setPhase id (.stream (f w))
  | none => s

/-- The owner of a chunk changed, when the chunk has one in flight. -/
def State.modOwner (s : State) (o : Option Nat) (f : StreamWork → StreamWork) : State :=
  match o with
  | some id => s.modWork id f
  | none => s

/-- A job is a FEED. -/
def Job.isFeed (j : Job) : Bool :=
  match j.req with
  | .feed _ _ _ _ _ => true
  | _ => false

/-- A status met by an owner. -/
def StreamWork.meets (w : StreamWork) (x : Status) : StreamWork := { w with status := w.status.worse x }

/-- An owner stops taking bytes: reads not yet taken are discarded (R51). -/
def StreamWork.stopTaking (w : StreamWork) : StreamWork := { w with stopped := true, buf := [] }

/-! ## Chunks -/

/-- A chunk in a stream's window. -/
def State.chunk (s : State) (n : Fin 8) (id : Nat) : Option Chunk := s.streams[n].window.find? fun c => c.id == id

/-- A chunk changed. -/
def State.modChunk (s : State) (n : Fin 8) (id : Nat) (f : Chunk → Chunk) : State :=
  s.modStream n fun x => { x with window := x.window.map fun c => if c.id = id then f c else c }

/-- The chunk is RESOLVING. -/
def ChunkPhase.resolvingNow : ChunkPhase → Bool
  | .resolving | .comparing _ _ _ _ | .verdict | .referencing => true
  | .waiting | .resolved | .rewriting => false

/-- The chunks of a window up to and including chunk `id`. -/
def windowThrough : List Chunk → Nat → List Chunk
  | [], _ => []
  | c :: l, id => if c.id = id then [c] else c :: windowThrough l id

/-- The chunks of a window before chunk `id`. -/
def windowBefore : List Chunk → Nat → List Chunk
  | [], _ => []
  | c :: l, id => if c.id = id then [] else c :: windowBefore l id

/-- Chunks of a window after chunk `id` exist. -/
def laterChunks (l : List Chunk) (id : Nat) : Bool := (windowThrough l id).length < l.length

/-- The rewind to the cut that ended chunk `id` (R40), which is also the cut that began the next. -/
def State.rewindAfter (s : State) (n : Fin 8) (id : Nat) : State :=
  s.modStream n fun x => { x.fresh with window := windowThrough x.window id }

/-- The rewind to the cut that began chunk `id`, which is withdrawn with those behind it (R63). -/
def State.rewindBefore (s : State) (n : Fin 8) (id : Nat) : State :=
  s.modStream n fun x => { x.fresh with window := windowBefore x.window id }

/-! ## Requests and references -/

/-- A catalogue request arrives (R80). -/
def State.request (s : State) (q : CatReq) : State := s.modEngine fun e => { e with requests := e.requests ++ [q] }

/-- The oldest WAITING chunk with an owner becomes RESOLVING when no other is, and its request is made (R52). -/
def State.resolveNext (s : State) (n : Fin 8) : State :=
  let w := s.streams[n].window
  if w.any fun c => c.phase.resolvingNow then s
  else
    match w.find? fun c => c.phase == .waiting with
    | none => s
    | some c =>
      if c.owner.isSome then (s.modChunk n c.id fun c => { c with phase := .resolving }).request (.resolution n c.id) else s

/-- A resolution ends: the reference is issued into the owner's next slot, or skipped when the owner was abandoned
(R53, R68). -/
def State.issueRef (s : State) (n : Fin 8) (c : Chunk) (r : Ref) : State :=
  match c.owner with
  | none => s.modChunk n c.id fun c => { c with phase := .resolved, ref := some r, mute := true }
  | some o =>
    match s.work o with
    | none => s.modChunk n c.id fun c => { c with phase := .resolved, ref := some r, mute := true }
    | some w =>
      (s.modChunk n c.id fun c => { c with phase := .referencing, ref := some r, slot := some w.written }).emit
        (.hostWrite (w.recipe + BitVec.ofNat 64 (32 * w.written)) r.bytes)

/-! ## Finish -/

/-- A FEED's result (R65). -/
def StreamWork.feedResult (w : StreamWork) : Result :=
  { status := w.status, aux := min w.lost 65535, w0 := BitVec.ofNat 32 w.consumed, w1 := BitVec.ofNat 32 w.written,
    w2 := BitVec.ofNat 32 w.new }

/-- A handed-over FEED completes when every chunk it owns has finished (R65). -/
def State.feedComplete (s : State) (id : Nat) : State :=
  match s.work id with
  | none => s
  | some w =>
    if w.ended ∧ (s.streams[w.stream].window.any fun c => c.owner == some id) = false then s.complete id w.feedResult else s

/-- The outcome of a finished chunk counted for its owner (R64, R65). -/
def StreamWork.count (w : StreamWork) (c : Chunk) (o : ChunkOutcome) : StreamWork :=
  match o with
  | .new => if c.slot.isSome then { w with new := w.new + 1 } else w
  | .duplicate => w
  | .lost => ({ w with lost := if c.slot.isSome then w.lost + 1 else w.lost } : StreamWork).meets .writeFailed

/-- The chunk leaves the window and counts as finished (R64). -/
def State.finishNow (s : State) (n : Fin 8) (c : Chunk) (o : ChunkOutcome) : State :=
  let t := s.modStream n fun x =>
    { x with
      window := x.window.filter fun y => y.id != c.id
      finished := x.finished + 1
      new := if o = .new then x.new + 1 else x.new
      lost := if o = .lost then x.lost + 1 else x.lost }
  let t := t.modOwner c.owner fun w => w.count c o
  match c.owner with
  | some id => t.feedComplete id
  | none => t

/-- A RESOLVED chunk whose outcome is decided finishes; its reference is rewritten first when its content has changed
(R64). -/
def State.tryFinish (s : State) (n : Fin 8) (id : Nat) : State :=
  match s.chunk n id with
  | none => s
  | some c =>
    match c.phase, c.outcome with
    | .resolved, some o =>
      let work := c.owner.bind s.work
      match work, c.slot with
      | some w, some slot =>
        if !c.mute && c.ref != some c.final then
          (s.modChunk n id fun c => { c with phase := .rewriting, ref := some c.final }).emit
            (.hostWrite (w.recipe + BitVec.ofNat 64 (32 * slot)) c.final.bytes)
        else s.finishNow n c o
      | _, _ => s.finishNow n c o
    | _, _ => s

/-- The outcome of a chunk is decided, with its reference as it must stand at the finish. -/
def State.decideChunk (s : State) (n : Fin 8) (id : Nat) (o : ChunkOutcome) (f : Ref) : State :=
  (s.modChunk n id fun c => { c with outcome := some o, final := f }).tryFinish n id

/-! ## The job list -/

/-- A value of OPEN_STREAM: 0 takes the default; the value clamped and whether it had to change (R34). -/
def openValue (v dflt lo hi : Nat) : Nat × Nat :=
  let x := if v = 0 then dflt else v
  if x < lo then (lo, 1) else if hi < x then (hi, 1) else (x, 0)

/-- What OPEN_STREAM opens, and its result (R34, R49). -/
def openStream (cfg : Cfg) (list : List Nat) (k verify copies minLen maxLen : Nat) : Stream × Result :=
  let maxL := openValue maxLen cfg.maxLen 4096 1048576
  let minL := openValue minLen cfg.minLen 512 maxL.1
  let kk := openValue k cfg.k 11 18
  let strict : Bool × Nat :=
    if verify = 0 then (cfg.strict, 0) else if verify = 1 then (true, 0) else if verify = 2 then (false, 0) else (true, 1)
  let cop : Nat × Nat := if copies = 0 then (cfg.copies, 0) else if 2 < copies then (2, 1) else (copies, 0)
  let clamped := maxL.2 + minL.2 + kk.2 + strict.2 + cop.2
  ({ st := .opened, k := kk.1, minLen := minL.1, maxLen := maxL.1, strict := strict.1, copies := cop.1, list := list },
   { status := Status.when (clamped != 0) .okClamped, aux := clamped, w0 := BitVec.ofNat 32 minL.1,
     w1 := BitVec.ofNat 32 maxL.1, w2 := BitVec.ofNat 32 kk.1 })

/-- Every chunk without an owner is adopted by the job that becomes active (R52). -/
def adoptChunks (l : List Chunk) (id : Nat) : List Chunk :=
  l.map fun c => if c.phase = .waiting ∧ c.owner = none then { c with owner := some id } else c

/-- A FEED becomes active: its source is read by DMA (R50). -/
def State.startFeed (s : State) (n : Fin 8) (id : Nat) (w : StreamWork) : State :=
  ((s.modStream n fun x => { x with st := .feeding, window := adoptChunks x.window id }).setPhase id
    (.stream { w with active := true })).emit (.hostRead w.src w.left)

/-- A CLOSE_STREAM becomes active and ends the current chunk (R42, R66). With DISCARD an unowned WAITING chunk is withdrawn, as R66
says, where R42 says that no chunk in the window is touched (DESIGN CHOICE, notes/assumptions/69.md). -/
def State.startClose (s : State) (n : Fin 8) (id : Nat) (w : StreamWork) : State :=
  let t := (s.modStream n fun x => { x with st := .closing }).setPhase id (.stream { w with active := true })
  if w.discard then
    t.modStream n fun x => { x.fresh with window := x.window.filter fun c => !(c.phase == .waiting && c.owner.isNone) }
  else
    let t := t.modStream n fun x => { x with window := adoptChunks x.window id }
    if t.streams[n].held then t.makeHeld n
    else if t.streams[n].cur.isEmpty then t
    else t.cutOrHold n

/-- A 64-bit total as a result word, saturating. -/
def satWord (v : BitVec 64) : BitVec 32 := BitVec.ofNat 32 (min v.toNat 4294967295)

/-- A CLOSE_STREAM's result, from the totals before they are discarded (R66). -/
def closeResult (x : Stream) (w : StreamWork) : Result :=
  { status := w.status, aux := w.written, w0 := satWord x.finished, w1 := satWord x.new, w2 := satWord x.lost }

/-- The stream becomes CLOSED: the context is discarded and the close completes, or waits for its checkpoint (R66, R67). -/
def State.streamClosed (s : State) (n : Fin 8) : State :=
  let x := s.streams[n]
  match x.active with
  | none => s.modStream n fun _ => { list := x.list }
  | some id =>
    let t := s.modStream n fun _ => { list := x.list.tail }
    match s.work id with
    | none => t
    | some w =>
      let r := closeResult x w
      if w.withSeal then (t.setPhase id (.sealing r)).requestCkpt (.sealed id) else t.complete id r

/-- The hand-over of the active FEED (R51). -/
def State.handOver (s : State) (n : Fin 8) (id : Nat) : State :=
  let own := s.streams[n].curOwn
  let t := s.modStream n fun x => { x with st := .opened, list := x.list.tail, curOwn := 0 }
  (t.modWork id fun w => { w with ended := true, consumed := w.consumed + own }).feedComplete id

/-- The job at the head of the list reaches it with the stream OPEN or CLOSED (R48, R49). -/
def State.headJob (s : State) (n : Fin 8) (j : Job) : State :=
  let popped := s.modStream n fun x => { x with list := x.list.tail }
  let refuse := popped.complete j.id (.refusal .wrongState)
  match j.req, s.streams[n].st with
  | .openStream _ k v c mn mx, .closed =>
    if s.cat.st ≠ .ready then popped.complete j.id (.refusal .noCatalogue)
    else
      let o := openStream s.cfg s.streams[n].list.tail k v c mn mx
      (s.modStream n fun _ => o.1).complete j.id o.2
  | .feed _ _ _ _ _, .opened =>
    match s.work j.id with
    | some w => s.startFeed n j.id w
    | none => popped
  | .closeStream _ _ _ _ _, .opened =>
    match s.work j.id with
    | some w => s.startClose n j.id w
    | none => popped
  | _, _ => refuse

/-- One advance of a stream's job list, when one is due: a hand-over, an end of a close, or a job reaching the head. -/
def State.listAdvance (s : State) (n : Fin 8) : Option State :=
  let x := s.streams[n]
  match x.st with
  | .feeding =>
    match x.list.head? with
    | none => some (s.modStream n fun x => { x with st := .opened })
    | some id =>
      match s.work id with
      | none => some (s.modStream n fun x => { x with st := .opened, list := x.list.tail })
      | some w =>
        if w.stopped ∧ (x.window.any fun c => c.owner == some id && (c.phase == .waiting || c.phase.resolvingNow)) = false then
          some (s.handOver n id)
        else none
  | .closing => if x.window.isEmpty && !x.held then some (s.streamClosed n) else none
  | .opened | .closed =>
    match x.list.head? with
    | none => none
    | some id =>
      match s.job id with
      | some j => some (s.headJob n j)
      | none => some (s.modStream n fun x => { x with list := x.list.tail })

/-- Delivered bytes that waited are taken into the cut state (R38). -/
def State.pump (s : State) (n : Fin 8) : State :=
  match s.streams[n].st, s.streams[n].active with
  | .feeding, some id =>
    match s.work id with
    | none => s
    | some w =>
      if w.stopped then s
      else
        let r := s.takeBytes n w.buf
        let left := w.left - (w.buf.length - r.2.length)
        r.1.setPhase id (.stream { w with buf := r.2, left := left, stopped := left == 0 })
  | _, _ => s

/-- What a stream does by itself before its job list is looked at. -/
def State.streamWork (s : State) (n : Fin 8) : State := ((s.makeHeld n).pump n).resolveNext n

/-- The stream settles: a list holds at most eight jobs, each of which advances at most twice. -/
def State.settleLoop : Nat → Fin 8 → State → State
  | 0, _, s => s
  | k + 1, n, s =>
    let t := s.streamWork n
    match t.listAdvance n with
    | none => t
    | some u => u.settleLoop k n

/-- The stream settles. -/
def State.settleStream (s : State) (n : Fin 8) : State := State.settleLoop 20 n s

/-- The eight streams. -/
def streams8 : List (Fin 8) := [0, 1, 2, 3, 4, 5, 6, 7]

/-- Every stream settles. -/
def State.settleStreams (s : State) : State := streams8.foldl State.settleStream s

/-! ## Refusal and the internal close -/

/-- The chunk is refused for want of a copy A candidate (R63). -/
def State.refuseChunk (s : State) (n : Fin 8) (c : Chunk) : State :=
  (s.rewindBefore n c.id).modOwner c.owner fun w => w.stopTaking.meets .noSpace

/-- The internal close of one stream begins (R68): its jobs have been abandoned. -/
def State.internalClose (s : State) (n : Fin 8) : State :=
  if s.streams[n].st = .closed then s
  else
    (s.modStream n fun x =>
      { x.fresh with st := .closing, internal := true, list := [], window := x.window.filter fun c => c.phase != .waiting }).settleStream n

/-- Streams that are not CLOSED. -/
def State.openStreams (s : State) : Nat := (streams8.filter fun n => s.streams[n].st != .closed).length

/-- Every stream that is not CLOSED is closed (R68). -/
def State.closeAll (s : State) : State := streams8.foldl State.internalClose s

end Sys2Proof.Machine
end

