-- ==== Sys2Proof/Machine/Reads.lean ====
section
/-! DEFINITION. Reads: additions to the repair list (R164), FETCH (R155 to R161) and BLOCK_READ (R163). -/

namespace Sys2Proof.Machine

/-! ## Repair list -/

/-- An addition is offered to the repair list: joined, a duplicate, or an overflow (R164). The count before an overflow is noted
for the status page (R17). -/
def State.addRepair (s : State) (e : RepairEntry) : State :=
  if s.repair.list.any fun x => x.slot == e.slot && x.copy == e.copy then s
  else if s.repair.list.length < 64 then { s with repair := { s.repair with list := s.repair.list ++ [e] } }
  else (s.note.modCat fun c => { c with overflows := satInc top32 c.overflows }).setCause .repairOverflow

/-- The slot holds the key in state DAMAGED. -/
def Cat.damagedAt (c : Cat) (slot : Nat) (k : Key) : Bool := (c.entry slot).any fun e => e.key == k && e.st == .damaged

/-- An addition for a copy read bad; none is made for a DAMAGED entry (R160). The manual does not say when that is tested; it is
tested at the read's verdict, whatever reports still wait (DESIGN CHOICE, notes/assumptions/65.md). -/
def State.addBadCopy (s : State) (slot : Nat) (k : Key) (n : CopyName) (l : Loc) (reason : RepairReason) : State :=
  if s.cat.damagedAt slot k then s else s.addRepair { slot := slot, copy := n, reason := reason, key := k, loc := l }

/-! ## FETCH -/

/-- The copies that a reference has had its turn with: read bad, or their read not made. -/
def FetchRef.seen (r : FetchRef) : List CopyName := r.tried ++ r.passed

/-- The progress of a FETCH. -/
def State.fetchWork (s : State) (id : Nat) : Option FetchWork :=
  match s.job id with
  | some { phase := .fetching w, .. } => some w
  | _ => none

/-- The progress of a FETCH changed. -/
def State.modFetch (s : State) (id : Nat) (f : FetchWork → FetchWork) : State :=
  match s.fetchWork id with
  | some w => s.setPhase id (.fetching (f w))
  | none => s

/-- A status met by a FETCH. -/
def FetchWork.meets (w : FetchWork) (x : Status) : FetchWork := { w with status := w.status.worse x }

/-- One reference of a FETCH changed. -/
def FetchWork.modRef (w : FetchWork) (i : Nat) (f : FetchRef → FetchRef) : FetchWork := { w with refs := w.refs.modify i f }

/-- The destination write of a reference is issued. -/
def State.fetchWrite (s : State) (id i : Nat) (w : FetchWork) (r : FetchRef) (chunk : Bool) (count : FetchCount)
    (bytes : List Byte) : State :=
  (s.modFetch id fun w => w.modRef i fun r => { r with st := .writing chunk, count := count }).emit
    (.hostWrite (w.dest + BitVec.ofNat 64 r.offset) bytes)

/-- A reference is zero-filled (R157, R160). -/
def State.fetchZero (s : State) (id i : Nat) (w : FetchWork) (r : FetchRef) (count : FetchCount) (x : Status) : State :=
  (s.fetchWrite id i w r false count (zeros r.ref.key.len)).modFetch id fun w => w.meets x

/-- A copy of a LIVE entry that the copy choice skipped because its drive is FAILED, another copy being present, is
offered to the repair list with reason MISSING (R164). A copy that this reference already had its turn with was not skipped. -/
def State.fetchMissing (s : State) (r : FetchRef) : State :=
  if r.ref.unindexed then s
  else
    let skip := fun (s : State) (n : CopyName) (x : Option Copy) (other : Option Copy) =>
      match x with
      | none => s
      | some c =>
        if s.drives[c.loc.drive].failed ∧ !r.seen.contains n ∧ (other.any fun y => s.present y) ∧ (s.cat.standing r.slot r.ref.key n c.loc).isSome
        then s.addRepair { slot := r.slot, copy := n, reason := .missing, key := r.ref.key, loc := c.loc }
        else s
    skip (skip s .a r.a r.b) .b r.b r.a

/-- A copy of a reference is chosen and read, or the reference is zero-filled (R158 to R160). At a fallback, too, the copies' states
and locations are those that the lookup found (DESIGN CHOICE, notes/assumptions/74.md). -/
def State.fetchChoose (s : State) (id i : Nat) (w : FetchWork) (r : FetchRef) : State :=
  match s.chooseCopy r.a r.b r.seen with
  | some (n, c) =>
    ((s.fetchMissing r).modFetch id fun w => w.modRef i fun _ => { r with st := .reading n c.loc }).offer c.loc.drive .interactive .chunkRead
      c.loc.sector (sectorsOf r.ref.key.len) (.fetch id i) []
  | none =>
    if r.tried.isEmpty then s.fetchZero id i w r .damaged .driveUnavailable
    else
      let s := if r.ref.unindexed then s else s.request (.damage r.slot r.ref.key)
      s.fetchZero id i w r .damaged .damagedData

/-- A location of an UNINDEXED reference as a copy; a drive number above 3 names none. -/
def refCopy (drive sector : Nat) : Option Copy :=
  if h : drive < 4 then some { loc := { drive := ⟨drive, h⟩, sector := sector } } else none

/-- A reference is looked up and settled, read, or left waiting (R157). "At most once from each copy by one FETCH" (R159) is taken
for each reference of the list: a list that names a chunk twice reads it twice (DESIGN CHOICE, notes/assumptions/66.md). -/
def State.fetchLookup (s : State) (id i : Nat) : State :=
  match s.fetchWork id with
  | none => s
  | some w =>
    match w.refs[i]? with
    | none => s
    | some r =>
      if r.ref.unindexed then
        if r.ref.lost then s.fetchZero id i w r .damaged .damagedData
        else
          s.fetchChoose id i w
            { r with
              a := refCopy r.ref.driveA r.ref.sectorA
              b := if r.ref.oneCopy then none else refCopy r.ref.driveB r.ref.sectorB }
      else
        match s.cat.lookup r.ref.key with
        | .found slot e =>
          match e.st with
          | .pending => s.modFetch id fun w => w.modRef i fun r => { r with st := .waiting }
          | .damaged => s.fetchZero id i w r .damaged .damagedData
          | .live => s.fetchChoose id i w { r with slot := slot, a := some e.a, b := e.b }
        | .room _ | .full => s.fetchZero id i w r .notFound .notFound

/-- FETCH's result (R161). -/
def FetchWork.result (w : FetchWork) : Result :=
  let lens := (w.refs.filter fun r => r.count == .delivered).map fun r => r.ref.key.len
  { status := w.status
    aux := min (w.refs.countP fun r => r.count == .notFound) 65535
    w0 := BitVec.ofNat 32 lens.sum
    w1 := BitVec.ofNat 32 w.refs.length
    w2 := BitVec.ofNat 32 (w.refs.countP fun r => r.count == .damaged) }

/-- A FETCH whose references are all settled completes (R161). -/
def State.fetchComplete (s : State) (id : Nat) : State :=
  match s.fetchWork id with
  | none => s
  | some w => if w.refs.all fun r => r.st == .settled then s.complete id w.result else s

/-- A bad verdict on a copy of a reference (R159, R160). -/
def State.fetchBad (s : State) (id i : Nat) (w : FetchWork) (r : FetchRef) (n : CopyName) (l : Loc) (reason : RepairReason) :
    State :=
  let r := { r with tried := n :: r.tried }
  if r.ref.unindexed then s.fetchChoose id i w r
  else
    let t := s.request (.badCopy r.slot r.ref.key n l)
    let t := if (t.chooseCopy r.a r.b r.seen).isSome then t.addBadCopy r.slot r.ref.key n l reason else t
    t.fetchChoose id i w r

/-- The outcome of a FETCH's read (R159). -/
def State.fetchOp (s : State) (id i : Nat) (o : OpOutcome) : State :=
  match s.fetchWork id with
  | none => s
  | some w =>
    match w.refs[i]? with
    | none => s
    | some r =>
      match r.st with
      | .reading n l =>
        match o with
        | .done data =>
          if goodRead r.ref.key data then s.fetchWrite id i w r true .none (data.take r.ref.key.len)
          else s.fetchBad id i w r n l .verifyFail
        | .error _ | .noAnswer | .driveFailed => s.fetchBad id i w r n l .readError
        | .notReady | .withdrawn => s.fetchChoose id i w { r with passed := n :: r.passed }
      | .waiting | .writing _ | .settled => s

/-- A destination write of a FETCH ends (R156, R161). -/
def State.fetchWritten (s : State) (id i : Nat) (ok : Bool) : State :=
  match s.fetchWork id with
  | none => s
  | some w =>
    match w.refs[i]? with
    | none => s
    | some r =>
      match r.st with
      | .writing chunk =>
        let w := w.modRef i fun r =>
          { r with st := .settled, count := if chunk then (if ok then .delivered else .none) else r.count }
        ((s.setPhase id (.fetching (if ok then w else w.meets .hostMemoryError)))).fetchComplete id
      | .waiting | .reading _ _ | .settled => s

/-- The FETCH references that wait for a key's entry to leave PENDING are looked up again (R157). -/
def State.fetchWake (s : State) (k : Key) : State :=
  let due := s.jobs.flatMap fun j => match j.phase with
    | .fetching w => (List.range w.refs.length).filterMap fun i =>
        match w.refs[i]? with
        | some r => if r.st = .waiting ∧ !r.ref.unindexed ∧ r.ref.key = k then some (j.id, i) else none
        | none => none
    | _ => []
  due.foldl (fun s p => s.fetchLookup p.1 p.2) s

/-! ## BLOCK_READ -/

/-- The first drive sector of the host area (R100). -/
def Cat.hostSector (c : Cat) (x : Nat) : Nat := (2 * c.geo.c + 1) * 1024 + x

/-- Host-area operations may use the catalogue drive: MEMBER, not FAILED, not ABSENT (R162, R163). -/
def State.hostDrive (s : State) (i : Fin 2) : Bool := s.member (catDrive i) && s.drives[catDrive i].usable

/-- The candidates of a BLOCK_READ (R163). -/
def State.blockCandidates (s : State) : List (Fin 2) :=
  let ok := [0, 1].filter s.hostDrive
  let clear := ok.filter fun i => !s.cat.stale[i]
  if clear.isEmpty then ok else clear

/-- The candidate that the ranking of R158 picks, drive 0 winning ties. -/
def State.blockPick (s : State) : List (Fin 2) → Option (Fin 2)
  | [] => none
  | [i] => some i
  | i :: j :: _ => if s.readsBefore (catDrive j) (catDrive i) then some j else some i

/-- One read of a BLOCK_READ is offered. -/
def State.blockOffer (s : State) (id : Nat) (w : BlockReadWork) : State :=
  (s.setPhase id (.blockReading w)).offer w.drive .interactive .areaRead (s.cat.hostSector w.first) w.count (.blockRead id) []

/-- The outcome of a BLOCK_READ's read (R163). -/
def State.blockReadOp (s : State) (id : Nat) (o : OpOutcome) : State :=
  match s.job id with
  | some { phase := .blockReading w, .. } =>
    match o with
    | .done data =>
      (s.setPhase id (.blockDelivering
        { w0 := BitVec.ofNat 32 w.count, w1 := BitVec.ofNat 32 w.drive.val, aux := bitOf w.stale })).emit (.hostWrite w.dest data)
    | .error _ | .noAnswer | .driveFailed | .notReady | .withdrawn =>
      match w.others with
      | [] => s.complete id (.refusal .readFailed)
      | d :: l =>
        let stale := match catIndex d with
          | some i => s.cat.stale[i]
          | none => false
        s.blockOffer id { w with drive := d, stale := stale, others := l }
  | _ => s

end Sys2Proof.Machine
end

