-- ==== Sys2Proof/Machine/Requests.lean ====
section
/-! DEFINITION. The Catalogue Engine's requests (R80): what each does when it is taken. Resolutions and verdicts (R55 to
R63), write outcomes (R96, R97), RETAIN and RELEASE (R83 to R86), bad-read reports (R159, R160), repair (R166, R167) and
scrub (R171, R172). -/

namespace Sys2Proof.Machine

/-! ## Placing a chunk -/

/-- Placement for a chunk: copy A, and copy B on another drive when two copies are wanted (R94). -/
def State.placeChunk (s : State) (n : Nat) (two : Bool) : Option (Loc × Option Loc × State) :=
  match s.place n [] false with
  | none => none
  | some (a, s) =>
    if two then
      match s.place n [a.drive] false with
      | some (b, s) => some (a, some b, s)
      | none => some (a, none, s)
    else some (a, none, s)

/-- The write records of placed copies. -/
def State.copyWrites (s : State) (a : Loc) (b : Option Loc) : List CopyWrite :=
  { copy := .a, loc := a, epoch := s.drives[a.drive].epoch } ::
    (match b with
     | some b => [{ copy := .b, loc := b, epoch := s.drives[b.drive].epoch }]
     | none => [])

/-- A chunk's CHUNK_WRITE of one copy is offered in class BULK (R55, R123). -/
def State.offerCopy (s : State) (n : Fin 8) (c : Chunk) (k : CopyName) (l : Loc) : State :=
  s.offer l.drive .bulk .chunkWrite l.sector (sectorsOf c.key.len) (.chunkCopy n c.id k) (paddedChunk c.bytes)

/-- The writes of a chunk's placed copies begin and its reference is issued. -/
def State.beginWrites (s : State) (n : Fin 8) (c : Chunk) (a : Loc) (b : Option Loc) (target : Target) (r : Ref) : State :=
  let s := s.modChunk n c.id fun c => { c with target := target, writes := s.copyWrites a b }
  let s := s.offerCopy n c .a a
  let s := match b with
    | some b => s.offerCopy n c .b b
    | none => s
  s.issueRef n c r

/-- An UNINDEXED reference to placed copies (R56). -/
def unindexedRef (k : Key) (a : Loc) (b : Option Loc) : Ref :=
  { key := k, unindexed := true, oneCopy := b.isNone, driveA := a.drive.val, sectorA := a.sector
    driveB := (b.map fun b => b.drive.val).getD 0, sectorB := (b.map fun b => b.sector).getD 0 }

/-- A new chunk (R55). -/
def State.storeNew (s : State) (n : Fin 8) (c : Chunk) (slot : Nat) : State :=
  let copies := s.streams[n].copies
  match s.placeChunk (sectorsOf c.key.len) (copies == 2) with
  | none => s.refuseChunk n c
  | some (a, b, t) =>
    let e : Entry := { key := c.key, st := .pending, refcount := 1, wanted := copies, a := { loc := a }, b := b.map fun l => { loc := l } }
    (t.modCat fun k => k.setSlot slot (some e)).beginWrites n c a b (.entry slot) { key := c.key, oneCopy := b.isNone }

/-- A chunk stored unindexed (R56). -/
def State.storeUnindexed (s : State) (n : Fin 8) (c : Chunk) : State :=
  match s.placeChunk (sectorsOf c.key.len) (s.streams[n].copies == 2) with
  | none => s.refuseChunk n c
  | some (a, b, t) => t.beginWrites n c a b .unindexed (unindexedRef c.key a b)

/-- A collision (R60, R61). -/
def State.collide (s : State) (n : Fin 8) (c : Chunk) : State :=
  ((s.modCat fun k => { k with collisions := satInc top32 k.collisions }).modChunk n c.id fun c => { c with collision := true }).storeUnindexed
    n { c with collision := true }

/-- An entry with one more count (R57, R78). -/
def Entry.counted (e : Entry) (copies : Nat) : Entry :=
  { e with
    refcount := if e.refcount < 65535 then e.refcount + 1 else e.refcount
    wanted := if copies = 2 then 2 else e.wanted }

/-- A chunk takes a count on an entry and its reference is issued (R57). -/
def State.takeCount (s : State) (n : Fin 8) (c : Chunk) (slot : Nat) (e : Entry) : State :=
  let e := e.counted s.streams[n].copies
  let one := (s.presentCopies e).length == 1
  let t := (s.modCat fun k => k.setSlot slot (some e)).modChunk n c.id fun c => { c with target := .entry slot }
  t.issueRef n c { key := c.key, oneCopy := one }

/-- A duplicate of a LIVE entry: count taken, finished once its reference stands (R58, R60). -/
def State.duplicate (s : State) (n : Fin 8) (c : Chunk) (slot : Nat) (e : Entry) : State :=
  let t := s.takeCount n c slot e
  match t.chunk n c.id with
  | some { ref := some r, .. } => t.decideChunk n c.id .duplicate r
  | _ => t

/-- Repair by ingest (R62): placement, one more count, the previous copies given up, PENDING again. -/
def State.repairIngest (s : State) (n : Fin 8) (c : Chunk) (slot : Nat) (e : Entry) : State :=
  let f := e.counted s.streams[n].copies
  match s.placeChunk (sectorsOf c.key.len) (f.wanted == 2) with
  | none => s.refuseChunk n c
  | some (a, b, t) =>
    let g := { f with st := .pending, a := { loc := a }, b := b.map fun l => { loc := l }, day := 0 }
    (t.modCat fun k => (k.giveUpEntry e).setSlot slot (some g)).beginWrites n c a b (.entry slot) { key := c.key, oneCopy := b.isNone }

/-! ## Resolution and verdict -/

/-- A copy of the entry is chosen for a STRICT compare and its read offered; with none the verdict is NO_GOOD_COPY (R59). The entry
is taken as it stands at the choice, LIVE or DAMAGED, while its slot holds the key; one that repair by ingest has made PENDING has
given up the copies that the compare was to read, and none of its copies is chosen (DESIGN CHOICE, notes/assumptions/74.md). -/
def State.compareNext (s : State) (n : Fin 8) (c : Chunk) (slot : Nat) (tried : List CopyName) : State :=
  let e : Option Entry := match s.cat.entry slot with
    | some e => if e.key = c.key ∧ e.st ≠ .pending then some e else none
    | none => none
  match e.bind fun e => s.chooseCopy (some e.a) e.b tried with
  | some (k, x) =>
    (s.modChunk n c.id fun c => { c with phase := .comparing slot k x.loc tried }).offer x.loc.drive .bulk .chunkRead x.loc.sector
      (sectorsOf c.key.len) (.compare n c.id) []
  | none => (s.modChunk n c.id fun c => { c with phase := .verdict }).request (.verdict n c.id .noGoodCopy)

/-- The bytes of the chunk whose resolution made the entry in a slot PENDING (R61). -/
def State.stagedFor (s : State) (slot : Nat) : Option (List Byte) :=
  streams8.findSome? fun n => s.streams[n].window.findSome? fun c =>
    if c.target = .entry slot ∧ c.writes ≠ [] ∧ c.outcome = none then some c.bytes else none

/-- A resolution is taken (R52, R55 to R62). An entry that LOAD took PENDING from an image has no chunk with bytes to compare
with; the manual does not say how a resolution meets it. A STRICT stream stores its chunk as a collision, a TRUST stream takes
a count and waits (DESIGN CHOICE, notes/assumptions/63.md). -/
def State.resolve (s : State) (n : Fin 8) (c : Chunk) : State :=
  match s.cat.lookup c.key with
  | .room slot => s.storeNew n c slot
  | .full => s.storeUnindexed n c
  | .found slot e =>
    match e.st with
    | .live => if s.streams[n].strict then s.compareNext n c slot [] else s.duplicate n c slot e
    | .pending =>
      if s.streams[n].strict ∧ s.stagedFor slot ≠ some c.bytes then s.collide n c else s.takeCount n c slot e
    | .damaged => s.repairIngest n c slot e

/-- A compare verdict is taken (R60). -/
def State.applyVerdict (s : State) (n : Fin 8) (c : Chunk) (v : Verdict) : State :=
  match s.cat.lookup c.key with
  | .found slot e =>
    if e.st = .live then
      match v with
      | .equal => s.duplicate n c slot e
      | .different => s.collide n c
      | .noGoodCopy =>
        let d := { e with st := .damaged }
        (s.modCat fun k => k.setSlot slot (some d)).repairIngest n c slot d
    else (s.modChunk n c.id fun c => { c with phase := .resolving }).request (.resolution n c.id)
  | .room _ | .full => (s.modChunk n c.id fun c => { c with phase := .resolving }).request (.resolution n c.id)

/-! ## An entry leaves PENDING -/

/-- A request waits for the entry under a key (R80). -/
def State.waitsFor (s : State) (k : Key) (q : CatReq) : Bool :=
  match q with
  | .retainRef id | .releaseRef id =>
    match s.job id with
    | some { phase := .refs { refs := r :: _, .. }, .. } => !r.unindexed && r.key == k
    | _ => false
  | _ => false

/-- The chunks that wait on the entry in a slot, as (stream, chunk). -/
def State.sharers (s : State) (slot : Nat) : List (Fin 8 × Chunk) :=
  streams8.flatMap fun n => (s.streams[n].window.filter fun c => c.target == .entry slot && c.outcome.isNone).map fun c => (n, c)

/-- The outcome of a chunk whose entry became LIVE or DAMAGED (R55, R61). -/
def Chunk.entryOutcome (c : Chunk) (live : Bool) : ChunkOutcome :=
  if live then (if c.writes.isEmpty then .duplicate else .new) else .lost

/-- A chunk's reference once its entry has left PENDING (R64): LOST, or ONE_COPY when the entry ended with one copy. -/
def Chunk.entryRef (c : Chunk) (live one : Bool) : Ref :=
  let r := c.ref.getD { key := c.key }
  if live then { r with oneCopy := r.oneCopy || one } else { r with lost := true }

/-- The entry in a slot leaves PENDING: every chunk that counted against it finishes, and every request and FETCH
reference that waited goes on (R55, R61, R80, R157). -/
def State.leavePending (s : State) (slot : Nat) (e : Entry) : State :=
  let live := e.st == .live
  let s := s.modCat fun k => k.setSlot slot (some e)
  let s := (s.sharers slot).foldl
    (fun s p => s.decideChunk p.1 p.2.id (p.2.entryOutcome live) (p.2.entryRef live e.b.isNone)) s
  let s := s.modEngine fun g =>
    { g with waiters := g.waiters.filter fun q => !s.waitsFor e.key q, requests := g.requests ++ g.waiters.filter (s.waitsFor e.key) }
  s.fetchWake e.key

/-! ## Write outcomes -/

/-- The catalogue after a write's outcome at a location, unless the drive slot was adopted since (R96). -/
def State.auOutcome (s : State) (l : Loc) (epoch n : Nat) (r : WriteResult) : State :=
  if s.drives[l.drive].epoch = epoch then s.modCat fun c => c.applyWrite l n r else s

/-- The locations of copies that were written, in copy order. -/
def Chunk.written (c : Chunk) : List Loc := (c.writes.filter fun w => w.result == some true).map fun w => w.loc

/-- A chunk whose copies have all reached their final outcomes (R55, R56, R76). -/
def State.settleChunk (s : State) (n : Fin 8) (id : Nat) : State :=
  match s.chunk n id with
  | none => s
  | some c =>
    if c.writes.any fun w => w.result.isNone then s
    else
      match c.target with
      | .none => s
      | .unindexed =>
        let r := c.ref.getD { key := c.key }
        match c.written with
        | [] => s.decideChunk n id .lost { r with lost := true }
        | a :: l =>
          (s.modCat fun k => { k with unindexed := satInc top32 k.unindexed }).decideChunk n id .new (unindexedRef c.key a l.head?)
      | .entry slot =>
        match s.cat.entry slot with
        | none => s
        | some e =>
          match c.written with
          | [] => s.leavePending slot { e with st := .damaged, a := { e.a with st := .absent }, b := none }
          | a :: l => s.leavePending slot { e with st := .live, a := { loc := a }, b := l.head?.map fun x => { loc := x } }

/-- The drives that a re-placement excludes: that of the failed attempt and that of the chunk's other copy, while that
copy stands or is being written (R97). -/
def Chunk.excluded (c : Chunk) (w : CopyWrite) : List (Fin 4) :=
  w.loc.drive :: (c.writes.filter fun v => v.copy != w.copy && v.result != some false).map fun v => v.loc.drive

/-- A chunk's write record changed. -/
def Chunk.modWrite (c : Chunk) (k : CopyName) (f : CopyWrite → CopyWrite) : Chunk :=
  { c with writes := c.writes.map fun w => if w.copy = k then f w else w }

/-- The entry's copy takes a re-placed location, for a PENDING entry (R97). -/
def State.moveCopy (s : State) (t : Target) (k : CopyName) (l : Loc) : State :=
  match t with
  | .entry slot =>
    match s.cat.entry slot with
    | some e => s.modCat fun c => c.setSlot slot (some (e.setCopy k { loc := l }))
    | none => s
  | .unindexed | .none => s

/-- A failed first attempt of a chunk's copy is re-placed, or the copy has failed (R97). -/
def State.replaceCopy (s : State) (n : Fin 8) (c : Chunk) (w : CopyWrite) : State :=
  if w.second then (s.modChunk n c.id fun c => c.modWrite w.copy fun w => { w with result := some false }).settleChunk n c.id
  else
    match s.place (sectorsOf c.key.len) (c.excluded w) false with
    | none => (s.modChunk n c.id fun c => c.modWrite w.copy fun w => { w with result := some false }).settleChunk n c.id
    | some (l, t) =>
      ((t.moveCopy c.target w.copy l).modChunk n c.id fun c =>
        c.modWrite w.copy fun w => { w with loc := l, epoch := t.drives[l.drive].epoch, second := true }).offerCopy n c w.copy l

/-- A stream chunk's write outcome is taken (R96, R97). -/
def State.chunkOutcome (s : State) (n : Fin 8) (id : Nat) (k : CopyName) (r : WriteResult) : State :=
  match s.chunk n id with
  | none => s
  | some c =>
    match c.writes.find? fun w => w.copy == k with
    | none => s
    | some w =>
      let t := s.auOutcome w.loc w.epoch (sectorsOf c.key.len) r
      match r with
      | .done => (t.modChunk n id fun c => c.modWrite k fun w => { w with result := some true }).settleChunk n id
      | .media | .failed | .asleep => t.replaceCopy n c w

/-! ## RETAIN and RELEASE -/

/-- RETAIN's or RELEASE's result (R86). -/
def RefWork.result (w : RefWork) (retain : Bool) : Result :=
  { status := (Status.when (w.missing != 0) .notFound).worse
      (Status.when (if retain then w.pinned != 0 else w.accounting) .okClamped)
    aux := min w.pinned 65535
    w0 := BitVec.ofNat 32 w.done
    w1 := BitVec.ofNat 32 w.other
    w2 := BitVec.ofNat 32 w.missing }

/-- The next reference of the list is offered, or the job completes (R82, R86). -/
def State.nextRef (s : State) (id : Nat) (w : RefWork) (retain : Bool) : State :=
  let w := { w with refs := w.refs.tail }
  if w.refs.isEmpty then s.complete id (w.result retain)
  else (s.setPhase id (.refs w)).request (if retain then .retainRef id else .releaseRef id)

/-- The request waits until the entry leaves PENDING (R80). -/
def State.wait (s : State) (q : CatReq) : State := s.modEngine fun e => { e with waiters := e.waiters ++ [q] }

/-- One reference of a RETAIN is taken (R83, R85). -/
def State.retainOne (s : State) (id : Nat) (w : RefWork) (r : Ref) : State :=
  if r.unindexed then s.nextRef id { w with other := w.other + 1 } true
  else
    match s.cat.lookup r.key with
    | .found slot e =>
      if e.st = .pending then s.wait (.retainRef id)
      else if e.refcount < 65535 then
        (s.modCat fun c => c.setSlot slot (some { e with refcount := e.refcount + 1 })).nextRef id { w with done := w.done + 1 } true
      else s.nextRef id { w with pinned := w.pinned + 1 } true
    | .room _ | .full => s.nextRef id { w with missing := w.missing + 1 } true

/-- Whether a catalogue change counts an accounting error (R85, R98). -/
def Cat.errs (c : Cat) (f : Cat → Cat) : Bool := (f { c with accounting := 0 }).accounting != 0

/-- The sectors of an UNINDEXED reference given back (R85). -/
def Cat.releaseUnindexed (c : Cat) (r : Ref) : Cat :=
  if r.lost then c
  else
    let n := sectorsOf r.key.len
    let c := (c.giveBack r.driveA r.sectorA n).1
    if r.oneCopy then c else (c.giveBack r.driveB r.sectorB n).1

/-- One reference of a RELEASE is taken (R84, R85). -/
def State.releaseOne (s : State) (id : Nat) (w : RefWork) (r : Ref) : State :=
  if r.unindexed then
    let f := fun (c : Cat) => c.releaseUnindexed r
    (s.modCat f).nextRef id { w with done := w.done + 1, accounting := w.accounting || s.cat.errs f } false
  else
    match s.cat.lookup r.key with
    | .found slot e =>
      if e.st = .pending then s.wait (.releaseRef id)
      else if e.refcount = 65535 then s.nextRef id { w with pinned := w.pinned + 1 } false
      else if 1 < e.refcount then
        (s.modCat fun c => c.setSlot slot (some { e with refcount := e.refcount - 1 })).nextRef id { w with done := w.done + 1 } false
      else
        let f := fun (c : Cat) => c.remove slot e
        (s.modCat f).nextRef id
          { w with done := w.done + 1, other := w.other + 1, accounting := w.accounting || s.cat.errs f } false
    | .room _ | .full => s.nextRef id { w with missing := w.missing + 1 } false

/-! ## Bad-read reports -/

/-- A copy was read bad: it becomes SUSPECT while it stands (R77, R80, R159). -/
def Cat.reportBad (c : Cat) (slot : Nat) (k : Key) (n : CopyName) (l : Loc) : Cat :=
  match c.entry slot with
  | none => c
  | some e =>
    match e.copy n with
    | none => c
    | some x =>
      if e.key = k ∧ e.st ≠ .pending ∧ x.loc = l ∧ x.st = .good then c.setSlot slot (some (e.setCopy n { x with st := .suspect }))
      else c

/-- Every copy read was bad: the entry becomes DAMAGED if it is still LIVE under the key (R160). -/
def Cat.reportDamage (c : Cat) (slot : Nat) (k : Key) : Cat :=
  match c.entry slot with
  | none => c
  | some e => if e.key = k ∧ e.st = .live then c.setSlot slot (some { e with st := .damaged }) else c

/-! ## Repair -/

/-- The entry of the repair list that names a slot and copy leaves it. -/
def State.dropRepair (s : State) (slot : Nat) (n : CopyName) : State :=
  { s with repair := { s.repair with list := s.repair.list.filter fun x => !(x.slot == slot && x.copy == n) } }

/-- The worker becomes idle. -/
def State.idleWorker (s : State) : State := { s with repair := { s.repair with worker := .idle } }

/-- The worker's progress. -/
def State.setWorker (s : State) (w : Worker) : State := { s with repair := { s.repair with worker := w } }

/-- The list entry moves to the tail (R167). -/
def State.requeueRepair (s : State) (e : RepairEntry) : State :=
  let t := s.dropRepair e.slot e.copy
  { t with repair := { t.repair with list := t.repair.list ++ [e] } }

/-- A repair write is offered in class BACKGROUND. -/
def State.offerRepair (s : State) (e : RepairEntry) (src : Loc) (buf : List Byte) (l : Loc) (second : Bool) : State :=
  (s.setWorker (.writing e src buf l s.drives[l.drive].epoch second)).offer l.drive .background .chunkWrite l.sector
    (sectorsOf e.key.len) .repairWrite (paddedChunk (buf.take e.key.len))

/-- The drives of the copies that an entry keeps beside copy `k`. -/
def Entry.keptDrives (e : Entry) (k : CopyName) : List (Fin 4) :=
  (e.copies.filter fun p => p.1 != k).map fun p => p.2.loc.drive

/-- The drive on which the repair worker writes the copy of an entry, or has written it and has not yet updated the entry (R97). -/
def State.repairDrive (s : State) (slot : Nat) (k : CopyName) : List (Fin 4) :=
  match s.repair.worker with
  | .writing e _ _ l _ _ | .updating e _ l _ => if e.slot = slot ∧ e.copy = k then [l.drive] else []
  | .idle | .reading _ _ | .placing _ _ _ => []

/-- The drive on which the scrub step writes the REMIRROR copy that takes the place of the copy of an entry (R97). -/
def State.mirrorDrive (s : State) (slot : Nat) (k : CopyName) : List (Fin 4) :=
  match s.scrub.bind fun x => x.step with
  | some { slot := n, mirror := some m, .. } => if n = slot ∧ m.place = k then [m.loc.drive] else []
  | _ => []

/-- The drives that a repair's re-placement excludes (R97): that of the failed attempt, and those on which the entry's other copy
stands or is being written. -/
def State.repairExcluded (s : State) (e : RepairEntry) (l : Loc) : List (Fin 4) :=
  l.drive :: ((s.cat.entry e.slot).elim [] fun x => x.keptDrives e.copy) ++ s.mirrorDrive e.slot e.copy.other

/-- The placement request of the repair worker is taken (R166). -/
def State.placeRepair (s : State) : State :=
  match s.repair.worker with
  | .placing e src buf =>
    if (s.cat.standing e.slot e.key e.copy e.loc).isNone then (s.dropRepair e.slot e.copy).idleWorker
    else
      match s.place (sectorsOf e.key.len) [src.drive] true with
      | none => s.idleWorker
      | some (l, t) => t.offerRepair e src buf l false
  | .idle | .reading _ _ | .writing _ _ _ _ _ _ | .updating _ _ _ _ => s

/-- A repair write's outcome is taken (R167). Its AU change is made whatever the slot holds (R96). After a failed write the copy is
re-placed once only while the slot holds the key and the copy, as R80 checks a write outcome; else the list entry is removed (DESIGN
CHOICE, notes/assumptions/75.md). A write that ended NOT_READY because the box sleeps stops the repair: it is not re-placed, the
list entry stays in its place, and the worker is idle (notes/assumptions/67.md). -/
def State.repairOutcome (s : State) (r : WriteResult) : State :=
  match s.repair.worker with
  | .writing e src buf l epoch second =>
    let t := s.auOutcome l epoch (sectorsOf e.key.len) r
    match r with
    | .done => (t.setWorker (.updating e src l epoch)).request .repairUpdate
    | .asleep => t.idleWorker
    | .media | .failed =>
      if !t.cat.holdsCopy e.slot e.key e.copy e.loc then (t.dropRepair e.slot e.copy).idleWorker
      else
        match (if second then none else t.place (sectorsOf e.key.len) (t.repairExcluded e l) true) with
        | none => (t.requeueRepair e).idleWorker
        | some (m, u) => u.offerRepair e src buf m true
  | .idle | .reading _ _ | .placing _ _ _ | .updating _ _ _ _ => s

/-- The check of the repair update (R167): that of its placement, and the entry's other copy does not stand on the new copy's drive,
where a REMIRROR may have put it meanwhile (R94) (DESIGN CHOICE, notes/assumptions/85.md). -/
def Cat.checkRepair (c : Cat) (e : RepairEntry) (l : Loc) : Option Entry :=
  (c.standing e.slot e.key e.copy e.loc).filter fun x => !(x.keptDrives e.copy).contains l.drive

/-- The repair update is taken (R167). After an ADOPT of the new copy's drive slot nothing is left to give up
(notes/assumptions/5.md). -/
def State.updateRepair (s : State) : State :=
  match s.repair.worker with
  | .updating e _ l epoch =>
    let n := sectorsOf e.key.len
    let t := match s.cat.checkRepair e l with
      | some x => s.modCat fun c => (c.giveUp e.loc n).setSlot e.slot (some (x.setCopy e.copy { loc := l }))
      | none => if s.drives[l.drive].epoch = epoch then s.modCat fun c => c.giveUp l n else s
    (t.dropRepair e.slot e.copy).idleWorker
  | .idle | .reading _ _ | .placing _ _ _ | .writing _ _ _ _ _ _ => s

/-! ## Scrub -/

/-- SCRUB's result (R168). -/
def ScrubCtx.result (x : ScrubCtx) : Result :=
  { status := ((Status.when x.clamped .okClamped).worse (Status.when (x.left != 0) .partialStop)).worse
      (Status.when (x.damaged != 0) .damagedData)
    aux := min x.skipped 65535
    w0 := BitVec.ofNat 32 x.walked
    w1 := BitVec.ofNat 32 x.repaired
    w2 := BitVec.ofNat 32 x.damaged }

/-- Between two steps, the walk ends when no slot remains or its chain is stopped, and an abandoned context goes
(R168, R173). -/
def State.scrubRest (s : State) : State :=
  match s.scrub with
  | none => s
  | some x =>
    if x.step.isSome then s
    else
      match x.job with
      | none => { s with scrub := none }
      | some id => if x.left = 0 ∨ s.chains[3].st = .stopped then ({ s with scrub := none }).complete id x.result else s

/-- The scrub context changed. -/
def State.modScrub (s : State) (f : ScrubCtx → ScrubCtx) : State := { s with scrub := s.scrub.map f }

/-- The slot of the step counts as walked (R169). -/
def State.scrubWalked (s : State) (skipped : Bool) : State :=
  (s.modScrub fun x =>
    { x with
      walked := x.walked + 1
      left := x.left - 1
      next := if x.next + 1 < s.cat.geo.slots then x.next + 1 else 0
      skipped := if skipped then x.skipped + 1 else x.skipped
      step := none }).scrubRest

/-- The step in progress changed. -/
def State.modStep (s : State) (f : ScrubStep → ScrubStep) : State := s.modScrub fun x => { x with step := x.step.map f }

/-- The class of a scrub's drive work (R123). -/
def ScrubCtx.cls (x : ScrubCtx) : WorkClass := if x.wakeOk then .bulk else .background

/-- A verdict of a copy that was read. -/
def CopyVerdict.wasRead : CopyVerdict → Bool
  | .good | .bad _ => true
  | .reading | .notRead => false

/-- No copy of the entry that the step's lookup found has moved, those not read among them: repair or an ingest has moved none
(R173; inferred, notes/assumptions/86.md). -/
def ScrubStep.unmoved (p : ScrubStep) (e : Entry) : Bool := p.copies.all fun x => (e.copy x.copy).any fun y => y.loc == x.loc

/-- The slot holds the step's key in LIVE, with every copy that was read still at its location (R171, R173). -/
def ScrubStep.check (p : ScrubStep) (c : Cat) : Option Entry :=
  match c.entry p.slot with
  | none => none
  | some e =>
    if e.key = p.key ∧ e.st = .live ∧ p.unmoved e
        ∧ (p.copies.all fun x => !x.verdict.wasRead || (e.copy x.copy).any fun y => y.loc == x.loc && y.st != .absent) then some e
    else none

/-- A bad copy's reason. -/
def CopyVerdict.badReason : CopyVerdict → Option RepairReason
  | .bad r => some r
  | .reading | .good | .notRead => none

/-- An entry with a copy SUSPECT. -/
def Entry.suspect (e : Entry) (n : CopyName) : Entry :=
  match e.copy n with
  | some x => e.setCopy n { x with st := .suspect }
  | none => e

/-- A scrub write is offered. -/
def State.offerScrub (s : State) (cls : WorkClass) (p : ScrubStep) (o : Owner) (l : Loc) : State :=
  s.offer l.drive cls .chunkWrite l.sector (sectorsOf p.key.len) o (paddedChunk ((p.buf.getD []).take p.key.len))

/-- One bad copy's treatment in the plan request (R171 step 4): an in-place rewrite reserved, or the repair list. -/
def State.planBad (s : State) (p : ScrubStep) (cls : WorkClass) (x : ScrubCopy) (reason : RepairReason) : State :=
  let a := auOf x.loc.sector
  let r := s.cat.au x.loc.drive a
  if s.drives[x.loc.drive].level = .full ∧ r.inFlight < 32 then
    ((s.modCat fun c => c.setAu x.loc.drive a { r with inFlight := r.inFlight + 1 }).modStep fun p =>
      { p with rewrites := p.rewrites ++
          [{ copy := x.copy, loc := x.loc, epoch := s.drives[x.loc.drive].epoch, reason := reason }] }).offerScrub
      cls p (.scrubRewrite x.copy) x.loc
  else s.addRepair { slot := p.slot, copy := x.copy, reason := reason, key := p.key, loc := x.loc }

/-- The copy whose place a REMIRROR copy takes: copy B when the entry has none, or the copy that is not present (R171
step 5). -/
def State.mirrorPlace (s : State) (e : Entry) : CopyName :=
  match e.b with
  | none => .b
  | some b => if s.present b then .a else .b

/-- REMIRROR's placement (R171 step 5). -/
def State.planMirror (s : State) (p : ScrubStep) (cls : WorkClass) (readyOnly : Bool) (e : Entry) : State :=
  let k := s.mirrorPlace e
  match s.place (sectorsOf p.key.len) (e.keptDrives k) readyOnly with
  | none => s
  | some (l, t) =>
    (t.modStep fun p =>
      { p with mirror := some { place := k, old := e.copy k, loc := l, epoch := t.drives[l.drive].epoch } }).offerScrub cls p
      .scrubMirror l

/-- Copies that are not present and not ABSENT are offered to the repair list with reason MISSING (R171 step 6). -/
def State.planMissing (s : State) (p : ScrubStep) (e : Entry) : State :=
  (e.copies.filter fun q => !s.present q.2 && q.2.st != .absent).foldl
    (fun s q => s.addRepair { slot := p.slot, copy := q.1, reason := .missing, key := p.key, loc := q.2.loc }) s

/-- The step goes on to its writes, or ends when nothing was reserved (R171, R172). -/
def State.planEnd (s : State) : State :=
  match s.scrub.bind fun x => x.step with
  | none => s
  | some p => if p.rewrites.isEmpty && p.mirror.isNone then s.scrubWalked false else s.modStep fun p => { p with stage := .writing }

/-- The plan request is taken (R171). Which copies are present, and so are "every present copy", is judged as the request is taken
(R76, R79); a copy read whose drive has latched FAILED since is not among them, but its verdict stands: read good it keeps the entry
from DAMAGED, and read bad it keeps the day from being stamped (DESIGN CHOICE, notes/assumptions/84.md). -/
def State.planScrub (s : State) : State :=
  match s.scrub with
  | none => s
  | some x =>
    match x.step with
    | none => s
    | some p =>
      match p.check s.cat with
      | none => s.scrubWalked true
      | some e₀ =>
        let bad := p.copies.filterMap fun c => c.verdict.badReason.map fun r => (c, r)
        let good := p.copies.any fun c => c.verdict == .good
        let e₁ := bad.foldl (fun e b => e.suspect b.1.copy) e₀
        let allRead := (s.presentCopies e₁).all fun q =>
          p.copies.any fun c => c.copy == q.1 && (c.verdict == .good || c.verdict.badReason.isSome)
        if allRead ∧ !good ∧ !bad.isEmpty then
          ((s.modCat fun c => c.setSlot p.slot (some { e₁ with st := .damaged })).modScrub fun x =>
            { x with damaged := x.damaged + 1 }).scrubWalked false
        else
          let e₂ := match s.today with
            | some day => if allRead ∧ bad.isEmpty then { e₁ with day := day } else e₁
            | none => e₁
          let s := s.modCat fun c => c.setSlot p.slot (some e₂)
          let s := if good then bad.foldl (fun s b => s.planBad p x.cls b.1 b.2) s else s
          let few := (s.presentCopies e₂).length < e₂.wanted
          let s := if good && few then
              (if x.remirror then s.planMirror p x.cls (!x.wakeOk) e₂ else s.planMissing p e₂)
            else s
          s.planEnd

/-- A failed first REMIRROR write is re-placed within its candidates, apart from a drive on which the entry's other copy is being
written (R97), or has failed finally (R172). Its AU change is made
whatever the slot holds (R96); when the slot no longer holds the step's key the outcome's request is dropped (R80), and the copy
is then not re-placed (DESIGN CHOICE, notes/assumptions/75.md). -/
def State.mirrorOutcome (s : State) (r : WriteResult) : State :=
  match s.scrub with
  | none => s
  | some x =>
    match x.step with
    | none => s
    | some p =>
      match p.mirror with
      | none => s
      | some m =>
        let t := s.auOutcome m.loc m.epoch (sectorsOf p.key.len) r
        let again := ((t.cat.entry p.slot).filter fun e => e.key == p.key).bind fun e =>
          t.place (sectorsOf p.key.len) (m.loc.drive :: e.keptDrives m.place ++ t.repairDrive p.slot m.place.other) (!x.wakeOk)
        match again with
        | some (l, u) =>
          (u.modStep fun p =>
            { p with mirror := some { m with loc := l, epoch := u.drives[l.drive].epoch, second := true } }).offerScrub x.cls p
            .scrubMirror l
        | none => t.modStep fun p => { p with mirror := some { m with result := some r, applied := true } }

/-- Every write of the step has reached its final outcome. -/
def ScrubStep.written (p : ScrubStep) : Bool :=
  (p.rewrites.all fun r => r.result.isSome) && (p.mirror.all fun m => m.result.isSome)

/-- The final update is sent once every write has ended (R172). -/
def State.scrubWritten (s : State) : State :=
  match s.scrub.bind fun x => x.step with
  | none => s
  | some p =>
    if p.stage = .writing ∧ p.written then (s.modStep fun p => { p with stage := .updating }).request .scrubUpdate else s

/-- The check of the final update (R172, R173). A copy that ADOPT made ABSENT since the plan no longer stands at its location (R103). -/
def ScrubStep.checkFinal (p : ScrubStep) (c : Cat) : Option Entry :=
  match c.entry p.slot with
  | none => none
  | some e =>
    if e.key = p.key ∧ e.st = .live ∧ p.unmoved e
        ∧ (p.rewrites.all fun r => (e.copy r.copy).any fun y => y.loc == r.loc && y.st != .absent)
        ∧ (p.mirror.all fun m => match m.old with
            | none => (e.copy m.place).isNone
            | some o => (e.copy m.place).any fun y => y.loc == o.loc && (y.st == .absent) == (o.st == .absent)) then some e
    else none

/-- One rewrite's part of the final update (R172); `ok` says whether the check passed. The manual names no reason for the
addition of a failed rewrite; it is the reason of the step's bad read (DESIGN CHOICE, notes/assumptions/68.md). -/
def State.finalRewrite (s : State) (p : ScrubStep) (ok : Bool) (w : ScrubRewrite) : State :=
  let r := w.result.getD .failed
  let s := if s.drives[w.loc.drive].epoch = w.epoch then s.modCat fun c => c.applyRewrite w.loc r else s
  if !ok then s
  else
    match r with
    | .done =>
      let s := match s.cat.entry p.slot with
        | some e => s.modCat fun c => c.setSlot p.slot (some (e.setCopy w.copy { loc := w.loc }))
        | none => s
      let busy := match s.repair.worker with
        | .idle => false
        | .reading e _ | .placing e _ _ | .writing e _ _ _ _ _ | .updating e _ _ _ => e.slot == p.slot && e.copy == w.copy
      (if busy then s else s.dropRepair p.slot w.copy).modScrub fun x => { x with repaired := x.repaired + 1 }
    | .media | .failed | .asleep => s.addRepair { slot := p.slot, copy := w.copy, reason := w.reason, key := p.key, loc := w.loc }

/-- The REMIRROR copy's part of the final update (R172). After an ADOPT of the new copy's drive slot nothing is left to give up
(notes/assumptions/5.md). -/
def State.finalMirror (s : State) (p : ScrubStep) (ok : Bool) (m : ScrubMirror) : State :=
  let n := sectorsOf p.key.len
  let r := m.result.getD .failed
  let s := if m.applied then s else s.auOutcome m.loc m.epoch n r
  if r ≠ .done then s
  else if ok then
    match s.cat.entry p.slot with
    | none => s
    | some e =>
      let s := match e.copy m.place with
        | some o => s.modCat fun c => c.giveUpCopy o e.key.len
        | none => s
      (s.modCat fun c => c.setSlot p.slot (some (e.setCopy m.place { loc := m.loc }))).modScrub fun x =>
        { x with repaired := x.repaired + 1 }
  else if s.drives[m.loc.drive].epoch = m.epoch then s.modCat fun c => c.giveUp m.loc n
  else s

/-- The final update is taken (R172). -/
def State.updateScrub (s : State) : State :=
  match s.scrub.bind fun x => x.step with
  | none => s
  | some p =>
    let ok := (p.checkFinal s.cat).isSome
    let s := p.rewrites.foldl (fun s w => s.finalRewrite p ok w) s
    let s := match p.mirror with
      | some m => s.finalMirror p ok m
      | none => s
    s.scrubWalked (!ok)

/-! ## Taking a request -/

/-- The chunk of a request, in the phase in which the request was made. -/
def State.chunkIn (s : State) (n : Fin 8) (id : Nat) (p : ChunkPhase) : Option Chunk :=
  match s.chunk n id with
  | some c => if c.phase = p then some c else none
  | none => none

/-- A request is taken (R80). -/
def State.takeRequest (s : State) (q : CatReq) : State :=
  match q with
  | .resolution n id =>
    match s.chunkIn n id .resolving with
    | some c => (s.resolve n c).settleStream n
    | none => s
  | .verdict n id v =>
    match s.chunkIn n id .verdict with
    | some c => (s.applyVerdict n c v).settleStream n
    | none => s
  | .writeOutcome o r =>
    match o with
    | .chunk n id k => (s.chunkOutcome n id k r).settleStreams
    | .repair => s.repairOutcome r
    | .mirror => (s.mirrorOutcome r).scrubWritten
  | .retainRef id =>
    match s.job id with
    | some { phase := .refs w, .. } =>
      match w.refs with
      | r :: _ => s.retainOne id w r
      | [] => s
    | _ => s
  | .releaseRef id =>
    match s.job id with
    | some { phase := .refs w, .. } =>
      match w.refs with
      | r :: _ => s.releaseOne id w r
      | [] => s
    | _ => s
  | .badCopy slot k n l => s.modCat fun c => c.reportBad slot k n l
  | .damage slot k => s.modCat fun c => c.reportDamage slot k
  | .repairPlacement => s.placeRepair
  | .repairUpdate => s.updateRepair
  | .scrubPlan => s.planScrub
  | .scrubUpdate => s.updateScrub

/-- The Catalogue Engine comes to its oldest request: it is taken, or, while a hold stands, joins the held list (R87). -/
def State.takeHead (s : State) : State :=
  match s.engine.requests with
  | [] => s
  | q :: l =>
    let t := s.modEngine fun e => { e with requests := l }
    if t.engine.hold.isSome then t.modEngine fun e => { e with held := e.held ++ [q] } else t.takeRequest q

end Sys2Proof.Machine
end

