-- ==== Sys2Proof/Machine/Outcomes.lean ====
section
/-! DEFINITION. The hold and the end of a checkpoint (R87, R88, R113, R114), the host area (R101, R162), LOAD and FORMAT as
they progress (R117, R121), ADOPT's and RESYNC's stages (R102 to R104), and what each owner does with the outcome of its
operation (R130). -/

namespace Sys2Proof.Machine

/-! ## The hold -/

/-- An owner asks for the hold (R87). -/
def State.askHold (s : State) (o : HoldOwner) : State := s.modEngine fun e => { e with holdQueue := e.holdQueue ++ [o] }

/-- The hold is free for the owner: none stands and the owner is the first that waits, or it has passed to the owner. -/
def State.mayHold (s : State) (o : HoldOwner) : Bool :=
  match s.engine.hold with
  | none => s.engine.holdQueue.head? == some o
  | some x => x == o

/-- The owner takes the hold. -/
def State.takeHold (s : State) (o : HoldOwner) : State :=
  s.modEngine fun e => { e with hold := some o, holdQueue := if e.hold = some o then e.holdQueue else e.holdQueue.tail }

/-- A host-area copy begins: the target's stale flag is set and it is out of step for both slots (R100, R103, R104). -/
def State.beginCopy (s : State) (i : Fin 2) : State :=
  (s.modCat fun c => { c with stale := c.stale.set i true, inStepA := c.inStepA.set i false, inStepB := c.inStepB.set i false }).modEngine
    fun e => { e with hostCopy := some { target := i } }

/-- The RESYNC job, with its drive and stage. -/
def State.resyncJob (s : State) : Option (Nat × Fin 4 × ResyncStage) :=
  s.jobs.findSome? fun j => match j.phase with
    | .resyncing d g => some (j.id, d, g)
    | _ => none

/-- RESYNC's action begins once it has the hold (R104). -/
def State.beginResync (s : State) : State :=
  match s.resyncJob with
  | some (id, d, .askingHold) =>
    match catIndex d with
    | some i => ((s.takeHold .resync).setPhase id (.resyncing d .copying)).beginCopy i
    | none => s
  | _ => s

/-- The held requests are taken in the order in which they were held (R88); what each leaves on the page is written (R17). -/
def State.drainHeld (s : State) : State :=
  s.engine.held.foldl (fun s q => s.note.takeRequest q) (s.modEngine fun e => { e with held := [] })

/-- The hold ends: it passes to the next owner, or the held requests are taken (R87, R88). -/
def State.releaseHold (s : State) : State :=
  match s.engine.holdQueue with
  | o :: l =>
    let t := s.modEngine fun e => { e with hold := some o, holdQueue := l }
    if o = .resync then t.beginResync else t
  | [] => (s.modEngine fun e => { e with hold := none }).drainHeld

/-- ADOPT waits for the hold, its action is under way, or its checkpoint has been asked for: a hold that is ADOPT's is not
stale. -/
def State.adoptHolding (s : State) : Bool :=
  match s.adoptJob with
  | some (_, w) => w.stage == .askingHold || w.stage == .copying || w.stage == .checkpointing
  | none => false

/-! ## The end of a checkpoint -/

/-- The queued checkpoint, if any, starts unless one is in flight (R108): a held request taken when the hold ended may have
started one, which the queued one then follows. -/
def State.startQueued (s : State) : State :=
  match s.engine.ckpt, s.engine.queued with
  | none, some l => (s.modEngine fun e => { e with queued := none }).beginCkpt l
  | _, _ => s

/-- A hold that nobody owns any more ends: the image write's when no checkpoint is in flight, ADOPT's when its action has
ended without passing it on. While none stands, a RESYNC that has become the first to wait takes it and begins (R87, R104): the
checkpoint before it may have failed without ever taking the hold (R114). A checkpoint or an ADOPT that has become the first begins
by its own command. -/
def State.dropStaleHold (s : State) : State :=
  match s.engine.hold with
  | some .checkpoint => if s.engine.ckpt.isNone then s.releaseHold else s
  | some .adopt => if s.adoptHolding then s else s.releaseHold
  | some .resync => s
  | none => if s.mayHold .resync then s.beginResync else s

/-- The outcome of the checkpoint is decided (R113, R114). A checkpoint that fails before its image write leaves the queue for the
hold. What steps 1 to 5 change is one change of each page field: the dirty page count and the free AU counts are written with their
last values (DESIGN CHOICE, notes/assumptions/17.md). -/
def State.endCkpt (s : State) (c : Ckpt) : State :=
  let ok := c.d0 == .completed || c.d1 == .completed
  let x := if c.writing then c.target else s.cat.target
  let s := if ok then s.modCat fun k => k.checkpointed c else s
  let s := s.modEngine fun e => { e with ckpt := none, holdQueue := e.holdQueue.filter fun o => o != .checkpoint }
  ((s.answerAll c.reqs ok c.mask x).dropStaleHold).startQueued.dropStaleHold

/-- The checkpoint's outcome is decided when every tried drive has completed or failed, or none is left to try. -/
def State.ckptCheck (s : State) : State :=
  match s.engine.ckpt with
  | none => s
  | some c =>
    if c.writing then (if c.d0.busy || c.d1.busy then s else s.endCkpt c)
    else if c.d0.tried || c.d1.tried then s.ckptAsk
    else s.endCkpt c

/-! ## BLOCK_WRITE -/

/-- The write records of a BLOCK_WRITE by catalogue drive. -/
def BlockWriteWork.at (w : BlockWriteWork) (i : Fin 2) : AreaWrite := if i = 0 then w.d0 else w.d1

/-- One of them set. -/
def BlockWriteWork.put (w : BlockWriteWork) (i : Fin 2) (x : AreaWrite) : BlockWriteWork :=
  if i = 0 then { w with d0 := x } else { w with d1 := x }

/-- The drive's stale flag is set by the write (R162). -/
def BlockWriteWork.misses (w : BlockWriteWork) (i : Fin 2) : Bool :=
  if w.at i = .done then false
  else if w.at (peer i) = .done then true
  else w.at i == .partly

/-- The stale flags after the write. -/
def State.blockStale (s : State) (w : BlockWriteWork) : State :=
  let set := fun (s : State) (i : Fin 2) => if w.misses i then s.modCat fun c => { c with stale := c.stale.set i true } else s
  set (set s 0) 1

/-- BLOCK_WRITE's result (R162). -/
def BlockWriteWork.result (w : BlockWriteWork) : Result :=
  let any := w.d0 == .done || w.d1 == .done
  { status := if any then .ok else .driveUnavailable
    w0 := BitVec.ofNat 32 (if any then w.count else 0)
    w1 := BitVec.ofNat 32 (bitOf (w.d0 == .done) + 2 * bitOf (w.d1 == .done))
    w2 := BitVec.ofNat 32 (bitOf (w.misses 0) + 2 * bitOf (w.misses 1)) }

/-- Both writes of a BLOCK_WRITE have ended. -/
def BlockWriteWork.finished (w : BlockWriteWork) : Bool := w.offered && w.d0 != .underWay && w.d1 != .underWay

/-- The writes of a BLOCK_WRITE are offered to the catalogue drives at the same moment (R162). -/
def State.blockWriteOffer (s : State) (id : Nat) (w : BlockWriteWork) : State :=
  let one := fun (p : State × BlockWriteWork) (i : Fin 2) =>
    if p.1.hostDrive i then
      (p.1.offer (catDrive i) .bulk .areaWrite (p.1.cat.hostSector w.first) w.count (.blockWrite id) w.data, p.2.put i .underWay)
    else p
  let r := one (one (s, { w with offered := true }) 0) 1
  if r.2.finished then (r.1.blockStale r.2).complete id r.2.result else r.1.setPhase id (.blockWriting r.2)

/-- BLOCK_WRITEs make their offers in their order of dispatch, and none while a host-area copy runs (R162). -/
def State.blockOffers (s : State) : State :=
  if s.engine.hostCopy.isSome then s
  else
    let waiting := s.jobs.filterMap fun j => match j.phase with
      | .blockWriting w => if w.offered then none else some (j.id, w)
      | _ => none
    (waiting.takeWhile fun p => p.2.ready).foldl (fun s p => s.blockWriteOffer p.1 p.2) s

/-- How a drive's write ended (R162). -/
def areaWriteEnd (o : Op) (r : OpOutcome) : AreaWrite :=
  match r with
  | .done _ => .done
  | .error _ | .noAnswer | .driveFailed | .notReady | .withdrawn => if o.segsDone = 0 then .nothing else .partly

/-- The outcome of a BLOCK_WRITE's write (R162); an abandoned job's stale flag rules still apply (R190). -/
def State.blockWriteOp (s : State) (id : Nat) (i : Fin 2) (x : AreaWrite) : State :=
  match s.job id with
  | some { phase := .blockWriting w, .. } =>
    let w := w.put i x
    if w.finished then (s.blockStale w).complete id w.result else s.setPhase id (.blockWriting w)
  | _ =>
    match s.engine.orphans.find? fun p => p.1 == id with
    | none => s
    | some (_, w) =>
      let w := w.put i x
      let rest := s.engine.orphans.filter fun p => p.1 != id
      if w.finished then (s.modEngine fun e => { e with orphans := rest }).blockStale w
      else s.modEngine fun e => { e with orphans := rest ++ [(id, w)] }

/-- An AREA_WRITE offered by a BLOCK_WRITE has not ended. -/
def State.blockWritesUnderWay (s : State) : Bool :=
  (s.jobs.any fun j => match j.phase with
    | .blockWriting w => w.d0 == .underWay || w.d1 == .underWay
    | _ => false)
    || s.engine.orphans.any fun p => p.2.d0 == .underWay || p.2.d1 == .underWay

/-! ## The host-area copy -/

/-- One read of the copy is offered on the peer (R101). -/
def State.copyRead (s : State) (h : HostCopy) : State :=
  s.offer (catDrive (peer h.target)) .bulk .areaRead (s.cat.hostSector (256 * h.pairs)) 256 .hostCopy []

/-- The copy ends with a status; ADOPT goes on to its checkpoint, RESYNC completes and its hold ends (R101, R103,
R104). -/
def State.copyEnded (s : State) (h : HostCopy) (x : Status) : State :=
  let s := s.modEngine fun e => { e with hostCopy := none }
  let s := if x = .ok then s.modCat fun c => { c with stale := c.stale.set h.target false } else s
  let s : State := match s.adoptJob, s.resyncJob with
    | some (id, w), _ =>
      if w.stage = AdoptStage.copying then
        ((s.setPhase id (.adopting { w with stage := .checkpointing, status := w.status.worse x, auCopied := h.pairs / 4 })).requestCkptAdopt).dropStaleHold
      else s
    | none, some (id, _, .copying) =>
      (s.complete id { status := x, aux := min (h.pairs / 4) 65535, w0 := BitVec.ofNat 32 (256 * h.pairs) }).releaseHold
    | _, _ => s
  s.blockOffers

/-- The copy begins once the writes already offered have ended, if its peer may be copied from (R101). -/
def State.copyKick (s : State) : State :=
  match s.engine.hostCopy with
  | none => s
  | some h =>
    if !h.waiting ∨ s.blockWritesUnderWay then s
    else
      let i := peer h.target
      if s.member (catDrive i) ∧ !s.drives[catDrive i].failed ∧ !s.cat.stale[i] then
        (s.modEngine fun e => { e with hostCopy := some { h with waiting := false } }).copyRead h
      else s.copyEnded h .driveUnavailable

/-- The outcome of an operation of the copy (R101). -/
def State.copyOp (s : State) (o : Op) (r : OpOutcome) : State :=
  match s.engine.hostCopy with
  | none => s
  | some h =>
    match r with
    | .done data =>
      match o.kind with
      | .areaRead => s.offer (catDrive h.target) .bulk .areaWrite o.first 256 .hostCopy data
      | _ =>
        let g := { h with pairs := h.pairs + 1 }
        if g.pairs < 4 * s.cat.geo.h then (s.modEngine fun e => { e with hostCopy := some g }).copyRead g
        else s.copyEnded g .ok
    | .error _ | .noAnswer | .driveFailed | .notReady | .withdrawn =>
      s.copyEnded h (if o.kind = .areaRead then .readFailed else .writeFailed)

/-! ## LOAD -/

/-- The LOAD job with its progress. -/
def State.loadJob (s : State) : Option (Nat × LoadWork) :=
  s.jobs.findSome? fun j => match j.phase with
    | .loading w => some (j.id, w)
    | _ => none

/-- The header read of a slot on a catalogue drive. -/
def LoadWork.hdr (w : LoadWork) (x : ImgSlot) (i : Fin 2) : HdrRead :=
  match x with
  | .a => if i = 0 then w.a0 else w.a1
  | .b => if i = 0 then w.b0 else w.b1

/-- A header read set. -/
def LoadWork.putHdr (w : LoadWork) (x : ImgSlot) (i : Fin 2) (r : HdrRead) : LoadWork :=
  match x with
  | .a => if i = 0 then { w with a0 := r } else { w with a1 := r }
  | .b => if i = 0 then { w with b0 := r } else { w with b1 := r }

/-- A header that passed its check (R118). -/
def LoadWork.passing (w : LoadWork) (x : ImgSlot) (i : Fin 2) : Option Header :=
  match w.hdr x i with
  | .read r => checkHeader r
  | .none | .underWay | .failed => none

/-- C for a drive's slot B header: from its own header A, or from the other drive's (R117 step 3). -/
def LoadWork.slotAu (w : LoadWork) (i : Fin 2) : Option Nat :=
  match w.passing .a i with
  | some h => some h.c
  | none => (w.passing .a (peer i)).map fun h => h.c

/-- The slot B header reads are offered once both header A reads have ended (R117 step 3). -/
def State.loadSlotB (s : State) (id : Nat) (w : LoadWork) : State :=
  if w.bAsked ∨ w.a0 = .underWay ∨ w.a1 = .underWay then s.setPhase id (.loading w)
  else
    let one := fun (p : State × LoadWork) (i : Fin 2) =>
      match w.hdr .a i, w.slotAu i with
      | .none, _ => p
      | _, none => p
      | _, some c =>
        (p.1.offer (catDrive i) .bulk .areaRead ((c + 1) * 1024) 1 (.loadHeader .b) [], p.2.putHdr .b i .underWay)
    let r := one (one (s, { w with bAsked := true }) 0) 1
    r.1.setPhase id (.loading r.2)

/-- The outcome of a header read (R117). -/
def State.loadHeaderOp (s : State) (x : ImgSlot) (i : Fin 2) (r : OpOutcome) : State :=
  match s.loadJob with
  | none => s
  | some (id, w) =>
    let h := match r with
      | .done data => HdrRead.read data
      | .error _ | .noAnswer | .driveFailed | .notReady | .withdrawn => .failed
    s.loadSlotB id (w.putHdr x i h)

/-- The outcome of a page read of the tried image (R118): a bad one ends the reading of this image. -/
def State.loadPageOp (s : State) (r : OpOutcome) : State :=
  match s.loadJob with
  | none => s
  | some (id, w) =>
    match r with
    | .done data => s.setPhase id (.loading { w with reads := w.reads - 1, bytes := w.bytes ++ data })
    | .error _ | .noAnswer | .driveFailed | .notReady | .withdrawn =>
      (s.setPhase id (.loading { w with reads := 0, bad := true })).withdraw fun _ o => o.owner == .loadPage

/-! ## FORMAT -/

/-- The FORMAT job with its progress. -/
def State.formatJob (s : State) : Option (Nat × FormatWork) :=
  s.jobs.findSome? fun j => match j.phase with
    | .formatting w => some (j.id, w)
    | _ => none

/-- The catalogue that FORMAT builds in local DDR (R92, R121), not yet READY. -/
def FormatWork.built (w : FormatWork) : Cat := { boxId := w.boxId, geo := w.geo }

/-- A drive's step set. -/
def FormatWork.put (w : FormatWork) (d : Fin 4) (x : FormatStep) : FormatWork := { w with steps := w.steps.set d x }

/-- The pages of slot A are queued on catalogue drive `i` (R121 step 3). -/
def State.formatPages (s : State) (w : FormatWork) (i : Fin 2) : State × FormatWork :=
  let runs := wholeRuns w.geo.pages
  (runs.foldl
    (fun s r => s.offer (catDrive i) .bulk .areaWrite (1024 + 1 + r.1) r.2 .format (w.built.pagesBytes r.1 r.2)) s,
   { w.put (catDrive i) .pages with pagesLeft := w.pagesLeft.set i runs.length })

/-- The step after the one answered DONE on a drive (R121). -/
def State.formatAdvance (s : State) (w : FormatWork) (d : Fin 4) : State × FormatWork :=
  match catIndex d, w.steps[d] with
  | none, .label => (s, { w.put d .finished with labelled := w.labelled ||| (1#4 <<< d.val) })
  | some _, .label =>
    (s.offer d .bulk .areaWrite (w.geo.slotSector .b) 1 .format (zeros 4096),
     { w.put d .zeroB with labelled := w.labelled ||| (1#4 <<< d.val) })
  | some _, .zeroB => (s.offer d .bulk .flush 0 0 .format [], w.put d .flush1)
  | some i, .flush1 => s.formatPages w i
  | some i, .pages =>
    if w.pagesLeft[i] ≤ 1 then (s.offer d .bulk .flush 0 0 .format [], w.put d .flush2)
    else (s, { w with pagesLeft := w.pagesLeft.set i (w.pagesLeft[i] - 1) })
  | some _, .flush2 =>
    (s.offer d .bulk .areaWrite 1024 1 .format (w.built.header 1 w.built.imageCrc w.time).sector, w.put d .header)
  | some _, .header => (s.offer d .bulk .flush 0 0 .format [], w.put d .flush3)
  | some _, .flush3 => (s, w.put d .finished)
  | _, _ => (s, w)

/-- The outcome of an operation of FORMAT (R121). -/
def State.formatOp (s : State) (d : Fin 4) (r : OpOutcome) : State :=
  match s.formatJob with
  | none => s
  | some (id, w) =>
    match r with
    | .done _ =>
      let p := s.formatAdvance w d
      p.1.setPhase id (.formatting p.2)
    | .error _ | .noAnswer | .driveFailed | .notReady | .withdrawn =>
      (s.setPhase id (.formatting (w.put d .failed))).withdraw fun e o => e == d && o.owner == .format

/-- A drive's write sequence has ended or was not begun. -/
def FormatStep.over : FormatStep → Bool
  | .none | .finished | .failed => true
  | .label | .zeroB | .flush1 | .pages | .flush2 | .header | .flush3 => false

/-! ## ADOPT -/

/-- The outcome of ADOPT's label read, after the kept label has changed (R102). -/
def State.adoptRead (s : State) (r : OpOutcome) : State :=
  match s.adoptJob with
  | none => s
  | some (id, w) =>
    if w.stage ≠ .labelRead then s
    else match r with
      | .done _ =>
        if s.member w.drive then s.complete id (.refusal .wrongState)
        else if s.drives[w.drive].capacity < 1024 * s.cat.geo.au[w.drive] then s.complete id (.refusal .tooSmall)
        else (s.setPhase id (.adopting { w with stage := .askingHold })).askHold .adopt
      | .error _ | .noAnswer | .driveFailed | .notReady | .withdrawn => s.complete id (.refusal .driveUnavailable)

/-- The outcome of ADOPT's label write (R103 step 5). -/
def State.adoptWritten (s : State) (r : OpOutcome) : State :=
  match s.adoptJob with
  | none => s
  | some (id, w) =>
    if w.stage ≠ .labelWrite then s
    else match r with
      | .done _ => s.complete id (w.result .ok)
      | .error _ | .noAnswer | .driveFailed | .notReady | .withdrawn => s.complete id (w.result .writeFailed)

/-! ## Owners -/

/-- How a chunk write ended, as R96 distinguishes it. -/
def OpOutcome.write : OpOutcome → WriteResult
  | .done _ => .done
  | .error true => .media
  | .error false | .noAnswer | .driveFailed | .notReady | .withdrawn => .failed

/-- How a repair write ended (R167): NOT_READY in a box sequence or in SLEEP is the box going to sleep. -/
def State.repairWritten (s : State) (r : OpOutcome) : WriteResult :=
  if r = .notReady ∧ (s.box.seq.isSome ∨ s.box.st = .sleep) then .asleep else r.write

/-- The outcome of a STRICT compare's read (R59). -/
def State.compareOp (s : State) (n : Fin 8) (id : Nat) (r : OpOutcome) : State :=
  match s.chunk n id with
  | none => s
  | some c =>
    match c.phase with
    | .comparing slot k l tried =>
      let bad := fun (reason : RepairReason) =>
        ((s.request (.badCopy slot c.key k l)).addBadCopy slot c.key k l reason).compareNext n c slot (k :: tried)
      match r with
      | .done data =>
        if goodRead c.key data then
          (s.modChunk n id fun c => { c with phase := .verdict }).request
            (.verdict n id (if data.take c.key.len = c.bytes then .equal else .different))
        else bad .verifyFail
      | .error _ | .noAnswer | .driveFailed => bad .readError
      | .notReady | .withdrawn => s.compareNext n c slot (k :: tried)
    | .waiting | .resolving | .verdict | .referencing | .resolved | .rewriting => s

/-- The outcome of the repair worker's source read (R166). -/
def State.repairReadOp (s : State) (r : OpOutcome) : State :=
  match s.repair.worker with
  | .reading e src =>
    let bad := ((s.request (.badCopy e.slot e.key e.copy.other src)).dropRepair e.slot e.copy).idleWorker
    match r with
    | .done data =>
      if goodRead e.key data then (s.setWorker (.placing e src data)).request .repairPlacement else bad
    | .error _ | .noAnswer => bad
    | .driveFailed | .notReady | .withdrawn => s.idleWorker
  | .idle | .placing _ _ _ | .writing _ _ _ _ _ _ | .updating _ _ _ _ => s

/-- The verdict that a scrub read gives (R170). -/
def scrubVerdict (k : Key) : OpOutcome → CopyVerdict
  | .done data => if goodRead k data then .good else .bad .verifyFail
  | .error _ | .noAnswer => .bad .readError
  | .driveFailed | .notReady | .withdrawn => .notRead

/-- The outcome of a scrub read; once every read has ended the plan request is sent, or the entry is skipped (R170). -/
def State.scrubReadOp (s : State) (k : CopyName) (r : OpOutcome) : State :=
  match s.scrub.bind fun x => x.step with
  | none => s
  | some p =>
    if p.stage ≠ .reading then s
    else
      let v := scrubVerdict p.key r
      let copies := p.copies.map fun c => if c.copy = k then { c with verdict := v } else c
      let buf := match v, r with
        | .good, .done data => some data
        | _, _ => p.buf
      let s := s.modStep fun p => { p with copies := copies, buf := buf }
      if copies.any fun c => c.verdict == .reading then s
      else if copies.all fun c => c.verdict == .notRead then s.scrubWalked true
      else (s.modStep fun p => { p with stage := .planning }).request .scrubPlan

/-- The outcome of an in-place rewrite (R172). -/
def State.scrubRewriteOp (s : State) (k : CopyName) (r : OpOutcome) : State :=
  (s.modStep fun p =>
    { p with rewrites := p.rewrites.map fun w => if w.copy = k then { w with result := some r.write } else w }).scrubWritten

/-- The outcome of a REMIRROR write: a failed first attempt asks for its re-placement (R172). -/
def State.scrubMirrorOp (s : State) (r : OpOutcome) : State :=
  match (s.scrub.bind fun x => x.step).bind fun p => p.mirror with
  | none => s
  | some m =>
    if r.write = .done ∨ m.second then
      (s.modStep fun p => { p with mirror := some { m with result := some r.write } }).scrubWritten
    else s.request (.writeOutcome .mirror r.write)

/-- The kept label of a drive after an operation on sector 0 (R90). -/
def State.labelOp (s : State) (d : Fin 4) (o : Op) (r : OpOutcome) : State :=
  match o.kind, r with
  | .labelRead, .done data => s.modDrive d fun x => { x with label := readLabel data }
  | .labelWrite, .done _ => s.modDrive d fun x => { x with label := readLabel o.payload }
  | _, _ => s

/-- An operation's outcome is handed to its owner (R130). -/
def State.hand (s : State) (d : Fin 4) (o : Op) (r : OpOutcome) : State :=
  let s := s.labelOp d o r
  match o.owner with
  | .chunkCopy n id k => s.request (.writeOutcome (.chunk n id k) r.write)
  | .compare n id => s.compareOp n id r
  | .fetch id i => s.fetchOp id i r
  | .blockRead id => s.blockReadOp id r
  | .blockWrite id =>
    match catIndex d with
    | some i => s.blockWriteOp id i (areaWriteEnd o r)
    | none => s
  | .checkpoint =>
    match catIndex d with
    | some i => (s.ckptOp i r).ckptCheck
    | none => s
  | .loadLabel => s
  | .loadHeader x =>
    match catIndex d with
    | some i => s.loadHeaderOp x i r
    | none => s
  | .loadPage => s.loadPageOp r
  | .format => s.formatOp d r
  | .adoptLabelRead => s.adoptRead r
  | .adoptLabelWrite => s.adoptWritten r
  | .hostCopy => s.copyOp o r
  | .repairRead => s.repairReadOp r
  | .repairWrite => s.request (.writeOutcome .repair (s.repairWritten r))
  | .scrubRead k => s.scrubReadOp k r
  | .scrubRewrite k => s.scrubRewriteOp k r
  | .scrubMirror => s.scrubMirrorOp r
  | .tempPoll => s

/-- Several operations of a drive end with one outcome, in list order (R136). -/
def State.handAll (s : State) (d : Fin 4) (l : List Op) (r : OpOutcome) : State := l.foldl (fun s o => s.hand d o r) s

/-- An operation ends and leaves the list, and its owner has the outcome (R130); a withdrawn one asks nothing of its
owner (R137). -/
def State.endOp (s : State) (d : Fin 4) (o : Op) (r : OpOutcome) : State :=
  let t := s.modDrive d fun x => x.dropOp o.id
  if o.withdrawn then t else t.hand d o r

end Sys2Proof.Machine
end

