-- ==== Sys2Proof/Machine/Health.lean ====
section
/-! DEFINITION. Drive health and starts: latches and snapshots (R177 to R180), temperature (R176), the end of a start
(R145 to R147), and the pass that settles the drives at the end of a step. -/

namespace Sys2Proof.Machine

/-! ## Starts -/

/-- The requesters of a drive's ONCE demands are told how the start ended (R141, R109, R117). -/
def State.tellOnce (s : State) (d : Fin 4) (ready : Bool) : State :=
  let s := match s.loadJob with
    | some (id, w) => s.setPhase id (.loading { w with waiting := w.waiting.filter fun e => e != d })
    | none => s
  match catIndex d, s.engine.ckpt with
  | some i, some c =>
    if c.at i = .starting then
      (s.modCkpt fun c => c.put i (if ready then .prepared else .notTried)).ckptCheck
    else s
  | _, _ => s

/-- The drive enters READY (R145, R147): every demand is released. -/
def State.driveReady (s : State) (d : Fin 4) : State :=
  ((s.enterReady d).modDrive d fun x => { x with demands := [] }).tellOnce d true

/-- The job is a START, PARK or POWER_OFF of the drive (R151). -/
def Job.powers (j : Job) (d : Fin 4) : Bool := [1, 2, 3].any fun a => j.req == .driveControl d.val a

/-- A start failure of a drive counted by the START, PARK or POWER_OFF in flight on it, whether or not the job has begun its action
(R151). -/
def countFail (d : Fin 4) (j : Job) : Job := if j.powers d then { j with fails := j.fails + 1 } else j

/-- A drive of a checkpoint's image write whose start ended without READY fails the checkpoint (R112). -/
def State.ckptStartFailed (s : State) (d : Fin 4) : State :=
  match catIndex d, s.engine.ckpt with
  | some i, some c => if (c.at i).busy then (s.ckptFailDrive i).ckptCheck else s
  | _, _ => s

/-- A tried drive that latches FAILED fails the checkpoint, before its image write as in it; the other goes on (R112, R116). -/
def State.ckptDriveFailed (s : State) (d : Fin 4) : State :=
  match catIndex d, s.engine.ckpt with
  | some i, some c => if (c.at i).busy || c.at i == .prepared then (s.ckptFailDrive i).ckptCheck else s
  | _, _ => s

/-! ## Latches -/

/-- A snapshot of the drive's health record (R180). -/
def Drive.snapshot (x : Drive) (failed : Bool) (cause : FaultCause) (time : BitVec 32) (power : Power) : Snapshot :=
  { failed := failed, cause := cause, time := time, temp := x.temp, score := x.score, noAnswer := x.noAnswer
    startFails := x.startFails, power := power }

/-- A fault snapshot is written and DRIVE_FAULT set (R180). -/
def State.takeSnapshot (s : State) (d : Fin 4) (n : Snapshot) : State :=
  (s.modDrive d fun x => { x with snap := some n, snapCount := x.snapCount + 1 }).setCause .driveFault

/-- DEGRADED is latched (R177). A snapshot taken earlier in the step is noted for the status page (R17). -/
def State.latchDegraded (s : State) (d : Fin 4) : State :=
  let x := s.drives[d]
  (s.note.modDrive d fun x => { x with degraded := true }).takeSnapshot d (x.snapshot false .media s.stamp x.power)

/-- A cause is in the set. -/
def Causes.has (c : Causes) : FaultCause → Bool
  | .start => c.start
  | .noAnswer => c.noAnswer
  | .removed => c.removed
  | .rail => c.rail
  | .media => true

/-- The set with a cause. -/
def Causes.add (c : Causes) : FaultCause → Causes
  | .start => { c with start := true }
  | .noAnswer => { c with noAnswer := true }
  | .removed => { c with removed := true }
  | .rail => { c with rail := true }
  | .media => c

/-- What a FAILED latch takes from the drive (R136, R147): start, STANDBY, pending park, demands, timers, start-up phase,
list and port. -/
def Drive.quiet (x : Drive) (credit : Nat) : Drive :=
  { x with
    startTimer := none, wakeAsked := false, standbyAsked := false, demands := [], park := none, idle := none, idleCond := false
    idleHeld := false, railGrace := none, ops := [], room := [], credit := credit, port := .idle, startup := none
    hotGrace := none, poll := none }

/-- FAILED is latched (R179); `before` is the power state that the snapshot shows. An operation already withdrawn asks
nothing of its owner (R137). What the page's fields were before is noted (R17). -/
def State.latchFailed (s : State) (d : Fin 4) (cause : FaultCause) (before : Power) : State :=
  let x := s.drives[d]
  if x.causes.has cause then s
  else
    let n := x.snapshot true cause s.stamp before
    let t := s.note.modDrive d fun y => { y with causes := y.causes.add cause }
    if x.failed then t.takeSnapshot d n
    else
      let t := t.modDrive d fun y => y.quiet s.cfg.credit
      let t := if x.power = .absent ∨ x.power = .unpowered then t else t.powerOff d
      let t := (t.tellOnce d false).ckptDriveFailed d
      ((t.handAll d (x.ops.filter fun o => !o.withdrawn) .driveFailed).handAll d x.room .driveFailed).takeSnapshot d n

/-- A drive's presence line falls (R140). -/
def State.removeDrive (s : State) (d : Fin 4) : State :=
  let x := s.drives[d]
  let t := s.modDrive d fun y => { y with present := false, power := .absent, rail := false, label := none, capacity := 0 }
  let t := if x.rail then t.emit (.rail d false) else t
  if x.failed then
    (t.modDrive d fun y => y.quiet s.cfg.credit).latchFailed d .removed x.power
  else t.latchFailed d .removed x.power

/-- A start ends without READY (R146). -/
def State.startFailed (s : State) (d : Fin 4) : State :=
  let x := s.drives[d]
  let t :=
    if x.fromParked then s.modDrive d fun y => { y with power := .parked, startTimer := none, wakeAsked := false }
    else s.powerOff d
  let t := t.modDrive d fun y =>
    { y with startFails := y.startFails + 1, demands := y.demands.filter fun b => !b.once }
  let t := { t with jobs := t.jobs.map (countFail d) }
  let t := (t.tellOnce d false).ckptStartFailed d
  if 2 ≤ x.startFails + 1 then t.latchFailed d .start t.drives[d].power else t

/-! ## Answers -/

/-- How a port command ended, as the Integrity Unit takes it (R132). -/
inductive Ending where
  | done | media | other | noAnswer
  deriving DecidableEq, Repr

/-- A media error (R177). -/
def State.mediaError (s : State) (d : Fin 4) : State :=
  let t := s.modDrive d fun x =>
    { x with score := satInc 255 x.score, decay := if x.score = 0 then some 3600 else x.decay }
  if s.cfg.mediaLimit ≤ t.drives[d].score ∧ !t.drives[d].degraded then t.latchDegraded d else t

/-- The Integrity Unit takes an ending (R132, R177, R178). -/
def State.integrity (s : State) (d : Fin 4) (e : Ending) : State :=
  match e with
  | .done => s.modDrive d fun x => { x with noAnswer := 0 }
  | .media => s.mediaError d
  | .other => s
  | .noAnswer =>
    let t := s.modDrive d fun x => { x with noAnswer := x.noAnswer + 1 }
    if 3 ≤ t.drives[d].noAnswer then t.latchFailed d .noAnswer t.drives[d].power else t

/-- A reading clamped (R175). -/
def clampTemp (v : Int) : Int := max (-40) (min 125 v)

/-- A temperature reading is evaluated (R175, R176). -/
def Drive.reading (x : Drive) (cfg : Cfg) (v : Int) : Drive :=
  let t := clampTemp v
  let x := { x with temp := some t }
  if x.hot then (if t ≤ cfg.recover then { x with hot := false } else x)
  else if (cfg.hot : Int) ≤ t then (if x.hotGrace.isNone then { x with hotGrace := some cfg.hotGrace } else x)
  else { x with hotGrace := none }

/-! ## Settling the drives -/

/-- The operations that end NOT_READY on the drive as it stands (R127, R191). -/
def State.notReadyOps (s : State) (d : Fin 4) (l : List Op) : List Op :=
  let x := s.drives[d]
  if x.power = .ready ∨ x.failed then []
  else
    let down := s.powerDown && !s.ownCkptDrive d
    let work := x.ops.any fun o => o.cls != .background && !down
    l.filter fun o => if o.cls = .background then !work else down

/-- Operations of a drive that is not READY end NOT_READY (R126, R127, R191). -/
def State.endNotReady (s : State) (d : Fin 4) : State :=
  let ops := s.notReadyOps d s.drives[d].ops
  let room := s.notReadyOps d s.drives[d].room
  if ops.isEmpty && room.isEmpty then s
  else
    let gone := fun (o : Op) => (ops ++ room).any fun p => p.id == o.id
    let t := s.modDrive d fun x => { x with ops := x.ops.filter fun o => !gone o, room := x.room.filter fun o => !gone o }
    t.handAll d ((ops ++ room).filter fun o => !o.withdrawn) .notReady

/-- Places freed go to the producers waiting for room (R126). -/
def fillRoom : Nat → Drive → Drive
  | 0, x => x
  | k + 1, x =>
    match x.room with
    | [] => x
    | o :: l => if x.ops.length < 32 then fillRoom k { x with ops := placeOp x.ops o, room := l } else x

/-- A DRIVE_CONTROL result with the drive's power state and its start failures (R151). -/
def State.powerResult (s : State) (d : Fin 4) (x : Status) (fails : Nat) : Result :=
  { status := x, w0 := BitVec.ofNat 32 s.drives[d].power.code, w1 := BitVec.ofNat 32 fails }

/-- The pending park or power-off is settled (R152). -/
def State.parkSettled (s : State) (d : Fin 4) : State :=
  let t := s.modDrive d fun x => { x with park := none }
  match t.jobs.findSome? fun j => match j.phase with
    | .parking e _ => if e = d then some (j.id, j.fails) else none
    | _ => none with
  | some (id, n) => t.complete id (t.powerResult d .ok n)
  | none => t

/-- A drive's pending park or power-off and its held idle expiry as the drive now stands (R149, R152). -/
def State.parkPass (s : State) (d : Fin 4) : State :=
  let x := s.drives[d]
  match x.park with
  | none =>
    if !x.idleHeld then s
    else if x.ops.any fun o => o.kind != .tempPoll then s.modDrive d fun y => { y with idleHeld := false }
    else if x.canStandby then s.makeStandby d
    else s
  | some p =>
    match x.power with
    | .ready => if x.canStandby then s.makeStandby d else s
    | .parked =>
      if !p.off then s.parkSettled d
      else if x.ops.isEmpty then (s.note.powerOff d).parkSettled d
      else s
    | .unpowered => s.parkSettled d
    | .absent | .starting | .stopping => s

/-- What a job that waits on drives does as they now stand (R102, R104, R120, R151, R152). R104 gives no outcome for a drive that
is latched FAILED or becomes ABSENT while RESYNC waits for its start; RESYNC then ends as its check of that drive would have
made it end, DRIVE_UNAVAILABLE with words and aux 0 (DESIGN CHOICE, notes/assumptions/61.md). -/
def State.jobPass (s : State) (j : Job) : State :=
  match j.phase with
  | .starting d =>
    if !s.drives[d].usable then s.complete j.id (s.powerResult d .driveUnavailable j.fails)
    else if s.drives[d].serving then s.complete j.id (s.powerResult d .ok j.fails)
    else s
  | .parking d _ => if !s.drives[d].usable then s.complete j.id (s.powerResult d .driveUnavailable j.fails) else s
  | .adopting w =>
    if w.stage ≠ .starting then s
    else if !s.drives[w.drive].usable then s.complete j.id (.refusal .driveUnavailable)
    else if s.drives[w.drive].power = .ready then
      (s.setPhase j.id (.adopting { w with stage := .labelRead })).offer w.drive .bulk .labelRead 0 1 .adoptLabelRead []
    else s
  | .resyncing d .starting =>
    if !s.drives[d].usable then s.complete j.id (.refusal .driveUnavailable)
    else if s.drives[d].power = .ready then
      let t := (s.setPhase j.id (.resyncing d .askingHold)).askHold .resync
      if t.mayHold .resync then t.beginResync else t
    else s
  | .formatting w =>
    if w.writing then s
    else s.setPhase j.id (.formatting { w with waiting := w.waiting.filter fun d => s.drives[d].usable && !s.drives[d].serving })
  | _ => s

/-- The timers that follow a drive's state (R149, R175, R176). -/
def Drive.timers (x : Drive) (idlePark : Nat) : Drive :=
  let cond := x.serving && (x.ops.all fun o => o.kind == .tempPoll) && x.park.isNone
  { x with
    idleCond := cond
    idle := if !cond then none else if x.idleCond then x.idle else if idlePark = 0 then none else some idlePark
    poll := if x.power != .ready then none else if x.startup.isNone && x.poll.isNone then some 60 else x.poll
    hotGrace := if x.power = .ready then x.hotGrace else none }

/-- Every idle port issues what it has to issue. -/
def State.kickAll (s : State) : State := drives4.foldl State.kickPort s

/-- The drives settle at the end of a step that concerns them. -/
def State.settle (s : State) : State :=
  let s := drives4.foldl State.endNotReady s
  let s := { s with drives := s.drives.map fun (x : Drive) => fillRoom x.room.length x }
  let s := s.kickAll
  let s := (drives4.foldl State.parkPass s).kickAll
  let s := (s.jobs.foldl State.jobPass s).copyKick
  let s := (State.grantLoop 4 s.syncQueue).kickAll
  { s with drives := Vector.ofFn fun d => s.drives[d].timers s.cfg.drive[d].idlePark }

end Sys2Proof.Machine
end

