-- ==== Sys2Proof/Machine/Box.lean ====
section
/-! DEFINITION. Box power: stops and detaches with what follows them, the emergency condition and its drain (R184, R190,
R191), the entry into SLEEP and into WAKING (R187 to R189), alarms (R30, R31), and cold start. -/

namespace Sys2Proof.Machine

/-! ## Stop and detach -/

/-- The chains are stopped (R11); a SCRUB between two steps then ends (R173). -/
def State.stopChains (s : State) : State := s.stop.scrubRest

/-- The chains are detached (R11). -/
def State.detachChains (s : State) : State := s.detach.scrubRest.detachIfIdle

/-! ## WAKING and SLEEP -/

/-- The wake sources (R188). -/
inductive WakeSource where
  | network | button | alarm | mains
  deriving DecidableEq, Repr

/-- The wake enable of a source. -/
def Cfg.wakes (c : Cfg) : WakeSource → Bool
  | .network => c.wakeNetwork
  | .button => c.wakeButton
  | .alarm => c.wakeAlarm
  | .mains => c.wakeMains

/-- The reason set of one source (R189). -/
def WakeSource.reason : WakeSource → WakeReason
  | .network => { network := true }
  | .button => { button := true }
  | .alarm => { alarm := true }
  | .mains => { mains := true }

/-- An event of the source, taken now, wakes the box (R188). -/
def State.wakesBox (s : State) (w : WakeSource) : Bool :=
  s.box.st == .sleep && s.cfg.wakes w && (w == .mains || !s.box.battLow)

/-- Entry into WAKING (R189): the first host rail goes on. -/
def State.enterWaking (s : State) (w : WakeSource) : State :=
  (s.modBox fun b =>
    { b with st := .waking, wakeReason := w.reason, rail1 := true, rail2 := false, fromSleep := true, pendingMains := false
             keptPrestart := 0 }).emit (.hostRail 0 true)

/-- An event of a wake source (R188). -/
def State.wakeEvent (s : State) (w : WakeSource) : State := if s.wakesBox w then s.enterWaking w else s

/-- A drive gives up its demands, answered as "start ended without READY" (R191). -/
def State.releaseDemands (s : State) (d : Fin 4) : State :=
  if s.drives[d].power = .ready then s else (s.modDrive d fun x => { x with demands := [] }).tellOnce d false

/-- What a drive keeps of its start, park and port as the box enters SLEEP: nothing, and the configured credit (R138, R154). -/
def Drive.asleep (x : Drive) (credit : Nat) : Drive :=
  { x with
    park := none, idle := none, idleCond := false, idleHeld := false, startup := none, wakeAsked := false, standbyAsked := false
    startTimer := none, port := .idle, credit := credit }

/-- One drive as the box enters SLEEP (R138, R154, R187): UNPOWERED or ABSENT, with nothing pending. What is still on its list
ends NOT_READY (notes/assumptions/59.md). -/
def State.sleepDrive (s : State) (d : Fin 4) : State :=
  let x := s.drives[d]
  let t := if x.power = .absent ∨ x.power = .unpowered then s else s.powerOff d
  ((t.modDrive d fun x => x.asleep s.cfg.credit).releaseDemands d).endNotReady d

/-- Entry into SLEEP (R187), with the test of the pending MAINS_RETURN wake. -/
def State.enterSleep (s : State) : State :=
  let t := (s.emit (.hostRail 0 false)).emit (.hostRail 1 false)
  let t := { t with startQueue := [] }.modBox fun b =>
    { b with st := .sleep, rail1 := false, rail2 := false, seq := none, drain := false, consentTimer := false
             consentWait := false, consentKept := false, hold := .stopped }
  let t := drives4.foldl State.sleepDrive t
  let pending := t.box.pendingMains
  let t := t.modBox fun b => { b with pendingMains := false }
  if pending ∧ t.cfg.wakeMains ∧ t.box.supply = .mains then t.enterWaking .mains else t

/-! ## The power-down phase -/

/-- The drain has ended: the power-down phase is entered and its first step, the closing of the streams, begins (R190,
R191). -/
def State.enterPowerDown (s : State) : State :=
  let t := s.modBox fun b => { b with drain := false, seq := b.seq.map fun q => { q with step := .close } }
  let t := drives4.foldl State.releaseDemands { t with startQueue := [] }
  t.closeAll.settle

/-- The drain ends when no job is in flight (R190). -/
def State.drainCheck (s : State) : State := if s.box.drain ∧ s.jobs.isEmpty then s.enterPowerDown else s

/-- The emergency condition (R184). -/
def State.emergency (s : State) : Bool :=
  s.box.st == .run && s.box.supply == .battery && (s.box.hold == .expired || s.box.battLow)

/-- The emergency shutdown begins when its condition holds (R184, R190). -/
def State.emergencyCheck (s : State) : State :=
  if s.emergency then
    let t := s.modBox fun b =>
      { b with st := .sleepPrep, hold := .stopped, seq := some { shutdown := true }, drain := true, consentWait := true
               consentKept := false }
    ((t.setCause .powerDown).stopChains).drainCheck
  else s

/-- The hold timer as it starts (R184): a hold time of 0 expires at once. -/
def Cfg.holdStart (c : Cfg) : HoldTimer := if c.holdTime = 0 then .expired else .running c.holdTime

/-! ## Jobs abandoned at the end of the drain -/

/-- An operation of a LOAD or FORMAT. -/
def Owner.opens : Owner → Bool
  | .loadLabel | .loadHeader _ | .loadPage | .format => true
  | .chunkCopy _ _ _ | .compare _ _ | .fetch _ _ | .blockRead _ | .blockWrite _ | .checkpoint | .adoptLabelRead | .adoptLabelWrite
  | .hostCopy | .repairRead | .repairWrite | .scrubRead _ | .scrubRewrite _ | .scrubMirror | .tempPoll => false

/-- An operation carried for a job of the kinds whose operations are withdrawn (R190). -/
def Owner.abandoned : Owner → Bool
  | .fetch _ _ | .blockRead _ | .loadLabel | .loadHeader _ | .loadPage | .format | .adoptLabelRead | .adoptLabelWrite
  | .hostCopy => true
  | .chunkCopy _ _ _ | .compare _ _ | .blockWrite _ | .checkpoint | .repairRead | .repairWrite | .scrubRead _
  | .scrubRewrite _ | .scrubMirror | .tempPoll => false

/-- An operation that the end of the drain withdraws (R190, R137): of a LOAD or FORMAT, one of which no segment was issued; the
others run to their ends, and nobody is told (DESIGN CHOICE, notes/assumptions/87.md). -/
def Op.abandoned (o : Op) : Bool := o.owner.abandoned && (o.st == .waiting || !o.owner.opens)

/-- A catalogue request of a RETAIN or RELEASE. -/
def CatReq.ofList : CatReq → Bool
  | .retainRef _ | .releaseRef _ => true
  | .resolution _ _ | .verdict _ _ _ | .writeOutcome _ _ | .badCopy _ _ _ _ | .damage _ _ | .repairPlacement
  | .repairUpdate | .scrubPlan | .scrubUpdate => false

/-- ADOPT's request leaves the checkpoint in flight, which is not made when nothing else asked for it (R190). An image write that has
begun runs on to its outcome all the same (DESIGN CHOICE, notes/assumptions/80.md). -/
def Engine.dropAdopt (e : Engine) : Engine :=
  match e.ckpt with
  | none => e
  | some c =>
    if !c.reqs.contains .adopt then e
    else
      let rest := c.reqs.filter fun q => q != .adopt
      if rest.isEmpty ∧ !c.writing then
        { e with ckpt := none, holdQueue := e.holdQueue.filter fun o => o != .checkpoint }
      else
        { e with
          ckpt := some { c with reqs := rest }
          holdQueue := if c.asked ∧ !c.writing ∧ !e.holdQueue.contains .checkpoint then e.holdQueue ++ [.checkpoint] else e.holdQueue }

/-- BLOCK_WRITE jobs whose offered writes still run (R190). -/
def orphansOf (l : List Job) : List (Nat × BlockWriteWork) :=
  l.filterMap fun j => match j.phase with
    | .blockWriting w => if w.offered ∧ !w.finished then some (j.id, w) else none
    | _ => none

/-- Every job in flight is abandoned at the end of the drain time (R11, R190). -/
def State.abandonJobs (s : State) : State :=
  let loading := s.loadJob.isSome || s.formatJob.isSome
  let acting := s.adoptJob.isSome || s.resyncJob.isSome
  let t := s.withdraw fun _ o => o.abandoned
  let t := t.modEngine fun e =>
    { e with
      orphans := e.orphans ++ orphansOf s.jobs
      requests := e.requests.filter fun q => !q.ofList
      held := e.held.filter fun q => !q.ofList
      waiters := e.waiters.filter fun q => !q.ofList
      hostCopy := none
      holdQueue := e.holdQueue.filter fun o => o == .checkpoint }
  let t := if loading then { t with cat := {} } else t
  let t := { t with
    jobs := []
    drives := t.drives.map fun (x : Drive) => { x with park := none }
    streams := t.streams.map fun (x : Stream) => { x with list := [] }
    chains := t.chains.map fun (x : Chain) => { x with inFlight := 0 } }
  let t := (t.modScrub fun x => { x with job := none }).scrubRest
  let t := if acting then
      let u := t.modEngine Engine.dropAdopt
      let u := if u.engine.hold = some .adopt ∨ u.engine.hold = some .resync then u.releaseHold else u
      if u.engine.ckpt.isNone then u.startQueued else u
    else t
  t.detachIfIdle

/-! ## Box sequences -/

/-- A park or power-off made without a job on the drives of a list that are present and not FAILED (R152, R185, R191). -/
def State.parkDrives (s : State) (l : List (Fin 4)) (off : Bool) : State :=
  l.foldl (fun s d => if s.drives[d].usable then s.setPark d { off := off } else s) s

/-- A drive's park by a sequence has ended. -/
def Drive.down (x : Drive) (off : Bool) : Bool :=
  x.failed || x.power == .absent || x.power == .unpowered || (x.power == .parked && !off)

/-- Every drive of a list is down. -/
def State.allDown (s : State) (l : List (Fin 4)) (off : Bool) : Bool := l.all fun d => s.drives[d].down off

/-- The projected draw with a catalogue drive started (R192): `spun` says that drive 0 was considered and not excluded. -/
def State.projected (s : State) (d : Fin 4) (spun : Bool) : Nat :=
  let part := fun (e : Fin 4) =>
    if e = d then s.cfg.drive[e].spinUp
    else if e = 0 ∧ d ≠ 0 ∧ spun then s.cfg.drive[e].run
    else contribution s.drives[e].power s.cfg.drive[e]
  part 0 + part 1 + part 2 + part 3

/-- A catalogue drive is considered by the shutdown (R192). -/
def State.considered (s : State) (d : Fin 4) : Bool := s.member d && s.drives[d].usable

/-- The catalogue drives that the shutdown excludes (R192): drive 0, then drive 1. -/
def State.exclusions (s : State) : Bool × Bool :=
  let out := fun (d : Fin 4) (spun : Bool) => s.considered d && s.drives[d].power != .ready && s.budget < s.projected d spun
  let x0 := out 0 false
  (x0, out 1 (s.considered 0 && !x0))

/-- A checkpoint is due in a sequence. -/
def State.ckptDue (s : State) : Bool := s.cat.st == .ready && s.cat.dirty != 0

/-- A sequence's checkpoint step begins (R185 step 3, R192). -/
def State.seqCkpt (s : State) (q : CkptReq) : State :=
  if s.ckptDue then (s.modSeq fun x => { x with ckpt := .waiting }).requestCkpt q else s

/-- The step that follows in the sleep sequence and in the power-down phase. -/
def Seq.nextStep (q : Seq) : SeqStep :=
  match q.step with
  | .stop => .close
  | .close => if q.shutdown then .others else .checkpoint
  | .others => .checkpoint
  | .checkpoint => .park
  | .park => if q.shutdown then .detach else .complete
  | .complete => .detach
  | .detach => .consent
  | .consent => .consent

/-- The step in progress has ended (R185, R191). -/
def State.stepEnded (s : State) (q : Seq) : Bool :=
  match q.step with
  | .stop => !q.shutdown && s.jobs.all fun j => some j.id == q.job
  | .close => s.openStreams == 0
  | .others => s.allDown [2, 3] true
  | .checkpoint => q.ckpt != .waiting
  | .park => if q.shutdown then s.allDown [0, 1] true else s.allDown drives4 false
  | .complete => s.jobs.isEmpty
  | .detach => s.link.attach == .detached
  | .consent => false

/-- SLEEP's result (R186). -/
def State.sleepResult (s : State) (q : Seq) : Result :=
  let parked := drives4.foldl (fun (m : BitVec 4) d => if s.drives[d].power = .parked then m ||| (1#4 <<< d.val) else m) 0
  { status := if q.ckpt = .failed then .checkpointFailed else .ok
    w0 := BitVec.ofNat 32 q.closed
    w1 := match q.ckpt with
      | .none | .waiting => 0
      | .succeeded => 1
      | .failed => 2
    w2 := parked.setWidth 32 }

/-- A step of a sequence begins (R185, R186, R191). -/
def State.beginStep (s : State) (q : Seq) : State :=
  let x := q.nextStep
  let s := s.modSeq fun y => { y with step := x }
  match x with
  | .stop => s
  | .close => (s.modSeq fun y => { y with closed := s.openStreams }).closeAll
  | .others => s.parkDrives [2, 3] true
  | .checkpoint =>
    if q.shutdown then
      let e := s.exclusions
      s.seqCkpt (.shutdown e.1 e.2)
    else s.seqCkpt .sleep
  | .park => if q.shutdown then s.parkDrives [0, 1] true else s.parkDrives drives4 false
  | .complete =>
    match q.job with
    | some id => (s.modBox fun b => { b with consentWait := true }).complete id (s.sleepResult q)
    | none => s.modBox fun b => { b with consentWait := true }
  | .detach => s.detachChains
  | .consent =>
    if s.box.consentKept then s.enterSleep else s.modBox fun b => { b with consentTimer := true, consentWait := true }

/-! ## Alarms -/

/-- The slot fires at its evaluation (R30). -/
def Alarm.due (a : Alarm) (c : Clock) : Bool := a.enable && c.valid && a.time.toNat ≤ c.count.toNat

/-- A slot after its fire (R30): a one-shot slot is disabled; a repeating one takes the first time above the counter, or
is disabled at the last time it reached when that would pass 4,294,967,295. -/
def Alarm.afterFire (a : Alarm) (count : BitVec 32) : Alarm :=
  if a.period = 0 then { a with enable := false }
  else
    let k := (count.toNat - a.time.toNat) / a.period + 1
    if a.time.toNat + k * a.period ≤ 4294967295 then { a with time := BitVec.ofNat 32 (a.time.toNat + k * a.period) }
    else { a with time := BitVec.ofNat 32 (a.time.toNat + ((4294967295 - a.time.toNat) / a.period) * a.period), enable := false }

/-- PRESTART in RUN: a BULK start request for each drive of the mask that is UNPOWERED or PARKED (R31). -/
def State.prestart (s : State) (mask : BitVec 4) : State :=
  if mask = 0 then s
  else
    (drives4.foldl (fun s d =>
      if mask.getLsbD d.val ∧ (s.drives[d].power = .unpowered ∨ s.drives[d].power = .parked) then s.raiseDemand d .prestart
      else s) s).settle

/-- The actions of a firing slot (R31). -/
def State.alarmActions (s : State) (a : Alarm) : State :=
  let woke := a.wake && s.wakesBox .alarm
  let running := s.box.st == .run
  let s := if a.attention && running then s.setCause .alarm else s
  let s := if woke then s.enterWaking .alarm else s
  if !a.prestart then s
  else if running then s.prestart a.mask
  else if woke then s.modBox fun b => { b with keptPrestart := a.mask }
  else s

/-- A slot is evaluated (R30). -/
def State.evalAlarm (s : State) (n : Fin 4) : State :=
  let a := s.clock.alarms[n]
  if a.due s.clock then
    ({ s with clock := { s.clock with alarms := s.clock.alarms.set n (a.afterFire s.clock.count) } }).alarmActions a
  else s

/-- Every slot is evaluated, from slot 0 to slot 3. The manual gives no order: of two slots that fire together in SLEEP with WAKE
and PRESTART, the lower one wakes the box and its mask alone is kept (DESIGN CHOICE, notes/assumptions/62.md). -/
def State.evalAlarms (s : State) : State := drives4.foldl State.evalAlarm s

/-! ## Cold start -/

/-- A drive at cold start (R139). -/
def coldDrive (present : Bool) : Drive :=
  if present then { present := true, power := .unpowered } else {}

/-- The part right after a cold start (R189, R194): every field at its cold-start value, the first host rail on. The
command queue stands outside the part and is kept. -/
def coldState (present : BitVec 4) (mains low : Bool) : State :=
  { drives := Vector.ofFn fun d => coldDrive (present.getLsbD d.val)
    attn := if low then 0x808 else 0x800
    box := { supply := if mains then .mains else .battery, battLow := low, wakeReason := { cold := true }, rail1 := true } }

end Sys2Proof.Machine
end

