-- ==== Sys2Proof/Machine/BoxPower.lean ====
section
/-! DEFINITION. The commands of the chapter Box Power, Supply and Wake, and cold start. -/

namespace Sys2Proof.Machine

open Host (Outcome)

/-! ## Cold start -/

/-- COLD_START (R189, R194): whatever the part held is gone, and the first host rail goes on. -/
def execColdStart (present : BitVec 4) (mainsGood battLow : Bool) (s : State) : Outcome State Fault Refusal :=
  .next { coldState present mainsGood battLow with pending := s.pending, nextId := s.nextId, out := { acts := [.hostRail 0 true] } }

/-! ## Supply -/

/-- The supply that the mains-good line gives (R183). -/
def supplyOf (good : Bool) : Supply := if good then .mains else .battery

/-- The box at a switch-over (R183, R184, R187, R191). -/
def Box.switched (b : Box) (good : Bool) (stamp : BitVec 32) (start : HoldTimer) : Box :=
  { b with
    supply := supplyOf good
    switchTime := stamp
    hold := if b.st = .run then (if good then .stopped else start) else b.hold
    pendingMains := b.pendingMains || (good && b.seq.any fun q => q.shutdown) }

/-- A switch-over (R183, R184, R188). -/
def State.switchOver (s : State) (good : Bool) : State :=
  let t := (s.modBox fun b => b.switched good s.stamp s.cfg.holdStart).setCause .supply
  ((if good then t.wakeEvent .mains else t).settle).emergencyCheck

/-- SUPPLY_SWITCH_OVER (R183); a sample at which the line has not changed is no switch-over. -/
def execSupplySwitchOver (good : Bool) (s : State) : Outcome State Fault Refusal :=
  run s fun s => if s.box.supply = supplyOf good then s else s.switchOver good

/-- BATTERY_LOW_CHANGE (R15, R183, R184). -/
def execBatteryLowChange (low : Bool) (s : State) : Outcome State Fault Refusal :=
  run s fun s =>
    let t := s.modBox fun b => { b with battLow := low }
    (if low then t.setCause .batteryLow else t.clearCause .batteryLow).emergencyCheck

/-- The hold timer runs. -/
def HoldTimer.runs : HoldTimer → Bool
  | .running _ => true
  | .stopped | .expired => false

/-- HOLD_TIMER_EXPIRY (R184). -/
def execHoldTimerExpiry (s : State) : Outcome State Fault Refusal :=
  run s fun s => if s.box.hold.runs then (s.modBox fun b => { b with hold := .expired }).emergencyCheck else s

/-! ## Emergency shutdown -/

/-- DRAIN_TIMER_EXPIRY (R190). -/
def execDrainTimerExpiry (s : State) : Outcome State Fault Refusal :=
  run s fun s => if s.box.drain then s.abandonJobs.enterPowerDown else s

/-- SHUTDOWN_PHASE_STEP (R191, R192): the step in progress has ended and the next begins. -/
def execShutdownPhaseStep (s : State) : Outcome State Fault Refusal :=
  run s fun s =>
    match s.box.seq with
    | none => s
    | some q => if q.shutdown ∧ s.stepEnded q then (s.beginStep q).settle else s

/-! ## Sleep sequence -/

/-- SLEEP (R185). -/
def execSleep (s : State) : Outcome State Fault Refusal :=
  run s fun s =>
    match s.dispatched 0 with
    | some { id, req := .sleep, .. } =>
      if s.box.st ≠ .run then s.complete id (.refusal .wrongState)
      else
        ((s.setPhase id .sleeping).modBox fun b =>
          { b with st := .sleepPrep, hold := .stopped, seq := some { job := some id }, consentWait := false
                   consentKept := false }).stopChains
    | _ => s

/-- SLEEP_SEQUENCE_STEP (R185, R186): the step in progress has ended and the next begins. -/
def execSleepSequenceStep (s : State) : Outcome State Fault Refusal :=
  run s fun s =>
    match s.box.seq with
    | none => s
    | some q => if !q.shutdown ∧ s.stepEnded q then (s.beginStep q).settle else s

/-- CONSENT_TIMER_EXPIRY (R186, R187). -/
def execConsentTimerExpiry (s : State) : Outcome State Fault Refusal :=
  run s fun s => if s.box.consentTimer then s.enterSleep.settle else s

/-! ## Wake -/

/-- NETWORK_WAKE (R188). -/
def execNetworkWake (s : State) : Outcome State Fault Refusal := run s fun s => s.wakeEvent .network

/-- BUTTON_PRESS (R188). -/
def execButtonPress (s : State) : Outcome State Fault Refusal :=
  run s fun s => if s.box.st = .run then s.setCause .button else s.wakeEvent .button

/-- Entry into RUN (R189, R31, R184). -/
def State.enterRun (s : State) : State :=
  let t := s.modBox fun b =>
    { b with st := .run, keptPrestart := 0, hold := if b.supply = .battery then s.cfg.holdStart else .stopped }
  let t := if s.box.fromSleep then t.setCause .wake else t
  (t.prestart s.box.keptPrestart).emergencyCheck

/-- HOST_RAIL_STEP (R189): the second rail goes on, and after it the box enters RUN. -/
def execHostRailStep (s : State) : Outcome State Fault Refusal :=
  run s fun s =>
    if s.box.st ≠ .waking then s
    else if s.box.rail2 then s.enterRun
    else (s.modBox fun b => { b with rail2 := true }).emit (.hostRail 1 true)

end Sys2Proof.Machine
end

