-- ==== Sys2Proof/Machine/StreamJobs.lean ====
section
/-! DEFINITION. The commands of the chapters Chunk Boundaries and Fingerprints and Backup Streams. -/

namespace Sys2Proof.Machine

open Host (Outcome)

/-- When a checkpoint has been started, the start requests that it raised are looked at. -/
def State.afterCkpt (s s₀ : State) : State := if s.engine.ckpt.isSome ∧ s₀.engine.ckpt.isNone then s.settle else s

/-- The Catalogue Engine comes to its oldest request, which must satisfy `p` (R80). -/
def State.takeIf (s : State) (p : CatReq → Bool) : State :=
  match s.engine.requests with
  | q :: _ => if p q then s.takeHead.afterCkpt s else s
  | [] => s

/-! ## Jobs of a stream -/

/-- A job joins the tail of its stream's list (R48). -/
def State.joinList (s : State) (n : Fin 8) (id : Nat) (p : JobPhase) : State :=
  ((s.setPhase id p).modStream n fun x => { x with list := x.list ++ [id] }).settleStream n

/-- OPEN_STREAM (R48, R49). -/
def execOpenStream (s : State) : Outcome State Fault Refusal :=
  run s fun s =>
    match s.dispatched 2 with
    | some { id, req := .openStream n _ _ _ _ _, .. } =>
      if h : n < 8 then s.joinList ⟨n, h⟩ id .openListed else s.complete id (.refusal .badParam)
    | _ => s

/-- FEED (R48, R50). -/
def execFeed (s : State) : Outcome State Fault Refusal :=
  run s fun s =>
    match s.dispatched 2 with
    | some { id, req := .feed n len src recipe cap, .. } =>
      if h : n < 8 then
        if src = 0 ∨ len = 0 ∨ 2147483647 < len ∨ !goodAddr 32 recipe ∨ cap = 0 then s.complete id (.refusal .badParam)
        else s.joinList ⟨n, h⟩ id (.stream { stream := ⟨n, h⟩, recipe := recipe, capacity := cap, src := src, left := len })
      else s.complete id (.refusal .badParam)
    | _ => s

/-- CLOSE_STREAM (R48, R66). -/
def execCloseStream (s : State) : Outcome State Fault Refusal :=
  run s fun s =>
    match s.dispatched 2 with
    | some { id, req := .closeStream n recipe cap discard withSeal, .. } =>
      if h : n < 8 then
        if !goodAddr 32 recipe ∨ cap = 0 then s.complete id (.refusal .badParam)
        else
          (s.joinList ⟨n, h⟩ id
            (.stream { stream := ⟨n, h⟩, recipe := recipe, capacity := cap, discard := discard, withSeal := withSeal })).afterCkpt s
      else s.complete id (.refusal .badParam)
    | _ => s

/-! ## Source reads -/

/-- The active FEED of a stream that has not stopped taking bytes. -/
def State.activeFeed (s : State) (n : Fin 8) : Option (Nat × StreamWork) :=
  if s.streams[n].st = .feeding then
    match s.streams[n].active with
    | none => none
    | some id =>
      match s.work id with
      | some w => if w.stopped then none else some (id, w)
      | none => none
  else none

/-- SOURCE_READ_DONE (R35 to R39): the bytes join those that wait, and are taken one by one. -/
def execSourceReadDone (n : Fin 8) (bytes : List Byte) (s : State) : Outcome State Fault Refusal :=
  run s fun s =>
    match s.activeFeed n with
    | none => s
    | some (id, w) =>
      ((s.setPhase id (.stream { w with buf := w.buf ++ bytes.take (w.left - w.buf.length) })).settleStream n).afterCkpt s

/-- A source read of the active FEED ends in a bus error (R41, R51): the bytes delivered before it are still taken. -/
def State.sourceFault (s : State) (n : Fin 8) : State :=
  match s.activeFeed n with
  | none => s
  | some (id, w) =>
    ((s.setPhase id (.stream { w.meets .hostMemoryError with left := w.buf.length, stopped := w.buf.isEmpty })).settleStream n).afterCkpt s

/-- SOURCE_READ_BUS_ERROR (R41, R51). -/
def execSourceReadBusError (n : Fin 8) (s : State) : Outcome State Fault Refusal := run s fun s => s.sourceFault n

/-! ## Resolution -/

/-- RESOLUTION (R52). -/
def execResolution (s : State) : Outcome State Fault Refusal :=
  run s fun s => s.takeIf fun q => match q with | .resolution _ _ => true | _ => false

/-- COMPARE_VERDICT (R60). -/
def execCompareVerdict (s : State) : Outcome State Fault Refusal :=
  run s fun s => s.takeIf fun q => match q with | .verdict _ _ _ => true | _ => false

/-- WRITE_OUTCOME (R96, R97). -/
def execWriteOutcome (s : State) : Outcome State Fault Refusal :=
  run s fun s => s.takeIf fun q => match q with | .writeOutcome _ _ => true | _ => false

/-! ## Reference writes -/

/-- A FEED has stream bytes beyond a chunk (R54). -/
def State.moreBytes (s : State) (n : Fin 8) (c : Chunk) (w : StreamWork) : Bool :=
  w.left != 0 || laterChunks s.streams[n].window c.id || !s.streams[n].cur.isEmpty

/-- A chunk's reference has been delivered (R53, R54). -/
def State.refDelivered (s : State) (n : Fin 8) (c : Chunk) : State :=
  let t := s.modChunk n c.id fun c => { c with phase := .resolved }
  match c.owner with
  | none => t
  | some o =>
    match t.job o, t.work o with
    | some j, some w =>
      let w := { w with written := w.written + 1, consumed := w.consumed + c.own }
      if j.isFeed ∧ w.written = w.capacity ∧ t.moreBytes n c w then
        (t.setPhase o (.stream (w.stopTaking.meets .partialStop))).rewindAfter n c.id
      else t.setPhase o (.stream w)
    | _, _ => t

/-- A chunk's reference write met a bus error (R53). -/
def State.refFailed (s : State) (n : Fin 8) (c : Chunk) : State :=
  let t := s.modChunk n c.id fun c => { c with phase := .resolved, slot := none, mute := true }
  (t.rewindAfter n c.id).modOwner c.owner fun w => w.stopTaking.meets .hostMemoryError

/-- The chunk of a stream whose reference write is under way. -/
def State.referencing (s : State) (n : Fin 8) : Option Chunk := s.streams[n].window.find? fun c => c.phase == .referencing

/-- REFERENCE_WRITE_DONE (R53). -/
def execReferenceWriteDone (n : Fin 8) (ok : Bool) (s : State) : Outcome State Fault Refusal :=
  run s fun s =>
    match s.referencing n with
    | none => s
    | some c =>
      let t := if ok then s.refDelivered n c else s.refFailed n c
      ((t.tryFinish n c.id).settleStream n).afterCkpt s

/-- REFERENCE_REWRITE_DONE (R64). -/
def execReferenceRewriteDone (n : Fin 8) (chunk : Nat) (ok : Bool) (s : State) : Outcome State Fault Refusal :=
  run s fun s =>
    match s.chunkIn n chunk .rewriting with
    | none => s
    | some c =>
      match c.outcome with
      | none => s
      | some o =>
        let t := if ok then s else s.modOwner c.owner fun w => w.meets .hostMemoryError
        ((t.finishNow n c o).settleStream n).afterCkpt s

end Sys2Proof.Machine
end

