-- ==== Sys2Proof/Machine/CatalogueJobs.lean ====
section
/-! DEFINITION. The commands of the chapter The Chunk Catalogue: RETAIN and RELEASE. -/

namespace Sys2Proof.Machine

open Host (Outcome)

/-- The parameter checks of R82 and the catalogue check of R70, then the read of the list. -/
def State.startRefs (s : State) (id : Nat) (list : Addr) (count : Nat) : State :=
  if count = 0 ∨ 4096 < count ∨ !goodAddr 32 list then s.complete id (.refusal .badParam)
  else if s.cat.st ≠ .ready then s.complete id (.refusal .noCatalogue)
  else (s.setPhase id .refList).emit (.hostRead list (32 * count))

/-- RETAIN (R82, R70). -/
def execRetain (s : State) : Outcome State Fault Refusal :=
  run s fun s =>
    match s.dispatched 2 with
    | some { id, req := .retain list count, .. } => s.startRefs id list count
    | _ => s

/-- RELEASE (R82, R70). -/
def execRelease (s : State) : Outcome State Fault Refusal :=
  run s fun s =>
    match s.dispatched 2 with
    | some { id, req := .release list count, .. } => s.startRefs id list count
    | _ => s

/-- A job is a RETAIN, and how many references it names. -/
def Job.refCount (j : Job) : Bool × Nat :=
  match j.req with
  | .retain _ n => (true, n)
  | .release _ n => (false, n)
  | _ => (false, 0)

/-- The read of a reference list ends (R82). -/
def State.refListRead (s : State) (job : Nat) (r : Option (List Byte)) : State :=
  match s.job job with
  | none => s
  | some j =>
    if j.phase ≠ .refList then s
    else
      match r with
      | none => s.complete job (.refusal .hostMemoryError)
      | some b =>
        (s.setPhase job (.refs { refs := readRefs j.refCount.2 b })).request
          (if j.refCount.1 then .retainRef job else .releaseRef job)

/-- REFERENCE_LIST_READ_DONE (R82). -/
def execReferenceListReadDone (job : Nat) (r : Option (List Byte)) (s : State) : Outcome State Fault Refusal :=
  run s fun s => s.refListRead job r

/-- RETAIN_REFERENCE (R83). -/
def execRetainReference (s : State) : Outcome State Fault Refusal :=
  run s fun s => s.takeIf fun q => match q with | .retainRef _ => true | _ => false

/-- RELEASE_REFERENCE (R84). -/
def execReleaseReference (s : State) : Outcome State Fault Refusal :=
  run s fun s => s.takeIf fun q => match q with | .releaseRef _ => true | _ => false

end Sys2Proof.Machine
end

