-- ==== Sys2Proof/Machine/CheckpointJobs.lean ====
section
/-! DEFINITION. The commands of the chapter Checkpoint, Load and Format. -/

namespace Sys2Proof.Machine

open Host (Outcome)

/-! ## CHECKPOINT -/

/-- CHECKPOINT (R115). -/
def execCheckpoint (s : State) : Outcome State Fault Refusal :=
  run s fun s =>
    match s.dispatched 0 with
    | some { id, req := .checkpoint, .. } =>
      if s.cat.st ≠ .ready then s.complete id (.refusal .noCatalogue)
      else ((s.setPhase id .checkpointing).requestCkpt (.job id)).settle
    | _ => s

/-- The checkpoint may take the hold: as its next owner, or directly from the ADOPT that it serves (R87, R108). -/
def State.ckptMayHold (s : State) (c : Ckpt) : Bool :=
  c.asked && !c.writing && (s.mayHold .checkpoint || (s.engine.hold == some .adopt && c.reqs.contains .adopt))

/-- The checkpoint takes the hold and leaves the queue for it. -/
def State.ckptTakeHold (s : State) : State :=
  s.modEngine fun e => { e with hold := some .checkpoint, holdQueue := e.holdQueue.filter fun o => o != .checkpoint }

/-- The image write begins (R110): target, generation, image CRC and header time are fixed and each tried drive's
operations are queued. -/
def State.beginImage (s : State) (c : Ckpt) : State :=
  let x := s.cat.target
  let t := s.ckptTakeHold.modCkpt fun c =>
    { c with writing := true, target := x, gen := s.cat.generation, crc := s.cat.imageCrc, time := s.stamp }
  let t := if c.d0 = .prepared then t.ckptQueue x 0 else t
  if c.d1 = .prepared then t.ckptQueue x 1 else t

/-- CHECKPOINT_IMAGE_WRITE_BEGIN (R87, R110). -/
def execCheckpointImageWriteBegin (s : State) : Outcome State Fault Refusal :=
  run s fun s =>
    match s.engine.ckpt with
    | none => s
    | some c => if s.ckptMayHold c then s.beginImage c else s

/-! ## LOAD -/

/-- A drive is present, not FAILED and not READY. -/
def State.needsStart (s : State) (d : Fin 4) : Bool := s.drives[d].usable && s.drives[d].power != .ready

/-- LOAD (R117 step 1). -/
def execLoad (s : State) : Outcome State Fault Refusal :=
  run s fun s =>
    match s.dispatched 0 with
    | some { id, req := .load, .. } =>
      if s.cat.st ≠ .notLoaded then s.complete id (.refusal .wrongState)
      else
        let waiting := drives4.filter s.needsStart
        let t := (s.modCat fun c => { c with st := .loading }).setPhase id (.loading { waiting := waiting })
        (waiting.foldl (fun s d => s.raiseDemand d .load) t).settle
    | _ => s

/-- LOAD ends without a catalogue (R117, R118). -/
def State.unload (s : State) : State := { s with cat := {} }

/-- The label and header A reads of one READY drive are offered (R117 steps 2 and 4). The label reads of drives 2 and 3 are made
here, with those of step 2 (notes/assumptions/28.md). -/
def State.loadReads (p : State × LoadWork) (d : Fin 4) : State × LoadWork :=
  if p.1.drives[d].power = .ready then
    let s := p.1.offer d .bulk .labelRead 0 1 .loadLabel []
    match catIndex d with
    | some i => (s.offer d .bulk .areaRead 1024 1 (.loadHeader .a) [], p.2.putHdr .a i .underWay)
    | none => (s, p.2)
  else p

/-- LOAD_DRIVES_SETTLED (R117 steps 2 and 4). What a drive's power state is now decides, not that it became READY earlier (DESIGN
CHOICE, notes/assumptions/70.md). -/
def execLoadDrivesSettled (s : State) : Outcome State Fault Refusal :=
  run s fun s =>
    match s.loadJob with
    | none => s
    | some (id, w) =>
      if w.stage ≠ .starting ∨ w.waiting ≠ [] then s
      else if s.drives[0].power ≠ .ready ∧ s.drives[1].power ≠ .ready then s.unload.completeOpen id .driveUnavailable
      else
        let r := drives4.foldl State.loadReads (s, { w with stage := .headers })
        r.1.setPhase id (.loading r.2)

/-- A header put in the order in which headers are tried (R118): descending generation, drive 0 first on a tie. -/
def insertCandidate : List Candidate → Candidate → List Candidate
  | [], c => [c]
  | x :: l, c =>
    if x.hdr.generation.toNat < c.hdr.generation.toNat
        ∨ (x.hdr.generation = c.hdr.generation ∧ c.drive.val < x.drive.val) then c :: x :: l
    else x :: insertCandidate l c

/-- The headers that passed their check, in the order in which they are tried (R118). -/
def LoadWork.candidates (w : LoadWork) : List Candidate :=
  let one := fun (x : ImgSlot) (i : Fin 2) =>
    match w.passing x i with
    | some h => [({ drive := catDrive i, slot := x, hdr := h } : Candidate)]
    | none => []
  (one .a 0 ++ one .a 1 ++ one .b 0 ++ one .b 1).foldl insertCandidate []

/-- The geometry of a header. -/
def Header.geo (h : Header) : Geometry := { e := h.e, h := h.h, au := h.au, c := h.c }

/-- The next candidate's image is read, or no image is valid (R118). -/
def State.tryImage (s : State) (id : Nat) (w : LoadWork) : State :=
  match w.cands with
  | [] => s.unload.complete id { status := .noValidImage, w2 := BitVec.ofNat 32 w.passed }
  | c :: _ =>
    let runs := wholeRuns c.hdr.geo.pages
    let t := s.setPhase id (.loading { w with stage := .image, reads := runs.length, bytes := [], bad := false })
    runs.foldl
      (fun s r => s.offer c.drive .bulk .areaRead (c.hdr.geo.slotSector c.slot + 1 + r.1) r.2 .loadPage []) t

/-- No header read of LOAD is under way or to come. -/
def LoadWork.headersRead (w : LoadWork) : Bool :=
  w.stage == .headers && w.bAsked && w.a0 != .underWay && w.a1 != .underWay && w.b0 != .underWay && w.b1 != .underWay

/-- LOAD_HEADERS_READ (R118). -/
def execLoadHeadersRead (s : State) : Outcome State Fault Refusal :=
  run s fun s =>
    match s.loadJob with
    | none => s
    | some (id, w) =>
      if w.headersRead then s.tryImage id { w with cands := w.candidates, passed := w.candidates.length } else s

/-- A catalogue drive is in step for the loaded slot (R107). -/
def LoadWork.inStep (w : LoadWork) (c : Candidate) (i : Fin 2) : Bool :=
  match w.passing c.slot i with
  | some h => h.generation == c.hdr.generation && h.imageCrc == c.hdr.imageCrc
  | none => false

/-- A SEALED record with live 0 drains at the loaded generation (R92, R98), its page marked for both slots. -/
def Cat.drainLoaded (c : Cat) (d : Fin 4) : Cat := c.aus[d].foldl (fun c p => c.setAuTested d p.1 (c.au d p.1)) c

/-- The catalogue that LOAD leaves (R119). -/
def LoadWork.loaded (w : LoadWork) (c : Candidate) : Cat :=
  let g := c.hdr.geo
  let step := #v[w.inStep c 0, w.inStep c 1]
  let both := #v[true, true]
  let base : Cat :=
    { st := .ready, boxId := c.hdr.boxId, geo := g, index := imageIndex g w.bytes
      aus := Vector.ofFn fun d => imageAus g w.bytes d
      stale := #v[c.hdr.stale0, c.hdr.stale1], lastTime := c.hdr.time }
  let cat := match c.slot with
    | .a => { base with marksB := { all := true }, genA := c.hdr.generation, inStepA := step, inStepB := both }
    | .b => { base with marksA := { all := true }, genB := c.hdr.generation, inStepA := both, inStepB := step }
  drives4.foldl Cat.drainLoaded cat

/-- LOAD's result (R119). -/
def Candidate.result (c : Candidate) : Result :=
  { aux := c.slot.code, w0 := c.hdr.generation.setWidth 32, w1 := (c.hdr.generation >>> 32).setWidth 32
    w2 := BitVec.ofNat 32 c.drive.val }

/-- LOAD_IMAGE_READ_DONE (R118, R119). -/
def execLoadImageReadDone (s : State) : Outcome State Fault Refusal :=
  run s fun s =>
    match s.loadJob with
    | none => s
    | some (id, w) =>
      if w.stage ≠ .image ∨ w.reads ≠ 0 then s
      else
        match w.cands with
        | [] => s
        | c :: l =>
          if !w.bad ∧ crc32 w.bytes = c.hdr.imageCrc then { s with cat := w.loaded c }.complete id c.result
          else s.tryImage id { w with cands := l }

/-! ## FORMAT -/

/-- The checks of FORMAT in their order (R120). -/
def State.formatRefusal (s : State) (boxId : BitVec 64) (h : Nat) (force : Bool) : Option Status :=
  if boxId = 0 ∨ h = 0 ∨ 1024 < h then some .badParam
  else if !(s.cat.st == .notLoaded || (force && s.cat.st == .ready)) then some .wrongState
  else if s.openStreams ≠ 0
      ∨ (s.cat.st = .ready ∧ (s.inFlightOn 1 || s.inFlightOn 2 || s.inFlightOn 3) = true) then some .wrongState
  else if !s.drives[0].usable ∨ !s.drives[1].usable then some .driveUnavailable
  else none

/-- An operation of the repair worker, of a scrub step or of a checkpoint: these go with the catalogue. -/
def Owner.withCatalogue : Owner → Bool
  | .repairRead | .repairWrite | .scrubRead _ | .scrubRewrite _ | .scrubMirror | .checkpoint => true
  | .chunkCopy _ _ _ | .compare _ _ | .fetch _ _ | .blockRead _ | .blockWrite _ | .loadLabel | .loadHeader _ | .loadPage
  | .format | .adoptLabelRead | .adoptLabelWrite | .hostCopy | .tempPoll => false

/-- FORCE discards the working catalogue (R120, R69): every request in progress goes with it, the operations made for it leave
the lists without outcomes, those with a segment in flight among them (R138, R167), the repair list is emptied
and the repair worker stops. -/
def State.discardCatalogue (s : State) : State :=
  { (s.emptied fun o => o.owner.withCatalogue) with cat := {}, engine := {}, repair := {}, scrub := none }

/-- FORMAT (R120). -/
def execFormat (s : State) : Outcome State Fault Refusal :=
  run s fun s =>
    match s.dispatched 0 with
    | some { id, req := .format boxId h force, .. } =>
      match s.formatRefusal boxId h force with
      | some .driveUnavailable => s.completeOpen id .driveUnavailable
      | some x => s.complete id (.refusal x)
      | none =>
        let t := if s.cat.st = .ready then s.discardCatalogue else s
        let w : FormatWork :=
          { boxId := boxId, h := h, waiting := drives4.filter fun d => s.drives[d].usable && !s.drives[d].serving }
        ((drives4.filter s.needsStart).foldl (fun s d => s.raiseDemand d .format) (t.setPhase id (.formatting w))).settle
    | _ => s

/-- A_d of each drive slot at FORMAT (R89). -/
def State.formatAus (s : State) : Vector Nat 4 :=
  let cap := fun (d : Fin 4) => s.drives[d].capacity / 1024
  Vector.ofFn fun d => if s.drives[d].usable then cap d else min (cap 0) (cap 1)

/-- The geometry that FORMAT fixes (R89). -/
def State.formatGeo (s : State) (h : Nat) : Geometry :=
  { e := s.cfg.e, h := h, au := s.formatAus, c := slotAus s.cfg.e s.formatAus }

/-- A drive is below its minimum (R89, R120). -/
def State.formatTooSmall (s : State) (g : Geometry) : Bool :=
  g.au[0] < 2 * g.c + g.h + 2 || g.au[1] < 2 * g.c + g.h + 2
    || (s.drives[2].power == .ready && g.au[2] < 2) || (s.drives[3].power == .ready && g.au[3] < 2)

/-- One drive's label write is offered (R121). Drives 0 and 1 are written whatever their power state is now, drives 2 and 3 when
they are READY (DESIGN CHOICE, notes/assumptions/71.md). -/
def State.formatLabel (p : State × FormatWork) (d : Fin 4) : State × FormatWork :=
  if p.1.drives[d].power = .ready ∨ d.val < 2 then
    (p.1.offer d .bulk .labelWrite 0 1 .format (labelSector p.2.boxId d.val p.2.geo.au[d] p.2.time), p.2.put d .label)
  else p

/-- FORMAT_DRIVES_SETTLED (R89, R120, R121). -/
def execFormatDrivesSettled (s : State) : Outcome State Fault Refusal :=
  run s fun s =>
    match s.formatJob with
    | none => s
    | some (id, w) =>
      if w.writing ∨ w.waiting ≠ [] then s
      else if !s.drives[0].usable ∨ !s.drives[1].usable then s.completeOpen id .driveUnavailable
      else
        let g := s.formatGeo w.h
        if s.formatTooSmall g then s.completeOpen id .tooSmall
        else
          let r := drives4.foldl State.formatLabel (s, { w with writing := true, geo := g, time := s.stamp })
          r.1.setPhase id (.formatting r.2)

/-- The catalogue that FORMAT leaves (R121, R105 to R107). -/
def FormatWork.ready (w : FormatWork) : Cat :=
  { w.built with
    st := .ready, marksB := { all := true }, genA := 1, inStepA := #v[true, true], lastTime := w.time }

/-- FORMAT's result (R121). -/
def FormatWork.result (w : FormatWork) : Result :=
  { w0 := BitVec.ofNat 32 w.geo.c, w1 := BitVec.ofNat 32 (imageSectors w.geo.e w.geo.au), w2 := w.labelled.setWidth 32 }

/-- FORMAT_WRITES_DONE (R121). -/
def execFormatWritesDone (s : State) : Outcome State Fault Refusal :=
  run s fun s =>
    match s.formatJob with
    | none => s
    | some (id, w) =>
      if !w.writing ∨ (w.steps.toList.all FormatStep.over) = false then s
      else if w.steps[0] = .finished ∧ w.steps[1] = .finished then { s with cat := w.ready }.complete id w.result
      else s.completeOpen id .writeFailed

/-! ## Loss of power -/

/-- The part without power (R116): nothing that it held stays, and the command queue outside it is kept. -/
def State.dark (s : State) : State :=
  { coldState 0 true false with powered := false, pending := s.pending, nextId := s.nextId, box := {}, attn := 0 }

/-- LOSS_OF_POWER (R116): the part stops. -/
def execLossOfPower (s : State) : Outcome State Fault Refusal := .next s.dark

end Sys2Proof.Machine
end

