-- ==== Sys2Proof/Machine/ConfigClock.lean ====
section
/-! DEFINITION. The commands of the chapter Configuration and Timekeeping. -/

namespace Sys2Proof.Machine

open Host (Outcome)

/-! ## CONFIGURE -/

/-- CONFIGURE (R20). -/
def execConfigure (s : State) : Outcome State Fault Refusal :=
  run s fun s =>
    match s.dispatched 0 with
    | some { id, req := .configure block, .. } =>
      if block = 0 then s.complete id (.refusal .badParam) else (s.setPhase id .configRead).emit (.hostRead block 512)
    | _ => s

/-- A chain's poll timer at an installation (R6, R24). The timer of a STALLED chain whose take attempt is under way stays stopped;
it starts again, with the interval installed, when the attempt ends in STALLED (R7) (DESIGN CHOICE, notes/assumptions/81.md). -/
def pollRestart (poll : Option Nat) (x : Chain) : Chain := if x.st = .stalled ∧ x.take = .idle then { x with poll := poll } else x

/-- A drive's running timer and credit at an installation (R24). -/
def Drive.installed (x : Drive) (cfg : Cfg) (c : DriveCfg) : Drive :=
  { x with
    idle := if x.idle.isSome then (if c.idlePark = 0 then none else some c.idlePark) else none
    credit := min x.credit cfg.credit }

/-- A drive whose score is at or above the limit installed latches DEGRADED (R24, R177). -/
def State.limitCheck (s : State) (d : Fin 4) : State :=
  if s.cfg.mediaLimit ≤ s.drives[d].score ∧ !s.drives[d].degraded then s.latchDegraded d else s

/-- The installation moment (R23, R24). -/
def State.install (s : State) (cfg : Cfg) : State :=
  let t := { s with cfg := cfg }
  let t := { t with
    chains := t.chains.map (pollRestart t.pollStart)
    drives := Vector.ofFn fun d => t.drives[d].installed cfg cfg.drive[d] }
  (drives4.foldl State.limitCheck t).settle

/-- The CONFIGURE whose block is being read. -/
def State.configJob (s : State) : Option Nat :=
  s.jobs.findSome? fun j => if j.phase = .configRead then some j.id else none

/-- The read of the configuration block ends (R20 to R23). -/
def State.configRead (s : State) (r : Option (List Byte)) : State :=
  match s.configJob with
  | none => s
  | some id =>
    match r with
    | none => s.complete id (.refusal .hostMemoryError)
    | some b => (s.install (readCfg b).1).complete id (configureResult (readCfg b).2)

/-- CONFIG_BLOCK_READ_DONE (R20, R21, R22, R23, R24). -/
def execConfigBlockReadDone (r : Option (List Byte)) (s : State) : Outcome State Fault Refusal := run s fun s => s.configRead r

/-! ## Clock -/

/-- The counter set. -/
def State.setCount (s : State) (v : BitVec 32) : State := { s with clock := { s.clock with count := v } }

/-- CLOCK_TICK (R26, R30). -/
def execClockTick (s : State) : Outcome State Fault Refusal :=
  run s fun s => (s.setCount (s.clock.count + 1)).evalAlarms

/-- SET_CLOCK's result (R27). -/
def Clock.setResult (c : Clock) : Result := { aux := bitOf c.valid, w0 := c.count }

/-- SET_CLOCK (R27, R30): the counter and the flag are set, CLOCK_INVALID clears with the first completion write, and
every slot is evaluated. -/
def execSetClock (s : State) : Outcome State Fault Refusal :=
  run s fun s =>
    match s.dispatched 0 with
    | some { id, req := .setClock v, .. } =>
      let t := { s with clock := { s.clock with count := v, valid := true } }
      ((t.complete id s.clock.setResult).clearCause .clockInvalid).evalAlarms
    | _ => s

/-- A repeat period as SET_ALARM takes it (R29). -/
def clampPeriod (p : Nat) : Nat := if p = 0 then 0 else if p < 60 then 60 else if 2147483648 < p then 2147483648 else p

/-- The previous actions, mask and enable of a slot as result word 2 holds them (13, SET_ALARM). -/
def Alarm.word (a : Alarm) : Nat :=
  bitOf a.wake + 2 * bitOf a.prestart + 4 * bitOf a.attention + 256 * a.mask.toNat + 65536 * bitOf a.enable

/-- The contents that SET_ALARM installs (R29). -/
def newAlarm (actions mask : Byte) (enable : Bool) (time : BitVec 32) (period : Nat) : Alarm :=
  { time := time, period := clampPeriod period, wake := actions.getLsbD 0, prestart := actions.getLsbD 1
    attention := actions.getLsbD 2, mask := mask.setWidth 4, enable := enable }

/-- SET_ALARM's result (R29). -/
def Alarm.setResult (a : Alarm) (period : Nat) : Result :=
  let clamped := clampPeriod period != period
  { status := Status.when clamped .okClamped, aux := bitOf clamped, w0 := a.time, w1 := BitVec.ofNat 32 a.period
    w2 := BitVec.ofNat 32 a.word }

/-- SET_ALARM (R29, R30). -/
def execSetAlarm (s : State) : Outcome State Fault Refusal :=
  run s fun s =>
    match s.dispatched 0 with
    | some { id, req := .setAlarm slot actions mask enable time period, .. } =>
      if h : slot < 4 then
        let n : Fin 4 := ⟨slot, h⟩
        let t := { s with clock := { s.clock with alarms := s.clock.alarms.set n (newAlarm actions mask enable time period) } }
        (t.complete id (s.clock.alarms[n].setResult period)).evalAlarm n
      else s.complete id (.refusal .badParam)
    | _ => s

end Sys2Proof.Machine
end

