-- ==== Sys2Proof/Machine/DriveControl.lean ====
section
/-! DEFINITION. The six actions of DRIVE_CONTROL: START, PARK, POWER_OFF and CLEAR_FAULT (09), ADOPT and RESYNC (06). -/

namespace Sys2Proof.Machine

open Host (Outcome)

/-! ## Power actions -/

/-- START of a drive (R151); `fails` is what the job has counted since it was taken. -/
def State.startDrive (s : State) (id : Nat) (d : Fin 4) (fails : Nat) : State :=
  if !s.drives[d].usable then s.complete id (s.powerResult d .driveUnavailable fails)
  else if s.drives[d].power = .ready then s.complete id (s.powerResult d .ok fails)
  else ((s.setPhase id (.starting d)).raiseDemand d .start).settle

/-- DRIVE_CONTROL_START (R151). -/
def execDriveControlStart (s : State) : Outcome State Fault Refusal :=
  run s fun s =>
    match s.dispatched 0 with
    | some { id, req := .driveControl d 1, fails, .. } =>
      if h : d < 4 then s.startDrive id ⟨d, h⟩ fails else s.complete id (.refusal .badParam)
    | _ => s

/-- PARK or POWER_OFF of a drive by its power state (R151, R152); `fails` is what the job has counted since it was taken. -/
def State.parkDrive (s : State) (id : Nat) (d : Fin 4) (off : Bool) (fails : Nat) : State :=
  let pend := ((s.setPhase id (.parking d off)).setPark d { off := off, job := true }).settle
  if !s.drives[d].usable then s.complete id (s.powerResult d .driveUnavailable fails)
  else
    match s.drives[d].power with
    | .unpowered | .absent => s.complete id (s.powerResult d .ok fails)
    | .parked => if off then pend else s.complete id (s.powerResult d .ok fails)
    | .starting | .ready | .stopping => pend

/-- DRIVE_CONTROL_PARK (R152). -/
def execDriveControlPark (s : State) : Outcome State Fault Refusal :=
  run s fun s =>
    match s.dispatched 0 with
    | some { id, req := .driveControl d 2, fails, .. } =>
      if h : d < 4 then s.parkDrive id ⟨d, h⟩ false fails else s.complete id (.refusal .badParam)
    | _ => s

/-- DRIVE_CONTROL_POWER_OFF (R152). -/
def execDriveControlPowerOff (s : State) : Outcome State Fault Refusal :=
  run s fun s =>
    match s.dispatched 0 with
    | some { id, req := .driveControl d 3, fails, .. } =>
      if h : d < 4 then s.parkDrive id ⟨d, h⟩ true fails else s.complete id (.refusal .badParam)
    | _ => s

/-- A drive's health record after CLEAR_FAULT (R153, R174, R181). -/
def Drive.cleared (x : Drive) : Drive :=
  { x with causes := {}, degraded := false, noAnswer := 0, startFails := 0, score := 0, decay := none, identified := false }

/-- The latched faults of R174 as CLEAR_FAULT reports them: DEGRADED, FAILED, and its set of causes from bit 8 on. The manual
gives the word no layout; the bits stand as in bytes +4 and +5 of the drive's group of the status page (DESIGN CHOICE,
notes/assumptions/31.md). -/
def Drive.latched (x : Drive) : Nat := bitOf x.degraded + 2 * bitOf x.failed + 256 * x.causes.code

/-- CLEAR_FAULT's result (R153). -/
def Drive.clearResult (x : Drive) : Result :=
  { w0 := BitVec.ofNat 32 x.latched, w1 := BitVec.ofNat 32 x.startFails }

/-- CLEAR_FAULT (R153). -/
def execClearFault (s : State) : Outcome State Fault Refusal :=
  run s fun s =>
    match s.dispatched 0 with
    | some { id, req := .driveControl d 4, .. } =>
      if h : d < 4 then
        let n : Fin 4 := ⟨d, h⟩
        ((s.modDrive n Drive.cleared).settle).complete id s.drives[n].clearResult
      else s.complete id (.refusal .badParam)
    | _ => s

/-! ## ADOPT -/

/-- ADOPT's checks at its execution (R102). -/
def State.adoptRefusal (s : State) (d : Fin 4) : Option Status :=
  if s.cat.st ≠ .ready ∨ s.member d then some .wrongState
  else if !s.drives[d].usable then some .driveUnavailable
  else none

/-- ADOPT (R102). -/
def execAdopt (s : State) : Outcome State Fault Refusal :=
  run s fun s =>
    match s.dispatched 0 with
    | some { id, req := .driveControl d 5, .. } =>
      if h : d < 4 then
        match s.adoptRefusal ⟨d, h⟩ with
        | some x => s.complete id (.refusal x)
        | none => ((s.setPhase id (.adopting { drive := ⟨d, h⟩ })).raiseDemand ⟨d, h⟩ .adopt).settle
      else s.complete id (.refusal .badParam)
    | _ => s

/-- Every AU record of a drive slot that is not RESERVED becomes FREE (R103 step 1). -/
def Cat.resetSlot (c : Cat) (d : Fin 4) : Cat :=
  c.aus[d].foldl (fun c p => if p.2.st = .reserved then c else c.setAu d p.1 {}) c

/-- A copy on the drive that is not ABSENT. -/
def Copy.leaves (x : Copy) (d : Fin 4) : Bool := x.loc.drive == d && x.st != .absent

/-- An entry's copies on the drive made ABSENT. -/
def Entry.without (e : Entry) (d : Fin 4) : Entry :=
  let f := fun (x : Copy) => if x.leaves d then { x with st := CopyState.absent } else x
  { e with a := f e.a, b := e.b.map f }

/-- How many copies of an entry are on the drive and not ABSENT. -/
def Entry.onDrive (e : Entry) (d : Fin 4) : Nat := e.copies.countP fun p => p.2.leaves d

/-- One slot of ADOPT's walk (R103 step 2). -/
def State.adoptWalk (s : State) (d : Fin 4) (p : State × AdoptWork) (q : Nat × Entry) : State × AdoptWork :=
  let e := q.2
  let n := e.onDrive d
  if e.st = .pending ∨ n = 0 then p
  else
    let f := e.without d
    let dam := e.st == .live && (s.presentCopies f).isEmpty
    let g := if dam then { f with st := EntryState.damaged } else f
    (p.1.modCat fun c => c.setSlot q.1 (some g),
     { p.2 with absent := p.2.absent + n, damaged := p.2.damaged + bitOf dam })

/-- ADOPT's action up to its host-area copy or its checkpoint (R103 steps 1 to 4). -/
def State.adoptAct (s : State) (id : Nat) (w : AdoptWork) : State :=
  let d := w.drive
  let t := (s.takeHold .adopt).modDrive d fun x => { x with epoch := x.epoch + 1 }
  let t := t.modCat fun c => c.resetSlot d
  let r := t.cat.index.foldl (t.adoptWalk d)
    (t, { w with reset := s.cat.geo.au[d] - s.cat.geo.firstChunkAu d })
  match catIndex d with
  | some i => (r.1.setPhase id (.adopting { r.2 with stage := .copying })).beginCopy i
  | none => ((r.1.setPhase id (.adopting { r.2 with stage := .checkpointing })).requestCkptAdopt).dropStaleHold

/-- ADOPT_ACTION (R103). -/
def execAdoptAction (s : State) : Outcome State Fault Refusal :=
  run s fun s =>
    match s.adoptJob with
    | none => s
    | some (id, w) => if w.stage = .askingHold ∧ s.mayHold .adopt then (s.adoptAct id w).settle else s

/-! ## RESYNC -/

/-- RESYNC's checks (R104). -/
def State.resyncRefusal (s : State) (d : Nat) : Option Status :=
  if h : d < 2 then
    let n : Fin 4 := ⟨d, by omega⟩
    if s.cat.st ≠ .ready ∨ !s.member n then some .wrongState
    else if !s.drives[n].usable then some .driveUnavailable
    else none
  else some .badParam

/-- RESYNC (R104). -/
def execResync (s : State) : Outcome State Fault Refusal :=
  run s fun s =>
    match s.dispatched 0 with
    | some { id, req := .driveControl d 6, .. } =>
      match s.resyncRefusal d with
      | some x => s.complete id (.refusal x)
      | none =>
        let n : Fin 4 := Fin.ofNat 4 d
        ((s.setPhase id (.resyncing n .starting)).raiseDemand n .resync).settle
    | _ => s

end Sys2Proof.Machine
end

