-- ==== Sys2Proof/Machine/DrivePorts.lean ====
section
/-! DEFINITION. The commands of the chapters Drive Ports and Operation Lists and Drive Power and the Spin Budget that are
not jobs: offers, answers, timeouts, port resets, announcements, starts, idle parking and rail samples. -/

namespace Sys2Proof.Machine

open Host (Outcome)

/-! ## Offers -/

/-- An offer ends at once, with this outcome, or is placed or left waiting for room (R122, R125, R191). The manual does not say
which of R122 and R125 answers a bad range offered to a FAILED or ABSENT drive; the range is tested first (DESIGN CHOICE,
notes/assumptions/60.md). -/
def State.offerEnds (s : State) (d : Fin 4) (o : Op) : Option OpOutcome :=
  let x := s.drives[d]
  if o.badRange x.capacity then some (.error false)
  else if !x.usable then some .driveFailed
  else if x.power = .ready then none
  else if s.powerDown ∧ !s.ownCkptDrive d then some .notReady
  else if o.cls = .background ∧ !x.hasWork then some .notReady
  else none

/-- A drive's list with an operation placed, or with its producer waiting for room (R124 to R126). -/
def Drive.placed (x : Drive) (o : Op) : Drive :=
  if x.ops.length < 32 then { x with ops := placeOp x.ops o } else { x with room := placeOp x.room o }

/-- The Scheduler takes the oldest offer (R125). -/
def State.takeOffer (s : State) : State :=
  match s.offers with
  | [] => s
  | f :: l =>
    let t := { s with offers := l }
    match t.offerEnds f.drive f.op with
    | some r => (t.hand f.drive f.op r).settle
    | none => (t.modDrive f.drive fun x => x.placed f.op).settle

/-- OPERATION_OFFER (R122, R124, R125). -/
def execOperationOffer (s : State) : Outcome State Fault Refusal := run s fun s => s.takeOffer

/-! ## Endings of port commands -/

/-- The ending that an answer is. -/
def answerEnding : Answer → Ending
  | .done _ _ => .done
  | .mediaError => .media
  | .otherError => .other

/-- An operation's outcome when one of its segments ends other than DONE (R130). -/
def Ending.outcome : Ending → OpOutcome
  | .done => .done []
  | .media => .error true
  | .other => .error false
  | .noAnswer => .noAnswer

/-- A segment answered DONE with what it delivered (R128, R130). A withdrawn operation leaves with no outcome (R137); the kept label
still follows a LABEL_READ or LABEL_WRITE that the drive answered DONE (R90). -/
def State.segmentDone (s : State) (d : Fin 4) (o : Op) (data : List Byte) (value : Int) : State :=
  let o' := { o with segsDone := o.segsDone + 1, data := o.data ++ data }
  if o.withdrawn then (s.modDrive d fun x => x.dropOp o.id).labelOp d o (.done o'.data)
  else if o'.segsDone < o'.segments then s.modDrive d fun x => x.modOp o.id fun _ => { o' with st := .active }
  else
    let t := if o.kind = .tempPoll then s.modDrive d fun x => x.reading s.cfg value else s
    t.endOp d o' (.done o'.data)

/-- A segment's command ends. -/
def State.segmentEnds (s : State) (d : Fin 4) (id : Nat) (e : Ending) (data : List Byte) (value : Int) : State :=
  match s.drives[d].ops.find? fun o => o.id == id with
  | none => s
  | some o => if e = .done then s.segmentDone d o data value else s.endOp d o e.outcome

/-- A SET_FEATURE ends (R133). -/
def Drive.featureEnds (x : Drive) (e : Ending) : Drive :=
  match x.startup with
  | none => x
  | some u =>
    let bad := decide (e ≠ .done)
    { x with
      startup := some { u with todo := u.todo.tail, failed := u.failed || bad }
      setupIncomplete := x.setupIncomplete || bad }

/-- IDENTIFY ends (R134). -/
def Drive.identifyEnds (x : Drive) (e : Ending) (value : Int) : Drive :=
  if e = .done then
    { x with identified := true, capacity := value.toNat, startup := x.startup.map fun u => { u with stage := .label } }
  else { x with capacity := 0, setupIncomplete := true, startup := none }

/-- The start-up phase's LABEL_READ ends, and the phase with it (R90, R134). -/
def Drive.labelEnds (x : Drive) (e : Ending) (data : List Byte) : Drive :=
  if e = .done then { x with label := readLabel data, startup := none } else { x with startup := none }

/-- A STANDBY ends (R150). A drive that could not be parked is UNPOWERED, and a pending park or power-off is settled there, before
the Integrity Unit takes the ending (R132, R152). -/
def State.standbyEnds (s : State) (d : Fin 4) (e : Ending) : State :=
  if e = .done then s.modDrive d fun x => { x with power := .parked }
  else
    let t := s.powerOff d
    if s.drives[d].park.isSome then t.parkSettled d else t

/-- A port command ends: its user has the ending first (R132). -/
def State.useEnds (s : State) (d : Fin 4) (u : PortUse) (e : Ending) (data : List Byte) (value : Int) : State :=
  match u with
  | .segment id => s.segmentEnds d id e data value
  | .feature => s.modDrive d fun x => x.featureEnds e
  | .identify => s.modDrive d fun x => x.identifyEnds e value
  | .label => s.modDrive d fun x => x.labelEnds e data
  | .standby => s.standbyEnds d e
  | .wake => if e = .done then s.driveReady d else s.startFailed d

/-- The port is IDLE. -/
def State.portIdle (s : State) (d : Fin 4) : State := s.modDrive d fun x => { x with port := .idle }

/-- A port command ends: its user, then the Integrity Unit, then the credit and the next choice (R129, R131, R132). A port that
becomes idle with an empty list has its credit refilled also when the command was STANDBY or WAKE, which R135 says do not change
the credit (DESIGN CHOICE, notes/assumptions/72.md). -/
def State.commandEnds (s : State) (d : Fin 4) (u : PortUse) (e : Ending) (data : List Byte) (value : Int) : State :=
  ((((s.portIdle d).useEnds d u e data value).integrity d e).refill d).settle

/-- A port reset ends with no command to account for: the port is IDLE (R129, R131, R138). -/
def State.resetEnds (s : State) (d : Fin 4) : State := ((s.portIdle d).refill d).settle

/-- What an answer delivers. -/
def answerData : Answer → List Byte × Int
  | .done data value => (data, value)
  | .mediaError | .otherError => ([], 0)

/-- COMMAND_ANSWER (R131, R132); an answer to no outstanding command is discarded. -/
def execCommandAnswer (d : Fin 4) (a : Answer) (s : State) : Outcome State Fault Refusal :=
  run s fun s =>
    match s.drives[d].port with
    | .command u _ _ => s.commandEnds d u (answerEnding a) (answerData a).1 (answerData a).2
    | .idle | .resetting _ _ _ | .engineResetting => s

/-- The port begins a port reset (R131). -/
def State.portReset (s : State) (d : Fin 4) (u : PortUse) (c : DriveCmd) (retried : Bool) : State :=
  (s.modDrive d fun x => { x with port := .resetting u c retried }).emit (.portReset d)

/-- COMMAND_TIMEOUT (R131, R146): a WAKE's timeout is the start's timeout as well. -/
def execCommandTimeout (d : Fin 4) (s : State) : Outcome State Fault Refusal :=
  run s fun s =>
    match s.drives[d].port with
    | .command u c r =>
      if u = .wake then
        let t := (s.portIdle d).startFailed d
        (if t.drives[d].failed then t else t.portReset d u c r).settle
      else s.portReset d u c r
    | .idle | .resetting _ _ _ | .engineResetting => s

/-- The command is issued again once after NO_ANSWER and an answered port reset (R131). -/
def retries : PortUse → DriveCmd → Bool
  | .wake, _ => false
  | _, .write _ _ => false
  | _, _ => true

/-- PORT_RESET_ANSWERED (R131, R138). The second issue of a segment's command leaves the credit as it is: it is not the issue of a
segment that R129 counts (DESIGN CHOICE, notes/assumptions/82.md). -/
def execPortResetAnswered (d : Fin 4) (s : State) : Outcome State Fault Refusal :=
  run s fun s =>
    match s.drives[d].port with
    | .resetting u c r =>
      if u = .wake then s.resetEnds d
      else if retries u c ∧ !r then (s.modDrive d fun x => { x with port := .command u c true }).emit (.port d c)
      else s.commandEnds d u .noAnswer [] 0
    | .engineResetting => s.resetEnds d
    | .idle | .command _ _ _ => s

/-- PORT_RESET_TIMEOUT (R131, R138). -/
def execPortResetTimeout (d : Fin 4) (s : State) : Outcome State Fault Refusal :=
  run s fun s =>
    match s.drives[d].port with
    | .resetting u _ _ => if u = .wake then s.resetEnds d else s.commandEnds d u .noAnswer [] 0
    | .engineResetting => s.resetEnds d
    | .idle | .command _ _ _ => s

/-! ## Starts -/

/-- DRIVE_ANNOUNCE (R145): the answer of a drive whose rail was switched on; any other is discarded. -/
def execDriveAnnounce (d : Fin 4) (s : State) : Outcome State Fault Refusal :=
  run s fun s =>
    if s.drives[d].power = .starting ∧ !s.drives[d].fromParked then (s.driveReady d).settle else s

/-- START_TIMEOUT (R146). -/
def execStartTimeout (d : Fin 4) (s : State) : Outcome State Fault Refusal :=
  run s fun s =>
    if s.drives[d].power = .starting ∧ s.drives[d].startTimer.isSome then (s.startFailed d).settle else s

/-- IDLE_TIMER_EXPIRY (R149): a STANDBY request, or a held expiry while a TEMP_POLL is on the list. -/
def execIdleTimerExpiry (d : Fin 4) (s : State) : Outcome State Fault Refusal :=
  run s fun s =>
    if s.drives[d].idle.isNone then s
    else (s.modDrive d fun x => { x with idle := none, idleHeld := true }).settle

/-! ## Presence and rails -/

/-- The presence line of one bay as sampled (R140). -/
def State.samplePresence (s : State) (present : BitVec 4) (d : Fin 4) : State :=
  let x := s.drives[d]
  if present.getLsbD d.val then
    (if x.power = .absent then s.modDrive d fun x => { x with present := true, power := .unpowered } else s)
  else if x.power = .absent then s
  else s.removeDrive d

/-- The rail current of one bay as sampled (R154). -/
def Drive.sampled (x : Drive) (cfg : Cfg) (current : Nat) : Drive :=
  if x.power = .unpowered ∧ !x.failed then
    { x with railGrace := if cfg.leak ≤ current then (if x.railGrace.isSome then x.railGrace else some cfg.railGrace) else none }
  else { x with railGrace := none }

/-- RAIL_SAMPLE (R140, R154). The presence lines are taken first, and the current of a drive that the same sample makes UNPOWERED is
compared (DESIGN CHOICE, notes/assumptions/79.md). -/
def execRailSample (current : Vector Nat 4) (present : BitVec 4) (s : State) : Outcome State Fault Refusal :=
  run s fun s =>
    let t := drives4.foldl (fun s d => s.samplePresence present d) s
    { t with drives := Vector.ofFn fun d => t.drives[d].sampled s.cfg current[d] }.settle

/-- RAIL_GRACE_EXPIRY (R154, R179). -/
def execRailGraceExpiry (d : Fin 4) (s : State) : Outcome State Fault Refusal :=
  run s fun s =>
    if s.drives[d].railGrace.isNone then s
    else ((s.modDrive d fun x => { x with railGrace := none }).latchFailed d .rail s.drives[d].power).settle

end Sys2Proof.Machine
end

