-- ==== Sys2Proof/Machine/JobChains.lean ====
section
/-! DEFINITION. The commands of the chapter Job Chains and the Status Page: attach, take attempts, completion, the status
page, stops and resets, and the register window. -/

namespace Sys2Proof.Machine

open Host (Outcome)

/-! ## Attach -/

/-- An attach request is taken (R1). -/
def State.attachRequest (s : State) (v : Addr) : State :=
  if v = 0 ∨ s.link.attach ≠ .detached ∨ s.box.st ≠ .run then s
  else if v.toNat % 64 = 0 then
    { s with link := { s.link with attach := .attaching, stage := .readingSetup, setupAddr := v } }.emit (.hostRead v 64)
  else s.attachFail

/-- SETUP_ADDR_WRITE (R1). -/
def execSetupAddrWrite (v : BitVec 64) (s : State) : Outcome State Fault Refusal := run s fun s => s.attachRequest v

/-- A chain's context at attach (R3). -/
def startChain (root : Addr) : Chain := { anchor := root, st := if goodAddr 64 root then .running else .faulted }

/-- Every field of the status page is written (R2, R18, R197): what the page holds is forgotten, so that every field counts as
changed. -/
def State.writePage (s : State) : State :=
  { s with out := { s.out with acts := s.out.acts ++ [.pageZeroUnused], notes := s.out.notes ++ [[], s.pageFields] } }

/-- The read of the setup block ends (R1, R2): the attach fails, or the full status page write begins. -/
def State.setupRead (s : State) (r : Option (List Byte)) : State :=
  if s.link.attach ≠ .attaching ∨ s.link.stage ≠ .readingSetup then s
  else
    match r with
    | none => s.attachFail
    | some b =>
      if goodAddr 4096 (setupPage b) then
        { s with
          chains := Vector.ofFn fun c => startChain (setupRoot b c)
          link := { s.link with stage := .writingPage, pageAddr := setupPage b } }.writePage
      else s.attachFail

/-- SETUP_BLOCK_READ_DONE (R1). -/
def execSetupBlockReadDone (r : Option (List Byte)) (s : State) : Outcome State Fault Refusal := run s fun s => s.setupRead r

/-- The four chains. -/
def chains4 : List (Fin 4) := [0, 1, 2, 3]

/-- STATUS_PAGE_FULL_WRITE_DONE (R2, R3): ATTACHED; each chain that did not start FAULTED makes its first take attempt. -/
def execStatusPageFullWriteDone (s : State) : Outcome State Fault Refusal :=
  run s fun s =>
    if s.link.attach ≠ .attaching ∨ s.link.stage ≠ .writingPage then s
    else
      let t := { s with link := { s.link with attach := .attached, stage := .idle } }
      let t := if chains4.any fun c => s.chains[c].st == .faulted then t.setCause .chainFault else t
      chains4.foldl State.tryTake t

/-! ## Take attempts -/

/-- A NUDGE bit acts on its chain (R7). -/
def State.nudgeChain (s : State) (v : BitVec 64) (c : Fin 4) : State :=
  let x := s.chains[c]
  if v.getLsbD c.val ∧ (x.st = .stalled ∨ x.st = .faulted) then
    (if x.take = .idle then s.takeAttempt c else s.modChain c fun x => { x with again := some .nudge })
  else s

/-- NUDGE (R7, R18): take attempts on the STALLED and FAULTED chains named, and the rewrite of a page in error. -/
def execNudge (v : BitVec 64) (s : State) : Outcome State Fault Refusal :=
  run s fun s =>
    if s.link.attach ≠ .attached then s
    else
      let t := chains4.foldl (fun s c => s.nudgeChain v c) s
      if t.link.pageError ∧ !t.link.rewriting then { t with link := { t.link with rewriting := true } }.writePage else t

/-- The read of the anchor's link ends (R4 steps 1 to 3); the link's 8 bytes are little-endian (R195). -/
def State.linkRead (s : State) (c : Fin 4) (r : Option (List Byte)) : State :=
  if s.chains[c].take ≠ .linkRead then s
  else
    match r with
    | none => s.failTake c
    | some b =>
      let link := recordLink b
      if link = 0 then s.stallTake c
      else if link.toNat % 64 = 0 then (s.modChain c fun x => { x with take := .recordRead link }).emit (.hostRead link 64)
      else s.failTake c

/-- ANCHOR_LINK_READ_DONE (R4). -/
def execAnchorLinkReadDone (c : Fin 4) (r : Option (List Byte)) (s : State) : Outcome State Fault Refusal :=
  run s fun s => s.linkRead c r

/-- The read of the linked record ends (R4 steps 4 to 6). -/
def State.recordRead (s : State) (c : Fin 4) (r : Option (List Byte)) : State :=
  match s.chains[c].take with
  | .recordRead link =>
    match r with
    | none => s.failTake c
    | some b =>
      if recordPosted b then
        (s.modChain c fun x => { x with take := .takenWrite link b }).emit (.hostWrite (link + 9) [2])
      else s.stallTake c
  | .idle | .linkRead | .takenWrite _ _ => s

/-- JOB_RECORD_READ_DONE (R4). -/
def execJobRecordReadDone (c : Fin 4) (r : Option (List Byte)) (s : State) : Outcome State Fault Refusal :=
  run s fun s => s.recordRead c r

/-- What dispatch answers at once (R5): BAD_KIND for a kind that the chain does not accept, and BAD_PARAM for a
DRIVE_CONTROL whose action code names none of the six actions (R151). -/
def dispatchRefusal (c : Fin 4) (b : List Byte) : Option Status :=
  match parseJob b with
  | none => some .badKind
  | some q =>
    if q.chain ≠ c then some .badKind
    else
      match q with
      | .driveControl _ a => if 1 ≤ a ∧ a ≤ 6 then none else some .badParam
      | _ => none

/-- Dispatch of the record `b` at `link` (R5). -/
def State.dispatch (s : State) (c : Fin 4) (link : Addr) (b : List Byte) : State :=
  let j : Job :=
    { id := s.nextId, chain := c, record := link, notify := recordNotify b, req := (parseJob b).getD .load, phase := .dispatched }
  let t := { s with jobs := s.jobs ++ [j], nextId := s.nextId + 1 }
  match dispatchRefusal c b with
  | some x => t.complete j.id (.refusal x)
  | none => t

/-- TAKEN_WRITE_DONE (R4 steps 6 and 7, R5). -/
def execTakenWriteDone (c : Fin 4) (ok : Bool) (s : State) : Outcome State Fault Refusal :=
  run s fun s =>
    match s.chains[c].take with
    | .takenWrite link b =>
      if !ok then s.failTake c
      else
        let t := s.modChain c fun x =>
          { x with
            anchor := link, taken := x.taken + 1, inFlight := x.inFlight + 1, take := .idle, poll := none, again := none
            st := if x.faultedMeanwhile then .faulted else .running, faultedMeanwhile := false }
        let t := t.dispatch c link b
        if s.chains[c].faultedMeanwhile ∧ s.chains[c].again = some .nudge then t.takeAttempt c else t.tryTake c
    | .idle | .linkRead | .recordRead _ => s

/-- CHAIN_POLL_TIMER_EXPIRY (R6). -/
def execChainPollTimerExpiry (c : Fin 4) (s : State) : Outcome State Fault Refusal :=
  run s fun s =>
    let x := s.chains[c]
    if x.st ≠ .stalled then s
    else if x.take ≠ .idle then
      (if s.cfg.poll = 0 ∨ x.again.isSome then s else s.modChain c fun x => { x with again := some .poll })
    else if x.poll.isSome then s.takeAttempt c
    else s

/-! ## Completion -/

/-- A job that has ended leaves its chain: what its chain, a detach and a drain then do (R4, R11, R190). -/
def State.jobLeft (s : State) (c : Fin 4) : State := (s.tryTake c).detachIfIdle.drainCheck

/-- COMPLETION_WRITE_DELIVERED (R8). -/
def execCompletionWriteDelivered (job : Nat) (s : State) : Outcome State Fault Refusal :=
  run s fun s =>
    match s.job job with
    | none => s
    | some j =>
      match j.phase with
      | .writingResults r => (s.setPhase job (.writingDone r)).emit (.hostWrite (j.record + 9) [3])
      | .writingDone _ =>
        let t := ((s.dropJob job).leaveChain j.chain).modChain j.chain fun x => { x with done := x.done + 1 }
        (if j.notify then t.setCause .jobNotify else t).jobLeft j.chain
      | _ => s

/-- The chain of a job whose completion write failed (R9): FAULTED, but for a chain already STOPPED, which stays so. -/
def faultByCompletion (x : Chain) : Chain :=
  if x.st = .stopped then x
  else { x with st := .faulted, poll := none, faultedMeanwhile := x.take != .idle }

/-- COMPLETION_FAULT (R9, R10). -/
def execCompletionFault (job : Nat) (s : State) : Outcome State Fault Refusal :=
  run s fun s =>
    match s.job job with
    | none => s
    | some j =>
      match j.phase with
      | .writingResults _ | .writingDone _ =>
        let t := ((s.dropJob job).leaveChain j.chain).modChain j.chain faultByCompletion
        ((t.setCause .chainFault).detachIfIdle).drainCheck
      | _ => s

/-! ## Status page errors -/

/-- STATUS_PAGE_WRITE_ERROR (R18, R2): the error of a write issued before the part became DETACHED sets CHAIN_FAULT, and the
page error flag, cleared then, stays clear; one that comes while a later attach writes its page in full cannot be told from an
error of that full write and fails that attach (DESIGN CHOICE, notes/assumptions/58.md). -/
def execStatusPageWriteError (s : State) : Outcome State Fault Refusal :=
  run s fun s =>
    match s.link.attach with
    | .detached => s.setCause .chainFault
    | .attaching => if s.link.stage = .writingPage then s.attachFail else s.setCause .chainFault
    | .attached | .detaching => { s with link := { s.link with pageError := true } }.setCause .chainFault

/-- STATUS_PAGE_REWRITE_DONE (R18). -/
def execStatusPageRewriteDone (allDelivered : Bool) (s : State) : Outcome State Fault Refusal :=
  run s fun s =>
    if !s.link.rewriting then s
    else if allDelivered then { s with link := { s.link with rewriting := false, pageError := false } }
    else { s with link := { s.link with rewriting := false } }.setCause .chainFault

/-! ## Stops and resets -/

/-- DETACH (R11, R14). -/
def execDetach (s : State) : Outcome State Fault Refusal := run s fun s => s.detachChains

/-- A drive's port is reset by ENGINE_RESET (R138). -/
def Power.resetsPort : Power → Bool
  | .ready | .starting | .stopping => true
  | .absent | .unpowered | .parked => false

/-- A drive after ENGINE_RESET (R90, R138, R148, R149, R154, R174). A port still RESETTING after a WAKE's timeout, whose drive is
PARKED again, is given no port reset by R138: it is IDLE at once, as every such port, and the reset in progress is dropped (DESIGN
CHOICE, notes/assumptions/83.md). -/
def Drive.engineReset (x : Drive) (credit : Nat) : Drive :=
  { x with
    label := none, identified := false, ops := [], room := [], credit := credit, startup := none, demands := [], park := none
    noAnswer := 0, startFails := 0, railGrace := none, idle := none, idleCond := false, idleHeld := false
    port := if x.power.resetsPort then .engineResetting else .idle
    wakeAsked := x.power == .starting && x.fromParked
    standbyAsked := x.power == .stopping }

/-- The sequence in progress after ENGINE_RESET (R193): its job is abandoned and an abandoned checkpoint has failed. -/
def Seq.engineReset (q : Seq) : Seq :=
  { q with job := none, ckpt := if q.ckpt = .waiting then .failed else q.ckpt }

/-- The parks and power-offs of the sequence's step are made again (R193). -/
def State.remakeParks (s : State) : State :=
  match s.box.seq with
  | none => s
  | some q =>
    match q.step with
    | .others => s.parkDrives [2, 3] true
    | .park => if q.shutdown then s.parkDrives [0, 1] true else s.parkDrives drives4 false
    | .stop | .close | .checkpoint | .complete | .detach | .consent => s

/-- What ENGINE_RESET leaves of every block. -/
def State.engineReset (s : State) : State :=
  let missed := s.box.seq.any fun q => q.shutdown && q.ckpt == .waiting
  let t := s.detachNow
  let t := { t with
    jobs := [], offers := [], startQueue := [], streams := Vector.replicate 8 {}, cat := {}, engine := {}, repair := {}
    scrub := none
    drives := t.drives.map fun (x : Drive) => x.engineReset s.cfg.credit }
  let t := t.emits ((drives4.filter fun d => s.drives[d].power.resetsPort).map fun d => .portReset d)
  let t := t.modBox fun b => { b with seq := b.seq.map Seq.engineReset, consentWait := b.consentWait || b.seq.isSome }
  (if missed then t.setCause .checkpointMissed else t).remakeParks.settle

/-- ENGINE_RESET (R12, R14, R33, R47, R69, R90, R138, R148, R167, R173, R174, R193). -/
def execEngineReset (s : State) : Outcome State Fault Refusal := run s fun s => s.engineReset

/-- POWER_CONSENT (R14, R186, R190). -/
def execPowerConsent (s : State) : Outcome State Fault Refusal :=
  run s fun s =>
    match s.box.seq with
    | none => s
    | some q =>
      if !s.box.consentWait then s
      else if q.step = .consent then s.enterSleep.settle
      else s.modBox fun b => { b with consentKept := true }

/-! ## Registers -/

/-- ATTN_WRITE (R15). -/
def execAttnWrite (v : BitVec 64) (s : State) : Outcome State Fault Refusal :=
  run s fun s => { s with attn := attnAfterWrite s.attn v }

/-- ATTN_EN_WRITE (R16). -/
def execAttnEnWrite (v : BitVec 64) (s : State) : Outcome State Fault Refusal :=
  run s fun s => { s with attnEn := v.setWidth 12 }

/-- REGISTER_WRITE_IGNORED (R13): the access completes and changes nothing. -/
def execRegisterWriteIgnored (_offset _width : Nat) (_v : BitVec 64) (s : State) : Outcome State Fault Refusal :=
  run s fun s => s

end Sys2Proof.Machine
end

