-- ==== Sys2Proof/Machine/SharedReads.lean ====
section
/-! DEFINITION. The commands of the chapter Shared Reads and Copy Repair: FETCH, the host area and the repair worker. -/

namespace Sys2Proof.Machine

open Host (Outcome)

/-! ## FETCH -/

/-- FETCH (R155, R70). -/
def execFetch (s : State) : Outcome State Fault Refusal :=
  run s fun s =>
    match s.dispatched 1 with
    | some { id, req := .fetch list count capacity dest, .. } =>
      if count = 0 ∨ 4096 < count ∨ !goodAddr 32 list ∨ dest = 0 ∨ capacity = 0 then s.complete id (.refusal .badParam)
      else if s.cat.st ≠ .ready then s.complete id (.refusal .noCatalogue)
      else (s.setPhase id .fetchList).emit (.hostRead list (32 * count))
    | _ => s

/-- The references that a FETCH serves, with their offsets (R156): the longest prefix whose lengths add up to at most the
capacity. -/
def servedPrefix (capacity : Nat) : List Ref → Nat → List FetchRef
  | [], _ => []
  | r :: l, offset =>
    if offset + r.key.len ≤ capacity then { ref := r, offset := offset } :: servedPrefix capacity l (offset + r.key.len) else []

/-- The parameters of a FETCH: references, capacity and destination. -/
def JobReq.fetchParams : JobReq → Nat × Nat × Addr
  | .fetch _ count capacity dest => (count, capacity, dest)
  | _ => (0, 0, 0)

/-- A reference length that completes the FETCH with BAD_PARAM (R155). -/
def badLength (r : Ref) : Bool := r.key.len == 0 || 1048576 < r.key.len

/-- The progress of a FETCH once its list has been read (R156). -/
def startFetch (refs : List Ref) (capacity : Nat) (dest : Addr) : FetchWork :=
  let served := servedPrefix capacity refs 0
  { dest := dest, refs := served, status := Status.when (served.length < refs.length) .partialStop }

/-- The FETCH list read ends (R155 to R157): the prefix is looked up in list order. -/
def State.fetchListRead (s : State) (job : Nat) (r : Option (List Byte)) : State :=
  match s.job job with
  | none => s
  | some j =>
    if j.phase ≠ .fetchList then s
    else
      match r with
      | none => s.complete job (.refusal .hostMemoryError)
      | some b =>
        let p := j.req.fetchParams
        let refs := readRefs p.1 b
        if refs.any badLength then s.complete job (.refusal .badParam)
        else
          let w := startFetch refs p.2.1 p.2.2
          if w.refs.isEmpty then s.complete job w.result
          else (List.range w.refs.length).foldl (fun s i => s.fetchLookup job i) (s.setPhase job (.fetching w))

/-- FETCH_LIST_READ_DONE (R155 to R157). -/
def execFetchListReadDone (job : Nat) (r : Option (List Byte)) (s : State) : Outcome State Fault Refusal :=
  run s fun s => s.fetchListRead job r

/-- BAD_READ_REPORT (R159, R160, R77). -/
def execBadReadReport (s : State) : Outcome State Fault Refusal :=
  run s fun s => s.takeIf fun q => match q with | .badCopy _ _ _ _ | .damage _ _ => true | _ => false

/-- The destination write of a BLOCK_READ ends (R163): after a bus error word 0 and word 2 are 0, and word 1 and aux have
no stated value. -/
def State.blockDelivered (s : State) (job : Nat) (r : Result) (ok : Bool) : State :=
  if ok then s.complete job r
  else
    s.bump.complete job
      { status := .hostMemoryError, aux := (Config.openWord (4 * s.nextId)).toNat % 65536, w1 := Config.openWord (4 * s.nextId + 1) }

/-- DESTINATION_WRITE_DONE (R156, R161, R163). -/
def execDestinationWriteDone (job ref : Nat) (ok : Bool) (s : State) : Outcome State Fault Refusal :=
  run s fun s =>
    match s.job job with
    | none => s
    | some j =>
      match j.phase with
      | .fetching _ => s.fetchWritten job ref ok
      | .blockDelivering r => s.blockDelivered job r ok
      | _ => s

/-! ## The host area -/

/-- A count or address that a host-area job refuses (R162). -/
def badBlock (count : Nat) (a : Addr) : Bool := count == 0 || 256 < count || a == 0

/-- The checks of BLOCK_WRITE and BLOCK_READ (R162, R163, R70); H is known only while the catalogue is READY. -/
def State.blockRefusal (s : State) (first count : Nat) (a : Addr) : Option Status :=
  if badBlock count a then some .badParam
  else if s.cat.st ≠ .ready then some .noCatalogue
  else if s.cat.geo.h * 1024 < first + count then some .badParam
  else none

/-- BLOCK_WRITE (R162). -/
def execBlockWrite (s : State) : Outcome State Fault Refusal :=
  run s fun s =>
    match s.dispatched 2 with
    | some { id, req := .blockWrite first count src, .. } =>
      match s.blockRefusal first count src with
      | some x => s.complete id (.refusal x)
      | none => (s.setPhase id (.blockWriting { first := first, count := count })).emit (.hostRead src (4096 * count))
    | _ => s

/-- The BLOCK_WRITE source read ends (R162). -/
def State.blockSourceRead (s : State) (job : Nat) (r : Option (List Byte)) : State :=
  match s.job job with
  | none => s
  | some j =>
    match j.phase with
    | .blockWriting w =>
      if w.ready then s
      else
        match r with
        | none => (s.complete job (.refusal .hostMemoryError)).blockOffers
        | some b => (s.setPhase job (.blockWriting { w with ready := true, data := padTo (4096 * w.count) b })).blockOffers
    | _ => s

/-- BLOCK_SOURCE_READ_DONE (R162). -/
def execBlockSourceReadDone (job : Nat) (r : Option (List Byte)) (s : State) : Outcome State Fault Refusal :=
  run s fun s => s.blockSourceRead job r

/-- BLOCK_READ's first choice (R163): the drive picked, with its flag and the other candidate. -/
def State.blockStart (s : State) (id first count : Nat) (dest : Addr) : State :=
  let l := s.blockCandidates
  match s.blockPick l with
  | none => s.complete id (.refusal .driveUnavailable)
  | some i =>
    s.blockOffer id
      { first := first, count := count, dest := dest, drive := catDrive i, stale := s.cat.stale[i]
        others := (l.filter fun j => j != i).map catDrive }

/-- BLOCK_READ (R163). -/
def execBlockRead (s : State) : Outcome State Fault Refusal :=
  run s fun s =>
    match s.dispatched 1 with
    | some { id, req := .blockRead first count dest, .. } =>
      match s.blockRefusal first count dest with
      | some x => s.complete id (.refusal x)
      | none => s.blockStart id first count dest
    | _ => s

/-! ## The repair worker -/

/-- What the worker's test finds for an entry of the repair list (R165). -/
inductive RepairTest where
  | remove
  | keep
  | take (src : Loc)
  deriving DecidableEq, Repr

/-- The source of a repair is usable: GOOD and present, on a READY drive past its start-up phase, with a READY placement
candidate apart from it (R165). -/
def State.repairSource (s : State) (x : Copy) (len : Nat) : Bool :=
  x.st == .good && s.present x && s.drives[x.loc.drive].serving && (s.bestCandidate (sectorsOf len) [x.loc.drive] true).isSome

/-- The worker's test of a list entry (R165). An entry whose other copy is ABSENT has a second copy that is not eligible, and the
list entry stays (DESIGN CHOICE, notes/assumptions/73.md). -/
def State.testRepair (s : State) (r : RepairEntry) : RepairTest :=
  match s.cat.entry r.slot with
  | none => .remove
  | some e =>
    if e.key ≠ r.key then .remove
    else if e.st = .pending then .keep
    else
      match s.cat.standing r.slot r.key r.copy r.loc, e.copy r.copy, e.copy r.copy.other with
      | some _, some x, some y =>
        if r.reason = .missing ∧ s.present x then .remove
        else if s.repairSource y e.key.len then .take y.loc
        else .keep
      | _, _, _ => .remove

/-- The oldest eligible entry with its source, and the list without the entries that the test removed on the way. -/
def State.scanRepairs (s : State) : List RepairEntry → List RepairEntry × Option (RepairEntry × Loc)
  | [] => ([], none)
  | r :: l =>
    match s.testRepair r with
    | .remove => s.scanRepairs l
    | .keep => (r :: (s.scanRepairs l).1, (s.scanRepairs l).2)
    | .take src => (r :: l, some (r, src))

/-- The worker takes new list entries: not while it works on one, and not during the sleep sequence (R165, R185). -/
def State.repairMayTake (s : State) : Bool := s.repair.worker == .idle && !s.box.seq.any fun q => !q.shutdown

/-- REPAIR_TAKE (R165, R166). -/
def execRepairTake (s : State) : Outcome State Fault Refusal :=
  run s fun s =>
    if s.repairMayTake then
      let p := s.scanRepairs s.repair.list
      let t := { s with repair := { s.repair with list := p.1 } }
      match p.2 with
      | none => t
      | some (r, src) =>
        (t.setWorker (.reading r src)).offer src.drive .background .chunkRead src.sector (sectorsOf r.key.len) .repairRead []
    else s

/-- REPAIR_PLACEMENT (R166). -/
def execRepairPlacement (s : State) : Outcome State Fault Refusal :=
  run s fun s => s.takeIf fun q => q == .repairPlacement

/-- REPAIR_UPDATE (R167). -/
def execRepairUpdate (s : State) : Outcome State Fault Refusal :=
  run s fun s => s.takeIf fun q => q == .repairUpdate

end Sys2Proof.Machine
end

