-- ==== Sys2Proof/Machine/HostTimeouts.lean ====
section
/-! DEFINITION. The time limit of a host memory read (R2): a read with no completion within 50 ms ends as a bus error. -/

namespace Sys2Proof.Machine

open Host (Outcome)

/-- HOST_READ_TIMEOUT (R2). -/
def execHostReadTimeout (r : HostRead) (s : State) : Outcome State Fault Refusal :=
  run s fun s =>
    match r with
    | .setupBlock => s.setupRead none
    | .anchorLink c => s.linkRead c none
    | .jobRecord c => s.recordRead c none
    | .configBlock => s.configRead none
    | .source n => s.sourceFault n
    | .referenceList job => s.refListRead job none
    | .fetchList job => s.fetchListRead job none
    | .blockSource job => s.blockSourceRead job none

end Sys2Proof.Machine
end

