-- ==== Sys2Proof/Machine/ScrubHealth.lean ====
section
/-! DEFINITION. The commands of the chapter Scrub and Drive Health. -/

namespace Sys2Proof.Machine

open Host (Outcome)

/-! ## SCRUB -/

/-- SCRUB (R168, R70). A walk whose job was abandoned first ends its step in progress (R173). -/
def execScrub (s : State) : Outcome State Fault Refusal :=
  run s fun s =>
    match s.dispatched 3 with
    | some { id, req := .scrub start count wakeOk remirror skipRecent, .. } =>
      if s.cat.st ≠ .ready then s.complete id (.refusal .noCatalogue)
      else if s.cat.geo.slots ≤ start ∨ count = 0 then s.complete id (.refusal .badParam)
      else if s.scrub.isSome then s
      else
        { s.setPhase id .scrubbing with
          scrub := some
            { job := some id, wakeOk := wakeOk, remirror := remirror, skipRecent := skipRecent, next := start
              left := min count s.cat.geo.slots, clamped := s.cat.geo.slots < count } }.scrubRest
    | _ => s

/-- An entry is recently verified (R169). -/
def State.recentlyVerified (s : State) (skipRecent : Nat) (e : Entry) : Bool :=
  match s.today with
  | none => false
  | some t => skipRecent != 0 && e.day != 0 && t ≤ e.day + skipRecent

/-- A copy as the step's lookup found it: one that is not present is not read (R170). -/
def State.scrubCopy (s : State) (q : CopyName × Copy) : ScrubCopy :=
  { copy := q.1, loc := q.2.loc, verdict := if s.present q.2 then .reading else .notRead }

/-- The reads of a step, of the present copies, are offered together (R170). -/
def State.scrubReads (s : State) (x : ScrubCtx) (e : Entry) (l : List (CopyName × Copy)) : State :=
  let p : ScrubStep := { slot := x.next, key := e.key, copies := e.copies.map s.scrubCopy }
  l.foldl
    (fun s q => s.offer q.2.loc.drive x.cls .chunkRead q.2.loc.sector (sectorsOf e.key.len) (.scrubRead q.1) [])
    (s.modScrub fun x => { x with step := some p })

/-- The next slot of the walk is looked up and dealt with (R169, R170). -/
def State.scrubSlot (s : State) (x : ScrubCtx) : State :=
  match s.cat.entry x.next with
  | none => s.scrubWalked false
  | some e =>
    if e.st ≠ .live ∨ s.recentlyVerified x.skipRecent e then s.scrubWalked true
    else
      match s.presentCopies e with
      | [] => s.scrubWalked true
      | q :: l => s.scrubReads x e (q :: l)

/-- SCRUB_SLOT_STEP (R169, R170, R173). -/
def execScrubSlotStep (s : State) : Outcome State Fault Refusal :=
  run s fun s =>
    match s.scrub with
    | none => s
    | some x =>
      if x.step.isSome then s
      else if x.job.isNone ∨ x.left = 0 ∨ s.chains[3].st = .stopped then s.scrubRest
      else s.scrubSlot x

/-- SCRUB_PLAN (R171). -/
def execScrubPlan (s : State) : Outcome State Fault Refusal :=
  run s fun s => s.takeIf fun q => q == .scrubPlan

/-- SCRUB_FINAL_UPDATE (R172). -/
def execScrubFinalUpdate (s : State) : Outcome State Fault Refusal :=
  run s fun s => s.takeIf fun q => q == .scrubUpdate

/-! ## Drive health -/

/-- A TEMP_POLL of the drive is offered, waits for room, or is on the list or outstanding (R175). -/
def State.polling (s : State) (d : Fin 4) : Bool :=
  (s.offers.any fun f => f.drive == d && f.op.kind == .tempPoll) || (s.drives[d].room.any fun o => o.kind == .tempPoll)
    || s.drives[d].ops.any fun o => o.kind == .tempPoll

/-- TEMP_POLL_TIMER_EXPIRY (R175). -/
def execTempPollTimerExpiry (d : Fin 4) (s : State) : Outcome State Fault Refusal :=
  run s fun s =>
    if s.drives[d].poll.isNone then s
    else
      let t := s.modDrive d fun x => { x with poll := some 60 }
      if s.polling d then t else t.offer d .bulk .tempPoll 0 0 .tempPoll []

/-- HOT_GRACE_EXPIRY (R176). -/
def execHotGraceExpiry (d : Fin 4) (s : State) : Outcome State Fault Refusal :=
  run s fun s =>
    if s.drives[d].hotGrace.isNone then s else s.modDrive d fun x => { x with hot := true, hotGrace := none }

/-- DECAY_TIMER_EXPIRY (R177). -/
def execDecayTimerExpiry (d : Fin 4) (s : State) : Outcome State Fault Refusal :=
  run s fun s =>
    if s.drives[d].decay.isNone then s
    else
      s.modDrive d fun x =>
        { x with score := x.score - 1, decay := if 0 < x.score - 1 then some 3600 else none }

end Sys2Proof.Machine
end

