-- ==== Sys2Proof/Machine/Dispatch.lean ====
section
/-! DEFINITION. Every command and its meaning. -/

namespace Sys2Proof.Machine

open Host (Outcome)

def exec (i : Instr) (s : State) : Host.Outcome State Fault Refusal :=
  match i with
  | .coldStart present mainsGood battLow => Sys2Proof.Machine.execColdStart present mainsGood battLow s
  | .setupAddrWrite v => Sys2Proof.Machine.execSetupAddrWrite v s
  | .setupBlockReadDone r => Sys2Proof.Machine.execSetupBlockReadDone r s
  | .statusPageFullWriteDone => Sys2Proof.Machine.execStatusPageFullWriteDone s
  | .nudge v => Sys2Proof.Machine.execNudge v s
  | .anchorLinkReadDone c r => Sys2Proof.Machine.execAnchorLinkReadDone c r s
  | .jobRecordReadDone c r => Sys2Proof.Machine.execJobRecordReadDone c r s
  | .takenWriteDone c ok => Sys2Proof.Machine.execTakenWriteDone c ok s
  | .chainPollTimerExpiry c => Sys2Proof.Machine.execChainPollTimerExpiry c s
  | .hostReadTimeout r => Sys2Proof.Machine.execHostReadTimeout r s
  | .completionWriteDelivered job => Sys2Proof.Machine.execCompletionWriteDelivered job s
  | .completionFault job => Sys2Proof.Machine.execCompletionFault job s
  | .statusPageWriteError => Sys2Proof.Machine.execStatusPageWriteError s
  | .statusPageRewriteDone allDelivered => Sys2Proof.Machine.execStatusPageRewriteDone allDelivered s
  | .detach => Sys2Proof.Machine.execDetach s
  | .engineReset => Sys2Proof.Machine.execEngineReset s
  | .powerConsent => Sys2Proof.Machine.execPowerConsent s
  | .attnWrite v => Sys2Proof.Machine.execAttnWrite v s
  | .attnEnWrite v => Sys2Proof.Machine.execAttnEnWrite v s
  | .registerWriteIgnored offset width v => Sys2Proof.Machine.execRegisterWriteIgnored offset width v s
  | .configure => Sys2Proof.Machine.execConfigure s
  | .configBlockReadDone r => Sys2Proof.Machine.execConfigBlockReadDone r s
  | .clockTick => Sys2Proof.Machine.execClockTick s
  | .setClock => Sys2Proof.Machine.execSetClock s
  | .setAlarm => Sys2Proof.Machine.execSetAlarm s
  | .openStream => Sys2Proof.Machine.execOpenStream s
  | .feed => Sys2Proof.Machine.execFeed s
  | .sourceReadDone n bytes => Sys2Proof.Machine.execSourceReadDone n bytes s
  | .sourceReadBusError n => Sys2Proof.Machine.execSourceReadBusError n s
  | .closeStream => Sys2Proof.Machine.execCloseStream s
  | .resolution => Sys2Proof.Machine.execResolution s
  | .referenceWriteDone n ok => Sys2Proof.Machine.execReferenceWriteDone n ok s
  | .compareVerdict => Sys2Proof.Machine.execCompareVerdict s
  | .writeOutcome => Sys2Proof.Machine.execWriteOutcome s
  | .referenceRewriteDone n chunk ok => Sys2Proof.Machine.execReferenceRewriteDone n chunk ok s
  | .retain => Sys2Proof.Machine.execRetain s
  | .release => Sys2Proof.Machine.execRelease s
  | .referenceListReadDone job r => Sys2Proof.Machine.execReferenceListReadDone job r s
  | .retainReference => Sys2Proof.Machine.execRetainReference s
  | .releaseReference => Sys2Proof.Machine.execReleaseReference s
  | .checkpoint => Sys2Proof.Machine.execCheckpoint s
  | .checkpointImageWriteBegin => Sys2Proof.Machine.execCheckpointImageWriteBegin s
  | .load => Sys2Proof.Machine.execLoad s
  | .loadDrivesSettled => Sys2Proof.Machine.execLoadDrivesSettled s
  | .loadHeadersRead => Sys2Proof.Machine.execLoadHeadersRead s
  | .loadImageReadDone => Sys2Proof.Machine.execLoadImageReadDone s
  | .format => Sys2Proof.Machine.execFormat s
  | .formatDrivesSettled => Sys2Proof.Machine.execFormatDrivesSettled s
  | .formatWritesDone => Sys2Proof.Machine.execFormatWritesDone s
  | .driveControlStart => Sys2Proof.Machine.execDriveControlStart s
  | .driveControlPark => Sys2Proof.Machine.execDriveControlPark s
  | .driveControlPowerOff => Sys2Proof.Machine.execDriveControlPowerOff s
  | .clearFault => Sys2Proof.Machine.execClearFault s
  | .adopt => Sys2Proof.Machine.execAdopt s
  | .adoptAction => Sys2Proof.Machine.execAdoptAction s
  | .resync => Sys2Proof.Machine.execResync s
  | .operationOffer => Sys2Proof.Machine.execOperationOffer s
  | .commandAnswer d a => Sys2Proof.Machine.execCommandAnswer d a s
  | .commandTimeout d => Sys2Proof.Machine.execCommandTimeout d s
  | .portResetAnswered d => Sys2Proof.Machine.execPortResetAnswered d s
  | .portResetTimeout d => Sys2Proof.Machine.execPortResetTimeout d s
  | .driveAnnounce d => Sys2Proof.Machine.execDriveAnnounce d s
  | .startTimeout d => Sys2Proof.Machine.execStartTimeout d s
  | .idleTimerExpiry d => Sys2Proof.Machine.execIdleTimerExpiry d s
  | .railSample current present => Sys2Proof.Machine.execRailSample current present s
  | .railGraceExpiry d => Sys2Proof.Machine.execRailGraceExpiry d s
  | .fetch => Sys2Proof.Machine.execFetch s
  | .fetchListReadDone job r => Sys2Proof.Machine.execFetchListReadDone job r s
  | .badReadReport => Sys2Proof.Machine.execBadReadReport s
  | .destinationWriteDone job ref ok => Sys2Proof.Machine.execDestinationWriteDone job ref ok s
  | .blockWrite => Sys2Proof.Machine.execBlockWrite s
  | .blockSourceReadDone job r => Sys2Proof.Machine.execBlockSourceReadDone job r s
  | .blockRead => Sys2Proof.Machine.execBlockRead s
  | .repairTake => Sys2Proof.Machine.execRepairTake s
  | .repairPlacement => Sys2Proof.Machine.execRepairPlacement s
  | .repairUpdate => Sys2Proof.Machine.execRepairUpdate s
  | .scrub => Sys2Proof.Machine.execScrub s
  | .scrubSlotStep => Sys2Proof.Machine.execScrubSlotStep s
  | .scrubPlan => Sys2Proof.Machine.execScrubPlan s
  | .scrubFinalUpdate => Sys2Proof.Machine.execScrubFinalUpdate s
  | .tempPollTimerExpiry d => Sys2Proof.Machine.execTempPollTimerExpiry d s
  | .hotGraceExpiry d => Sys2Proof.Machine.execHotGraceExpiry d s
  | .decayTimerExpiry d => Sys2Proof.Machine.execDecayTimerExpiry d s
  | .supplySwitchOver good => Sys2Proof.Machine.execSupplySwitchOver good s
  | .batteryLowChange low => Sys2Proof.Machine.execBatteryLowChange low s
  | .holdTimerExpiry => Sys2Proof.Machine.execHoldTimerExpiry s
  | .drainTimerExpiry => Sys2Proof.Machine.execDrainTimerExpiry s
  | .shutdownPhaseStep => Sys2Proof.Machine.execShutdownPhaseStep s
  | .sleep => Sys2Proof.Machine.execSleep s
  | .sleepSequenceStep => Sys2Proof.Machine.execSleepSequenceStep s
  | .consentTimerExpiry => Sys2Proof.Machine.execConsentTimerExpiry s
  | .networkWake => Sys2Proof.Machine.execNetworkWake s
  | .buttonPress => Sys2Proof.Machine.execButtonPress s
  | .hostRailStep => Sys2Proof.Machine.execHostRailStep s
  | .lossOfPower => Sys2Proof.Machine.execLossOfPower s

end Sys2Proof.Machine
end

