-- ==== Sys2Proof/Safety.lean ====
section
/-! DEFINITION. The terms that claims use: how a command ends, a job waiting to be carried out and its report, the status
page kept current, tables in canonical form, and drives at rest. -/

namespace Sys2Proof.Machine

/-! ## How a command ends -/

/-- A state apart from the queue, the outputs and the record of what the status page last got: all that the part holds. -/
def State.inner (s : State) : State := { s with pending := [], out := {}, link := { s.link with page := [] } }

/-- The command `c`, carried out in `s`, ends as `u` says. It completes; the part then holds exactly what `u` holds, and the
queue is as it was. Its actions are `u`'s. Behind them stand exactly the page writes that take the page from what it last got
through the values of `u.stages`, a field that does not change being left out (R17), and the interrupt message when the
interrupt has changed (R16); nothing else is issued. The order of these outputs, and which values are changes of their own, is the
model's choice (notes/assumptions/17.md). The page's record is then the last of those values. -/
def Ends (s : State) (c : Instr) (u : State) : Prop :=
  ∃ t, exec c s = .next t ∧ t.inner = u.inner ∧ t.pending = s.pending
    ∧ t.out = { acts := u.out.acts, page := pageWrites s.link.page u.stages, msg := u.message s.irq }
    ∧ t.link.page = u.pageNow s.link.page

/-! ## Jobs -/

/-- With power, the oldest job of chain `c` whose own row has not run is `j`, and its name is its own. That a row takes the oldest
job waiting for it is the model's choice (notes/assumptions/2.md). -/
def State.carries (s : State) (c : Fin 4) (j : Job) : Prop :=
  s.powered = true ∧ s.dispatched c = some j ∧ s.job j.id = some j

/-- With power, a job named `j.id` is in flight, and it is `j`. -/
def State.holds (s : State) (j : Job) : Prop := s.powered = true ∧ s.job j.id = some j

/-- The job's progress set, with these actions. -/
def State.goesTo (s : State) (j : Job) (p : JobPhase) (l : List Out) : State :=
  { s with jobs := s.jobs.map (fun k => if k.id = j.id then { k with phase := p } else k), out := { acts := l } }

/-- The job's step 1 of R8 is issued: the 16 result bytes at offset 48 of its record, in one write
(notes/assumptions/57.md). -/
def State.reports (s : State) (j : Job) (r : Result) : State :=
  s.goesTo j (.writingResults r) [.hostWrite (j.record + 48) r.bytes]

/-- The outputs forgotten. -/
def State.mute (s : State) : State := { s with out := {} }

/-- The row that takes a catalogue request of this kind. -/
def CatReq.row : CatReq → Instr
  | .resolution _ _ => .resolution
  | .verdict _ _ _ => .compareVerdict
  | .writeOutcome _ _ => .writeOutcome
  | .retainRef _ => .retainReference
  | .releaseRef _ => .releaseReference
  | .badCopy _ _ _ _ | .damage _ _ => .badReadReport
  | .repairPlacement => .repairPlacement
  | .repairUpdate => .repairUpdate
  | .scrubPlan => .scrubPlan
  | .scrubUpdate => .scrubFinalUpdate

/-! ## The status page -/

/-- What the page last got is what its fields are now, while the page is kept (R17). -/
def PageCurrent (s : State) : Prop :=
  s.link.attach = .attached ∨ s.link.attach = .detaching → s.link.page = s.pageFields

/-- The last bytes that a list of page writes puts at an offset, over the bytes that stood there. -/
def lastWrite (writes : List PageField) (offset : Nat) (before : List Byte) : List Byte :=
  writes.foldl (fun b f => if f.1 = offset then f.2 else b) before

/-! ## Values with a range -/

/-- A given value is taken within its range (R21, R34): as it is, or as the nearer end of the range. -/
def Clamps (least greatest given taken : Nat) : Prop :=
  (least ≤ given → given ≤ greatest → taken = given) ∧ (given < least → taken = least)
    ∧ (least ≤ given → greatest < given → taken = greatest) ∧ (least ≤ greatest → least ≤ taken ∧ taken ≤ greatest)

/-! ## Canonical tables -/

/-- The index and the AU tables are in their one form: numbers rising, and no AU record listed that an unlisted AU has. -/
def Cat.canonical (c : Cat) : Prop :=
  tabSorted c.index = true ∧ ∀ d : Fin 4, tabSorted c.aus[d] = true ∧ ∀ p ∈ c.aus[d], p.2 ≠ c.geo.plainAu d p.1

/-- Every entry lies in the probe window of its key (R72). -/
def Cat.placed (c : Cat) : Prop := ∀ slot e, c.entry slot = some e → slot ∈ c.geo.window e.key.fp

/-- No two entries have the same key (R73). -/
def Cat.keysApart (c : Cat) : Prop := ∀ i j e f, c.entry i = some e → c.entry j = some f → e.key = f.key → i = j

/-! ## SLEEP -/

/-- A drive as the box enters SLEEP (R138, R154, R187): UNPOWERED, unless it is ABSENT, with nothing pending, its port IDLE and
the configured credit. -/
def Drive.fallsAsleep (x : Drive) (credit : Nat) : Drive :=
  { x with
    power := if x.power = .absent then .absent else .unpowered
    rail := if x.power = .absent ∨ x.power = .unpowered then x.rail else false
    park := none, idle := none, idleCond := false, idleHeld := false, startup := none, wakeAsked := false, standbyAsked := false
    startTimer := none, port := .idle, credit := credit, demands := [] }

/-- The part as the box enters SLEEP with nothing on a list (R187): both host rails go off, then the rail of every present
drive that is not UNPOWERED; the start queue is empty, and what the sequence kept is gone. -/
def State.asleep (s : State) : State :=
  { s with
    drives := s.drives.map fun (x : Drive) => x.fallsAsleep s.cfg.credit
    startQueue := []
    box := { s.box with
      st := .sleep, rail1 := false, rail2 := false, seq := none, drain := false, consentTimer := false
      consentWait := false, consentKept := false, pendingMains := false, hold := .stopped }
    out := { acts := [.hostRail 0 false, .hostRail 1 false]
      ++ (drives4.filter fun d => s.drives[d].power != .absent && s.drives[d].power != .unpowered).map fun d => .rail d false } }

/-! ## Drives at rest -/

/-- A drive with nothing to do: no operation, no demand, no pending park, an idle port, no start or STANDBY under way, and
timers as its state has them. -/
def Drive.resting (x : Drive) (idlePark : Nat) : Prop :=
  x.ops = [] ∧ x.room = [] ∧ x.demands = [] ∧ x.park = none ∧ x.idleHeld = false ∧ x.port = .idle
    ∧ x.power ≠ .starting ∧ x.power ≠ .stopping
    ∧ (x.power = .ready → x.startup = none)
    ∧ x.timers idlePark = x

/-- The job's next move waits on the drives' states. -/
def JobPhase.waitsOnDrive : JobPhase → Bool
  | .starting _ | .parking _ _ | .resyncing _ .starting => true
  | .adopting w => w.stage == .starting
  | .formatting w => !w.writing
  | _ => false

/-- Every drive rests, no start request stands, and no job or host-area copy waits on a drive. -/
def State.resting (s : State) : Prop :=
  (∀ d : Fin 4, s.drives[d].resting s.cfg.drive[d].idlePark) ∧ s.startQueue = [] ∧ s.engine.hostCopy = none
    ∧ ∀ j ∈ s.jobs, j.phase.waitsOnDrive = false

end Sys2Proof.Machine
end

