-- ==== Sys2Proof/WellFormed.lean ====
section
/-! DEFINITION. Well-formed commands: operands that the outside can send. Every command has its meaning whether or not it
is well-formed. -/

namespace Sys2Proof

/-- A read that delivers delivers all the bytes that were asked for. -/
def readOfLength (n : Nat) : Option (List Byte) → Bool
  | none => true
  | some r => r.length == n

/-- An access of the window is aligned to its width of 1, 2, 4 or 8 bytes and lies in its 64 bytes. -/
def inWindow (offset width : Nat) : Bool :=
  (width == 1 || width == 2 || width == 4 || width == 8) && offset % width == 0 && offset + width ≤ 64

/-- A write is ignored (R13, R14): of another width than 8 bytes, of IDENT, LINK or the unused offset, or of COMMAND with a
value that is no command. -/
def ignoredWrite (offset width : Nat) (v : BitVec 64) : Bool :=
  width != 8 || offset == 0x00 || offset == 0x08 || offset == 0x38 || (offset == 0x30 && v != 1 && v != 2 && v != 3)

/-- A drive's answer carries no more than a segment of 64 sectors, a capacity or a 16-bit temperature. -/
def answerFits : Answer → Bool
  | .done data _ => data.length ≤ 64 * 4096
  | .mediaError | .otherError => true

/-- A piece of a source buffer is no longer than the longest source buffer (R50). -/
def pieceFits (bytes : List Byte) : Bool := bytes.length ≤ 2147483647

/-- The command is well-formed. -/
def Instr.wf : Instr → Bool
  | .setupBlockReadDone r | .jobRecordReadDone _ r => readOfLength 64 r
  | .anchorLinkReadDone _ r => readOfLength 8 r
  | .configBlockReadDone r => readOfLength 512 r
  | .referenceListReadDone _ r | .fetchListReadDone _ r =>
    match r with
    | none => true
    | some b => b.length % 32 == 0 && b.length ≤ 131072
  | .blockSourceReadDone _ r =>
    match r with
    | none => true
    | some b => b.length % 4096 == 0 && b.length ≤ 1048576
  | .registerWriteIgnored offset width v => inWindow offset width && ignoredWrite offset width v
  | .commandAnswer _ a => answerFits a
  | .sourceReadDone _ bytes => pieceFits bytes
  | .coldStart _ _ _ | .setupAddrWrite _ | .statusPageFullWriteDone | .nudge _ | .takenWriteDone _ _
  | .chainPollTimerExpiry _ | .hostReadTimeout _ | .completionWriteDelivered _ | .completionFault _ | .statusPageWriteError
  | .statusPageRewriteDone _ | .detach | .engineReset | .powerConsent | .attnWrite _ | .attnEnWrite _ | .configure | .clockTick
  | .setClock | .setAlarm | .openStream | .feed | .sourceReadBusError _ | .closeStream | .resolution
  | .referenceWriteDone _ _ | .compareVerdict | .writeOutcome | .referenceRewriteDone _ _ _ | .retain | .release
  | .retainReference | .releaseReference | .checkpoint | .checkpointImageWriteBegin | .load | .loadDrivesSettled
  | .loadHeadersRead | .loadImageReadDone | .format | .formatDrivesSettled | .formatWritesDone | .driveControlStart
  | .driveControlPark | .driveControlPowerOff | .clearFault | .adopt | .adoptAction | .resync | .operationOffer
  | .commandTimeout _ | .portResetAnswered _ | .portResetTimeout _ | .driveAnnounce _ | .startTimeout _ | .idleTimerExpiry _
  | .railSample _ _ | .railGraceExpiry _ | .fetch | .badReadReport | .destinationWriteDone _ _ _ | .blockWrite | .blockRead
  | .repairTake | .repairPlacement | .repairUpdate | .scrub | .scrubSlotStep | .scrubPlan | .scrubFinalUpdate
  | .tempPollTimerExpiry _ | .hotGraceExpiry _ | .decayTimerExpiry _ | .supplySwitchOver _ | .batteryLowChange _
  | .holdTimerExpiry | .drainTimerExpiry | .shutdownPhaseStep | .sleep | .sleepSequenceStep | .consentTimerExpiry | .networkWake
  | .buttonPress | .hostRailStep | .lossOfPower => true

end Sys2Proof
end

