-- ==== Sys2Proof/Certificates/Slice0/Obligations.lean ====
section
/-! DEFINITION. The statements about the model, for the provers. `Ends s c u` says that the command completes, that
everything the part then holds is what `u` holds, and that it issues `u`'s actions and, behind them, exactly the status page
fields that changed and the interrupt message: it is result and frame at once. -/

open Sys2Proof Sys2Proof.Machine

/-! ## The whole machine -/

/-- A step carries out the command at the front of the queue with the rest of the queue; an empty queue idles (the idling is
the model's choice, notes/assumptions/1.md). -/
def Obligations.StepRunsFront : Prop :=
  ∀ (s : State) (c : Instr) (rest : List Instr),
    (s.pending = c :: rest → step s = exec c { s with pending := rest }) ∧ (s.pending = [] → step s = .next s)

/-- The queue stands outside the part: a command that completes leaves the rest of the queue as it was. -/
def Obligations.QueueKept : Prop :=
  ∀ (c : Instr) (s t : State), exec c s = .next t → t.pending = s.pending

/-- Every command completes in every state: the part has no fault and refuses nothing. -/
def Obligations.EveryCommandCompletes : Prop := ∀ (c : Instr) (s : State), ∃ t, exec c s = .next t

/-- After a loss of power nothing of the catalogue, the jobs or the streams is held (R116). Until power is applied again no
command changes anything: that, and the default values that the other fields have then, are the model's choice
(notes/assumptions/42.md). -/
def Obligations.NothingWithoutPower : Prop :=
  (∀ s : State, ∃ t, exec .lossOfPower s = .next t ∧ t.powered = false ∧ t.cat = {} ∧ t.jobs = [] ∧ t.engine = {}
      ∧ t.streams = Vector.replicate 8 {} ∧ t.pending = s.pending)
    ∧ ∀ (s : State) (c : Instr), s.powered = false → (∀ p m l, c ≠ .coldStart p m l) → c ≠ .lossOfPower →
        exec c s = .next { s with out := {} }

/-- While the page is kept, what it last got is what its fields are: an invariant of every step, from any state that has it. And
what the page last got in a field is what a command's page writes put there, over what the page held before (R17). -/
def Obligations.PageStaysCurrent : Prop :=
  (∀ s t : State, PageCurrent s → step s = .next t → PageCurrent t)
  ∧ ∀ (s t : State) (c : Instr), s.powered = true → (∀ p m l, c ≠ .coldStart p m l) → c ≠ .lossOfPower → exec c s = .next t →
      t.link.attach = .attached ∨ t.link.attach = .detaching → ∀ o ∈ pageOffsets,
        pageAt t.link.page o = lastWrite t.out.page o (pageAt s.link.page o)

/-- The state after reset has the invariant of PageStaysCurrent. -/
def Obligations.ResetPageCurrent : Prop := PageCurrent State.reset

/-- The interrupt (R16), after any command in any attach state: it is asserted while the AND of ATTN and ATTN_EN is not zero; the
link's assert message goes out exactly when that AND goes from zero to non-zero, and the deassert message exactly when it goes
back, whether ATTN or ATTN_EN changed; and a write of ATTN_EN leaves every cause as it is. The message stands behind the other
outputs of the command by the model's choice (notes/assumptions/17.md). Power coming and going is apart: without power there is
no link. -/
def Obligations.InterruptFollows : Prop :=
  ∀ (s t : State) (c : Instr), s.powered = true → (∀ p m l, c ≠ .coldStart p m l) → c ≠ .lossOfPower → exec c s = .next t →
    (t.irq = true ↔ t.attn &&& t.attnEn ≠ 0)
    ∧ (t.out.msg = some true ↔ s.attn &&& s.attnEn = 0 ∧ t.attn &&& t.attnEn ≠ 0)
    ∧ (t.out.msg = some false ↔ s.attn &&& s.attnEn ≠ 0 ∧ t.attn &&& t.attnEn = 0)
    ∧ ∀ v : BitVec 64, c = .attnEnWrite v → t.attn = s.attn ∧ t.attnEn = v.setWidth 12

/-- The state after reset: WAKING with reason {COLD} and the first host rail on, DETACHED, CLOCK_INVALID alone in ATTN, no
interrupt enabled, the clock not valid, the configuration at the default of each field, the catalogue NOT_LOADED, every stream
CLOSED, every drive UNPOWERED with its rail off and its service level FULL (R12, R25, R26, R33, R139, R174, R189). A drive in
every bay, the mains good and the battery not low are the model's choice (notes/assumptions/4.md). -/
def Obligations.ResetState : Prop :=
  State.reset.link.attach = .detached ∧ State.reset.linkReg = 0x30 ∧ State.reset.readRegister 0x10 8 = 0
    ∧ State.reset.attn = 0x800 ∧ State.reset.attnEn = 0 ∧ State.reset.irq = false
    ∧ State.reset.box.st = .waking ∧ State.reset.box.wakeReason.code = 1
    ∧ State.reset.cat.st = .notLoaded ∧ State.reset.jobs = [] ∧ State.reset.engine = {} ∧ State.reset.pending = []
    ∧ State.reset.box.rail1 = true ∧ State.reset.box.rail2 = false ∧ State.reset.box.seq = none
    ∧ State.reset.box.supply = .mains ∧ State.reset.box.battLow = false
    ∧ State.reset.clock.valid = false ∧ State.reset.clock.count = 0
    ∧ State.reset.cfg =
      { poll := 10, k := 16, minLen := 16384, maxLen := 262144, strict := true, copies := 2, e := 20, mainsBudget := 60
        batteryBudget := 25
        drive := Vector.replicate 4 { spinUp := 20, run := 6, park := 1, idlePark := 900, startTimeout := 30, setup := [] }
        hot := 55, recover := 50, hotGrace := 120, mediaLimit := 8, leak := 5, railGrace := 2, holdTime := 60, credit := 8
        wakeNetwork := true, wakeButton := true, wakeAlarm := true, wakeMains := true }
    ∧ (∀ n : Fin 8, State.reset.streams[n].st = .closed)
    ∧ (∀ d : Fin 4, State.reset.drives[d].present = true ∧ State.reset.drives[d].power = .unpowered ∧ State.reset.drives[d].rail = false
        ∧ State.reset.drives[d].level = .full)

/-! ## Job chains and the status page -/

/-- SETUP_ADDR (R1). The setup block: a failed read or a bad page address fails the attach with CHAIN_FAULT; else every field
of the status page is written, whatever it held, with the chains' starting contexts (R1, R2, R3), all in that step
(notes/assumptions/16.md). ATTACHED: CHAIN_FAULT is set
when a chain started FAULTED, and each other chain makes its first take attempt (R2, R3, R4). -/
def Obligations.Attach : Prop :=
  (∀ (s : State) (v : BitVec 64), s.powered = true →
      (v ≠ 0 → s.link.attach = .detached → s.box.st = .run → v.toNat % 64 = 0 →
        Ends s (.setupAddrWrite v)
          { s with link := { s.link with attach := .attaching, stage := .readingSetup, setupAddr := v }, out := { acts := [.hostRead v 64] } })
      ∧ (v ≠ 0 → s.link.attach = .detached → s.box.st = .run → v.toNat % 64 ≠ 0 →
        Ends s (.setupAddrWrite v)
          { s with link := {}, chains := Vector.replicate 4 {}, attn := s.attn ||| 2, out := {} })
      ∧ (v = 0 ∨ s.link.attach ≠ .detached ∨ s.box.st ≠ .run → Ends s (.setupAddrWrite v) { s with out := {} }))
  ∧ (∀ s : State, s.powered = true → s.link.attach = .attaching → s.link.stage = .readingSetup →
      Ends s (.setupBlockReadDone none) { s with link := {}, chains := Vector.replicate 4 {}, attn := s.attn ||| 2, out := {} }
      ∧ ∀ b : List Byte,
        (goodAddr 4096 (setupPage b) = false → Ends s (.setupBlockReadDone (some b))
          { s with link := {}, chains := Vector.replicate 4 {}, attn := s.attn ||| 2, out := {} })
        ∧ (goodAddr 4096 (setupPage b) = true →
          let t := { s with
            chains := Vector.ofFn fun c =>
              { anchor := setupRoot b c, st := if goodAddr 64 (setupRoot b c) then ChainState.running else .faulted : Chain }
            link := { s.link with stage := .writingPage, pageAddr := setupPage b } }
          Ends s (.setupBlockReadDone (some b))
            { t with out := { acts := [.pageZeroUnused], notes := [[], t.pageFields] } }))
  ∧ (∀ s : State, s.powered = true → s.link.attach = .attaching → s.link.stage = .writingPage →
      (∀ c : Fin 4, s.chains[c].st = .faulted ∨ s.chains[c].st = .running ∧ s.chains[c].inFlight = 0 ∧ s.chains[c].take = .idle
        ∧ goodAddr 64 s.chains[c].anchor = true) →
      Ends s .statusPageFullWriteDone
        { s with
          link := { s.link with attach := .attached, stage := .idle }
          chains := s.chains.map fun (x : Chain) =>
            if x.st = .faulted then x else { x with take := .linkRead, poll := none, again := none, faultedMeanwhile := false }
          attn := if ∃ c : Fin 4, s.chains[c].st = .faulted then s.attn ||| 2 else s.attn
          out := { acts := (chains4.filter fun c => s.chains[c].st == .running).map fun c => .hostRead s.chains[c].anchor 8 } })

/-- While ATTACHED, NUDGE of any mask begins a take attempt on every STALLED or FAULTED chain whose bit is set, and has no effect
on one that is RUNNING or STOPPED (R4, R7). An attempt whose anchor is 0 or not a multiple of 64 leaves its chain FAULTED with
CHAIN_FAULT; any other reads the anchor's link (R4). A chain whose attempt is under way makes another when that one has ended
(notes/assumptions/15.md). With the page error flag set and no rewrite in progress the NUDGE, whatever its mask, also writes the
whole page again (R7, R18), every field in that step (notes/assumptions/16.md). In any other attach state a NUDGE has no effect
(R7). The poll timer begins an attempt on a STALLED chain alone (R6, R7); an expiry during an attempt waits for its end
(notes/assumptions/15.md). -/
def Obligations.TakeAttemptBegins : Prop :=
  ∀ s : State, s.powered = true →
    let attempt := fun x : Chain =>
      if goodAddr 64 x.anchor then { x with take := .linkRead, poll := none, again := none, faultedMeanwhile := false }
      else { x with st := .faulted, take := .idle, poll := none, again := none, faultedMeanwhile := false }
    (∀ v : BitVec 64, s.link.attach = .attached →
      let hit := fun c : Fin 4 => v.getLsbD c.val && (s.chains[c].st == .stalled || s.chains[c].st == .faulted)
      let begins := fun c : Fin 4 => hit c && s.chains[c].take == .idle
      let nudged := { s with
        chains := Vector.ofFn fun c =>
          if begins c then attempt s.chains[c] else if hit c then { s.chains[c] with again := some .nudge } else s.chains[c]
        attn := if ∃ c : Fin 4, begins c = true ∧ goodAddr 64 s.chains[c].anchor = false then s.attn ||| 2 else s.attn
        out := { acts := (chains4.filter fun c => begins c && goodAddr 64 s.chains[c].anchor).map fun c =>
          .hostRead s.chains[c].anchor 8 } }
      (s.link.pageError = false ∨ s.link.rewriting = true → Ends s (.nudge v) nudged)
      ∧ (s.link.pageError = true → s.link.rewriting = false →
        let t := { nudged with link := { s.link with rewriting := true } }
        Ends s (.nudge v) { t with out := { acts := nudged.out.acts ++ [.pageZeroUnused], notes := [[], t.pageFields] } }))
    ∧ (∀ v : BitVec 64, s.link.attach ≠ .attached → Ends s (.nudge v) { s with out := {} })
    ∧ ∀ c : Fin 4, let x := s.chains[c]
      (x.st = .stalled → x.take = .idle → x.poll.isSome = true →
        Ends s (.chainPollTimerExpiry c)
          { s with
            chains := s.chains.set c (attempt x)
            attn := if goodAddr 64 x.anchor then s.attn else s.attn ||| 2
            out := { acts := if goodAddr 64 x.anchor then [.hostRead x.anchor 8] else [] } })
      ∧ (x.st = .stalled → x.take ≠ .idle → s.cfg.poll ≠ 0 → x.again = none →
        Ends s (.chainPollTimerExpiry c) { s with chains := s.chains.set c { x with again := some .poll }, out := {} })
      ∧ (x.st ≠ .stalled → Ends s (.chainPollTimerExpiry c) { s with out := {} })

/-- The anchor's link, read little-endian from its 8 bytes (R195): 0 stalls the chain with its poll timer started, a multiple of
64 is followed, and a bus error, a timeout or any other value faults the chain with CHAIN_FAULT (R4, R6). The linked record: a
POSTED one is written TAKEN, a record in any other state stalls the chain, a bus error faults it (R4). The TAKEN write delivered:
the record becomes the anchor, the taken and in-flight counts rise by 1, the job is dispatched, and a chain still below its limit
makes its next take attempt; a kind that the chain does not accept completes with BAD_KIND. A bus error faults the chain (R4, R5).
The record's kind is the code at offset 8, its parameters are little-endian at the offsets of the chapter Record Formats, and its
flags stand at offset 10; every other code is no kind. C0 accepts CONFIGURE to SLEEP, C1 the reads, C2 the streams, the lists and
BLOCK_WRITE, C3 SCRUB, with 1, 8, 8 and 1 jobs in flight (R3). -/
def Obligations.TakeAttempt : Prop :=
  (∀ (s : State) (c : Fin 4), s.powered = true → s.chains[c].take = .linkRead → s.chains[c].again = none →
      s.chains[c].faultedMeanwhile = false →
      let faulted := { s with
        chains := s.chains.set c { s.chains[c] with st := .faulted, take := .idle, poll := none, again := none }
        attn := s.attn ||| 2, out := {} }
      (∀ b : List Byte, let link : Addr := BitVec.ofNat 64 (field b 0 8)
        (link = 0 → Ends s (.anchorLinkReadDone c (some b))
          { s with
            chains := s.chains.set c
              { s.chains[c] with st := .stalled, take := .idle, again := none, poll := if s.cfg.poll = 0 then none else some s.cfg.poll }
            out := {} })
        ∧ (link ≠ 0 → link.toNat % 64 = 0 → Ends s (.anchorLinkReadDone c (some b))
          { s with chains := s.chains.set c { s.chains[c] with take := .recordRead link }, out := { acts := [.hostRead link 64] } })
        ∧ (link.toNat % 64 ≠ 0 → Ends s (.anchorLinkReadDone c (some b)) faulted))
      ∧ Ends s (.anchorLinkReadDone c none) faulted
      ∧ Ends s (.hostReadTimeout (.anchorLink c)) faulted)
  ∧ (∀ (s : State) (c : Fin 4) (link : Addr) (b : List Byte), s.powered = true → s.chains[c].take = .recordRead link →
      s.chains[c].again = none → s.chains[c].faultedMeanwhile = false →
      (b.getD 9 0 = 1 →
        Ends s (.jobRecordReadDone c (some b))
          { s with chains := s.chains.set c { s.chains[c] with take := .takenWrite link b }, out := { acts := [.hostWrite (link + 9) [2]] } })
      ∧ (b.getD 9 0 ≠ 1 →
        Ends s (.jobRecordReadDone c (some b))
          { s with
            chains := s.chains.set c
              { s.chains[c] with st := .stalled, take := .idle, again := none, poll := if s.cfg.poll = 0 then none else some s.cfg.poll }
            out := {} })
      ∧ Ends s (.jobRecordReadDone c none)
          { s with
            chains := s.chains.set c { s.chains[c] with st := .faulted, take := .idle, poll := none, again := none }
            attn := s.attn ||| 2, out := {} })
  ∧ (∀ (s : State) (c : Fin 4) (link : Addr) (b : List Byte), s.powered = true → s.chains[c].take = .takenWrite link b →
      s.chains[c].faultedMeanwhile = false → s.chains[c].again = none →
      let taken := { s.chains[c] with
        anchor := link, taken := s.chains[c].taken + 1, inFlight := s.chains[c].inFlight + 1, take := .idle, poll := none
        again := none, st := .running }
      (s.chains[c].inFlight + 1 = chainLimit c →
        (∀ q : JobReq, parseJob b = some q → q.chain = c → (∀ d a, q = .driveControl d a → 1 ≤ a ∧ a ≤ 6) →
          Ends s (.takenWriteDone c true)
            { s with
              chains := s.chains.set c taken, nextId := s.nextId + 1, out := {}
              jobs := s.jobs ++
                [{ id := s.nextId, chain := c, record := link, notify := recordNotify b, req := q, phase := .dispatched }] })
        ∧ ((∀ q : JobReq, parseJob b = some q → q.chain ≠ c) → (∀ j ∈ s.jobs, j.id ≠ s.nextId) →
          Ends s (.takenWriteDone c true)
            { s with
              chains := s.chains.set c taken, nextId := s.nextId + 1
              out := { acts := [.hostWrite (link + 48) (Result.bytes { status := .badKind })] }
              jobs := s.jobs ++
                [{ id := s.nextId, chain := c, record := link, notify := recordNotify b, req := (parseJob b).getD .load
                   phase := .writingResults { status := .badKind } }] }))
      ∧ (s.chains[c].inFlight + 1 < chainLimit c → goodAddr 64 link = true →
        ∀ q : JobReq, parseJob b = some q → q.chain = c → (∀ d a, q = .driveControl d a → 1 ≤ a ∧ a ≤ 6) →
          Ends s (.takenWriteDone c true)
            { s with
              chains := s.chains.set c { taken with take := .linkRead, faultedMeanwhile := false }, nextId := s.nextId + 1
              jobs := s.jobs ++
                [{ id := s.nextId, chain := c, record := link, notify := recordNotify b, req := q, phase := .dispatched }]
              out := { acts := [.hostRead link 8] } })
      ∧ Ends s (.takenWriteDone c false)
          { s with
            chains := s.chains.set c { s.chains[c] with st := .faulted, take := .idle, poll := none, again := none }
            attn := s.attn ||| 2, out := {} })
  ∧ (chainLimit 0 = 1 ∧ chainLimit 1 = 8 ∧ chainLimit 2 = 8 ∧ chainLimit 3 = 1)
  ∧ ∀ b : List Byte,
      let addr := fun o : Nat => (BitVec.ofNat 64 (field b o 8) : Addr)
      let flag := fun o i : Nat => (b.getD o 0).getLsbD i
      let takes := fun (code : Nat) (c : Fin 4) (q : JobReq) => field b 8 1 = code → parseJob b = some q ∧ q.chain = c
      takes 0x01 0 (.configure (addr 16))
      ∧ takes 0x02 0 (.format (BitVec.ofNat 64 (field b 16 8)) (field b 24 2) (flag 10 1))
      ∧ takes 0x03 0 .load ∧ takes 0x04 0 .checkpoint
      ∧ takes 0x05 0 (.driveControl (field b 16 1) (field b 17 1))
      ∧ takes 0x06 0 (.setClock (BitVec.ofNat 32 (field b 16 4)))
      ∧ takes 0x07 0 (.setAlarm (field b 16 1) (b.getD 17 0) (b.getD 18 0) (flag 19 0) (BitVec.ofNat 32 (field b 20 4)) (field b 24 4))
      ∧ takes 0x08 0 .sleep
      ∧ takes 0x10 1 (.fetch (addr 16) (field b 24 4) (field b 28 4) (addr 32))
      ∧ takes 0x11 1 (.blockRead (field b 16 4) (field b 20 2) (addr 24))
      ∧ takes 0x20 2
        (.openStream (field b 16 1) (field b 17 1) (field b 18 1) (field b 19 1) (field b 20 4) (field b 24 4))
      ∧ takes 0x21 2 (.feed (field b 16 1) (field b 20 4) (addr 24) (addr 32) (field b 40 4))
      ∧ takes 0x22 2 (.closeStream (field b 16 1) (addr 24) (field b 32 4) (flag 10 1) (flag 10 2))
      ∧ takes 0x23 2 (.retain (addr 16) (field b 24 4)) ∧ takes 0x24 2 (.release (addr 16) (field b 24 4))
      ∧ takes 0x25 2 (.blockWrite (field b 16 4) (field b 20 2) (addr 24))
      ∧ takes 0x30 3 (.scrub (field b 16 4) (field b 20 4) (flag 24 0) (flag 24 1) (field b 25 1))
      ∧ (field b 8 1 ∉ [1, 2, 3, 4, 5, 6, 7, 8, 0x10, 0x11, 0x20, 0x21, 0x22, 0x23, 0x24, 0x25, 0x30] → parseJob b = none)
      ∧ recordNotify b = flag 10 0

/-- A host read that returns nothing within 50 ms acts as that read's bus error, for each of the eight reads (R2). -/
def Obligations.HostReadTimeouts : Prop :=
  ∀ (s : State) (c : Fin 4) (n : Fin 8) (job : Nat),
    exec (.hostReadTimeout .setupBlock) s = exec (.setupBlockReadDone none) s
    ∧ exec (.hostReadTimeout (.anchorLink c)) s = exec (.anchorLinkReadDone c none) s
    ∧ exec (.hostReadTimeout (.jobRecord c)) s = exec (.jobRecordReadDone c none) s
    ∧ exec (.hostReadTimeout .configBlock) s = exec (.configBlockReadDone none) s
    ∧ exec (.hostReadTimeout (.source n)) s = exec (.sourceReadBusError n) s
    ∧ exec (.hostReadTimeout (.referenceList job)) s = exec (.referenceListReadDone job none) s
    ∧ exec (.hostReadTimeout (.fetchList job)) s = exec (.fetchListReadDone job none) s
    ∧ exec (.hostReadTimeout (.blockSource job)) s = exec (.blockSourceReadDone job none) s

/-- Completion (R8): when the results have been delivered the state byte DONE is written, and when that has been delivered the
job leaves its chain, the done count rises, and NOTIFY sets JOB_NOTIFY; a chain that is RUNNING makes its next take attempt
(R4), and the last job of a part that is DETACHING leaves it DETACHED, the page first getting the writes due (R11). A completion
write that meets a bus error: the job leaves its chain, the done count does not rise, JOB_NOTIFY is not set, and the chain
becomes FAULTED with CHAIN_FAULT, its anchor kept (R9, R10). -/
def Obligations.Completion : Prop :=
  (∀ (s : State) (j : Job) (r : Result), s.holds j → s.box.drain = false →
      let jobs := s.jobs.filter fun k => k.id != j.id
      let left := { s.chains[j.chain] with inFlight := s.chains[j.chain].inFlight - 1, done := s.chains[j.chain].done + 1 }
      let attn := if j.notify then s.attn ||| 1 else s.attn
      (j.phase = .writingResults r →
        Ends s (.completionWriteDelivered j.id) (s.goesTo j (.writingDone r) [.hostWrite (j.record + 9) [3]]))
      ∧ (j.phase = .writingDone r → s.link.attach = .attached →
        (s.chains[j.chain].st ≠ .running →
          Ends s (.completionWriteDelivered j.id) { s with jobs := jobs, chains := s.chains.set j.chain left, attn := attn, out := {} })
        ∧ (s.chains[j.chain].st = .running → left.inFlight < chainLimit j.chain → left.take = .idle → goodAddr 64 left.anchor = true →
          Ends s (.completionWriteDelivered j.id)
            { s with
              jobs := jobs, attn := attn, out := { acts := [.hostRead left.anchor 8] }
              chains := s.chains.set j.chain
                { left with take := .linkRead, poll := none, again := none, faultedMeanwhile := false } }))
      ∧ (j.phase = .writingDone r → s.link.attach = .detaching → s.chains[j.chain].st = .stopped → s.chains[j.chain].inFlight = 1 →
        (∀ c : Fin 4, c ≠ j.chain → s.chains[c].inFlight = 0) →
        let t := { s with jobs := jobs, chains := s.chains.set j.chain left, attn := attn }
        Ends s (.completionWriteDelivered j.id)
          { t with link := {}, chains := Vector.replicate 4 {}, out := { notes := [t.pageFields] } }))
  ∧ (∀ (s : State) (j : Job) (r : Result), s.holds j → j.phase = .writingResults r ∨ j.phase = .writingDone r →
      s.chains[j.chain].st = .running ∨ s.chains[j.chain].st = .stalled → s.chains[j.chain].take = .idle →
      s.link.attach = .attached → s.box.drain = false →
      Ends s (.completionFault j.id)
        { s with
          jobs := s.jobs.filter fun k => k.id != j.id
          chains := s.chains.set j.chain
            { s.chains[j.chain] with
              inFlight := s.chains[j.chain].inFlight - 1, st := .faulted, poll := none, faultedMeanwhile := false }
          attn := s.attn ||| 2, out := {} })

/-- Status page errors (R18): a bus error sets the page error flag and CHAIN_FAULT; a rewrite all of whose writes were
delivered clears the flag; one that failed keeps it and sets CHAIN_FAULT. The error of the full write ends the attach with
CHAIN_FAULT (R2); that of a write issued before the part became DETACHED sets CHAIN_FAULT and leaves the flag clear, by the
model's choice (notes/assumptions/58.md). -/
def Obligations.PageErrors : Prop :=
  ∀ s : State, s.powered = true →
    (s.link.attach = .attached ∨ s.link.attach = .detaching →
      Ends s .statusPageWriteError { s with link := { s.link with pageError := true }, attn := s.attn ||| 2, out := {} })
    ∧ (s.link.attach = .attaching → s.link.stage = .writingPage →
      Ends s .statusPageWriteError { s with link := {}, chains := Vector.replicate 4 {}, attn := s.attn ||| 2, out := {} })
    ∧ (s.link.attach = .detached → Ends s .statusPageWriteError { s with attn := s.attn ||| 2, out := {} })
    ∧ (s.link.rewriting = true →
      Ends s (.statusPageRewriteDone true) { s with link := { s.link with rewriting := false, pageError := false }, out := {} }
      ∧ Ends s (.statusPageRewriteDone false)
          { s with link := { s.link with rewriting := false }, attn := s.attn ||| 2, out := {} })

/-- DETACH (R11): while ATTACHED, DETACHING with every chain STOPPED and its take attempt, if one was under way, ended without
effect (notes/assumptions/13.md), and DETACHED at once with nothing in flight, the page first getting the writes due; while
ATTACHING the attach ends without CHAIN_FAULT (R2); else nothing (R14). -/
def Obligations.Detach : Prop :=
  ∀ s : State, s.powered = true → s.scrub = none →
    let going := { s with
      link := { s.link with attach := .detaching }, out := {}
      chains := s.chains.map fun (x : Chain) =>
        { x with st := .stopped, poll := none, take := .idle, again := none, faultedMeanwhile := false } }
    (s.link.attach = .attached → s.noneInFlight = false → Ends s .detach going)
    ∧ (s.link.attach = .attached → s.noneInFlight = true →
      Ends s .detach { s with link := {}, chains := Vector.replicate 4 {}, out := { notes := [going.pageFields] } })
    ∧ (s.link.attach = .attaching → Ends s .detach { s with link := {}, chains := Vector.replicate 4 {}, out := {} })
    ∧ (s.link.attach = .detached ∨ s.link.attach = .detaching ∧ s.noneInFlight = false →
      Ends s .detach { s with out := {} })

/-- The register window (R13 to R16). A read of 8 bytes returns IDENT, LINK with the attach, box and catalogue states in their
coding, SETUP_ADDR, ATTN or ATTN_EN, and 0 at every other offset and width. A write of 8 bytes is its register's own command, a
write of COMMAND is DETACH, ENGINE_RESET or POWER_CONSENT by its value, and every other write is ignored and changes nothing. A
write of ATTN clears bits 0 to 2 and 4 to 10 only. -/
def Obligations.RegisterWrites : Prop :=
  (∀ (s : State) (v : BitVec 64) (offset width : Nat), s.powered = true →
    Ends s (.attnWrite v) { s with attn := s.attn &&& ~~~(v.setWidth 12 &&& 0x7F7), out := {} }
    ∧ Ends s (.attnEnWrite v) { s with attnEn := v.setWidth 12, out := {} }
    ∧ Ends s (.registerWriteIgnored offset width v) { s with out := {} })
  ∧ (∀ s : State,
    let attach := match s.link.attach with | .detached => 0 | .attaching => 1 | .attached => 2 | .detaching => 3
    let box := match s.box.st with | .run => 0 | .sleepPrep => 1 | .sleep => 2 | .waking => 3
    let cat := match s.cat.st with | .notLoaded => 0 | .loading => 1 | .ready => 2
    s.readRegister 0x00 8 = 0x14410
    ∧ (s.readRegister 0x08 8).toNat = attach + 16 * box + 256 * cat + (if s.link.pageError then 4096 else 0)
    ∧ s.readRegister 0x10 8 = s.link.setupAddr ∧ (s.readRegister 0x20 8).toNat = s.attn.toNat
    ∧ (s.readRegister 0x28 8).toNat = s.attnEn.toNat
    ∧ ∀ offset width : Nat, width ≠ 8 ∨ offset ∉ [0x00, 0x08, 0x10, 0x20, 0x28] → s.readRegister offset width = 0)
  ∧ ∀ (v : BitVec 64) (offset width : Nat), inWindow offset width = true →
    registerWrite 0x10 8 v = .setupAddrWrite v ∧ registerWrite 0x18 8 v = .nudge v ∧ registerWrite 0x20 8 v = .attnWrite v
    ∧ registerWrite 0x28 8 v = .attnEnWrite v ∧ registerWrite 0x30 8 1 = .detach ∧ registerWrite 0x30 8 2 = .engineReset
    ∧ registerWrite 0x30 8 3 = .powerConsent
    ∧ (registerWrite offset width v = .registerWriteIgnored offset width v
      ↔ width ≠ 8 ∨ offset = 0x00 ∨ offset = 0x08 ∨ offset = 0x38 ∨ (offset = 0x30 ∧ v ≠ 1 ∧ v ≠ 2 ∧ v ≠ 3))
    ∧ (ignoredWrite offset width v = true ↔ registerWrite offset width v = .registerWriteIgnored offset width v)

/-- POWER_CONSENT (R14, R186, R187): kept while a wait for consent is in progress before the consent step; in that step it ends
the wait and the box enters SLEEP, with nothing on a list and neither LOAD nor a checkpoint in progress; and without effect when
no such wait is in progress. Entering SLEEP, the drives settle (notes/assumptions/12.md). -/
def Obligations.PowerConsent : Prop :=
  ∀ s : State, s.powered = true →
    (∀ q : Seq, s.box.seq = some q → s.box.consentWait = true →
      (q.step ≠ .consent → Ends s .powerConsent { s with box := { s.box with consentKept := true }, out := {} })
      ∧ (q.step = .consent → s.box.pendingMains = false → s.loadJob = none → s.engine.ckpt = none →
        (∀ d : Fin 4, s.drives[d].ops = [] ∧ s.drives[d].room = []) → Ends s .powerConsent s.asleep.settle))
    ∧ (s.box.seq = none ∨ s.box.consentWait = false → Ends s .powerConsent { s with out := {} })

/-- ENGINE_RESET outside a box sequence (R12): DETACHED, every job abandoned, the streams CLOSED, the catalogue NOT_LOADED,
the repair list empty; ATTN, ATTN_EN, the configuration, the clock and the box are kept; READY, STARTING and STOPPING drives
have their ports reset, and every other port is IDLE (R138), one that was RESETTING after a WAKE's timeout among them by the
model's choice (notes/assumptions/83.md). Every drive keeps its power state, its rail, its temperature
measurements with the HOT flag, its fault latches, its service level, its score and its snapshot (R138, R148, R174); its lists
are empty with the credit full, its label and its identified flag are gone, its start-up phase, demands, pending park, idle and
rail timers are cleared, and its streaks of NO_ANSWER and of failed starts are 0 (R90, R138, R142, R148, R149, R154). A STARTING
drive makes its wake again and a STOPPING one its standby (R138). Then the drives settle (notes/assumptions/12.md). -/
def Obligations.EngineReset : Prop :=
  ∀ s : State, s.powered = true → s.box.seq = none →
    Ends s .engineReset
      (State.settle
        { s with
          link := {}, chains := Vector.replicate 4 {}, jobs := [], offers := [], startQueue := []
          streams := Vector.replicate 8 {}, cat := {}, engine := {}, repair := {}, scrub := none
          drives := s.drives.map fun (x : Drive) =>
            { x with
              label := none, identified := false, ops := [], room := [], credit := s.cfg.credit, startup := none, demands := []
              park := none, noAnswer := 0, startFails := 0, railGrace := none, idle := none, idleCond := false, idleHeld := false
              port := if x.power = .ready ∨ x.power = .starting ∨ x.power = .stopping then .engineResetting else .idle
              wakeAsked := x.power == .starting && x.fromParked
              standbyAsked := x.power == .stopping }
          out := { acts := (drives4.filter fun d => s.drives[d].power == .ready || s.drives[d].power == .starting
            || s.drives[d].power == .stopping).map fun d => .portReset d } })

/-! ## Configuration and timekeeping -/

/-- Whatever the 512 bytes are, what a configuration block installs lies within the ranges of the table, and its default ranges
are never left (R21, R25): a value within its range is taken as given, and one outside is taken as the nearer end, the ranges of
MINLEN and of the recover threshold following from the clamped MAXLEN and hot threshold (R22); a verify code other than 1 and 2
is STRICT, an idle park time of 1 to 59 is 60, a setup list is its first 16 entries, each taken as given, and the wake enables are
four flags of which none is ever clamped. CONFIGURE's aux is the number of values that had to change, and its status says whether
there were any; word 0 is the number of the first such field in table order, or 0, word 1 the mask of the drives with such a
per-drive value, and word 2 is 0 (R21). -/
def Obligations.ConfigurationInRange : Prop :=
  ∀ r : List Byte,
    let c := (readCfg r).1
    let result := configureResult (readCfg r).2
    let drive := fun (d : Fin 4) (o n : Nat) => field r (64 + 16 * d.val + o) n
    let plain : List (Nat × Nat × Nat × Nat × Nat) :=
      [(2, 11, 18, field r 1 1, c.k), (4, 4096, 1048576, field r 8 4, c.maxLen), (3, 512, c.maxLen, field r 4 4, c.minLen),
       (6, 1, 2, field r 3 1, c.copies), (7, 16, 24, field r 12 1, c.e), (8, 10, 255, field r 13 1, c.mainsBudget),
       (9, 0, 255, field r 14 1, c.batteryBudget), (16, 30, 80, field r 15 1, c.hot),
       (17, c.hot - 20, c.hot - 1, field r 16 1, c.recover), (18, 10, 3600, field r 20 2, c.hotGrace),
       (19, 1, 255, field r 17 1, c.mediaLimit), (20, 1, 50, field r 18 1, c.leak), (21, 1, 10, field r 19 1, c.railGrace),
       (22, 0, 600, field r 22 2, c.holdTime), (23, 1, 64, field r 24 1, c.credit)]
    let perDrive := fun d : Fin 4 =>
      ([(10, 1, 100, drive d 0 1, c.drive[d].spinUp), (11, 1, 50, drive d 1 1, c.drive[d].run),
        (12, 0, 20, drive d 2 1, c.drive[d].park), (14, 5, 60, drive d 3 1, c.drive[d].startTimeout),
        (13, if drive d 4 2 = 0 then 0 else 60, 65535, drive d 4 2, c.drive[d].idlePark)] : List (Nat × Nat × Nat × Nat × Nat))
    let changed := fun x : Nat × Nat × Nat × Nat × Nat => x.2.2.2.1 != x.2.2.2.2
    let tooLong := fun d : Fin 4 => decide (16 < drive d 6 1)
    let clamped : List Nat :=
      ((plain ++ drives4.flatMap perDrive).filter changed).map (·.1) ++ (if field r 2 1 = 1 ∨ field r 2 1 = 2 then [] else [5])
        ++ (drives4.filter tooLong).map fun _ => 15
    (∀ x ∈ plain ++ drives4.flatMap perDrive, Clamps x.2.1 x.2.2.1 x.2.2.2.1 x.2.2.2.2)
    ∧ c.poll = field r 0 1 ∧ c.strict = decide (field r 2 1 ≠ 2)
    ∧ (∀ d : Fin 4, c.drive[d].setup.length = min (drive d 6 1) 16
      ∧ ∀ i : Nat, i < min (drive d 6 1) 16 →
        c.drive[d].setup[i]?
          = some (BitVec.ofNat 16 (field r (128 + 64 * d.val + 4 * i) 2), BitVec.ofNat 16 (field r (128 + 64 * d.val + 4 * i + 2) 2)))
    ∧ (c.wakeNetwork = (r.getD 25 0).getLsbD 0 ∧ c.wakeButton = (r.getD 25 0).getLsbD 1 ∧ c.wakeAlarm = (r.getD 25 0).getLsbD 2
      ∧ c.wakeMains = (r.getD 25 0).getLsbD 3)
    ∧ result.aux = clamped.length
    ∧ (result.status = .ok ↔ clamped = []) ∧ (result.status = .okClamped ↔ clamped ≠ [])
    ∧ result.w0 = BitVec.ofNat 32 (clamped.min?.getD 0)
    ∧ (∀ d : Fin 4, result.w1.getLsbD d.val = ((perDrive d).any changed || tooLong d)) ∧ result.w1.toNat < 16
    ∧ result.w2 = 0

/-- CONFIGURE (R20, R23, R24): a block address of 0 is refused, else the 512-byte block is read. When the read has ended, a
bus error changes nothing but the job; else the whole configuration is installed, the poll timers of STALLED chains, but by the
model's choice not of one whose take attempt is under way (notes/assumptions/81.md), and the running idle timers restart, credits above the new credit drop to it, the drives settle (notes/assumptions/12.md), and the job
reports. The media limits are taken to lie above the scores. -/
def Obligations.Configure : Prop :=
  ∀ (s : State) (j : Job) (block : Addr),
    (s.carries 0 j → j.req = .configure block →
      (block = 0 → Ends s .configure (s.reports j { status := .badParam }))
      ∧ (block ≠ 0 → Ends s .configure (s.goesTo j .configRead [.hostRead block 512])))
    ∧ (s.holds j → s.configJob = some j.id →
      Ends s (.configBlockReadDone none) (s.reports j { status := .hostMemoryError })
      ∧ ∀ b : List Byte,
        let c := (readCfg b).1
        (∀ d : Fin 4, s.drives[d].score < c.mediaLimit) →
        Ends s (.configBlockReadDone (some b))
          ((State.settle
            { s with
              cfg := c, out := {}
              chains := s.chains.map fun (x : Chain) =>
                if x.st = .stalled ∧ x.take = .idle then { x with poll := if c.poll = 0 then none else some c.poll } else x
              drives := Vector.ofFn fun d => ({ s.drives[d] with
                idle := if s.drives[d].idle.isSome then (if c.drive[d].idlePark = 0 then none else some c.drive[d].idlePark) else none
                credit := min s.drives[d].credit c.credit } : Drive) }).complete j.id (configureResult (readCfg b).2)))

/-- CLOCK_TICK: the counter rises by 1, wrapping, and nothing else changes when no slot is due (R26). One one-shot slot that is due
is disabled, and acts by R31: in RUN, ATTENTION sets ALARM, and PRESTART raises a demand for each drive of its mask that is
UNPOWERED or PARKED, and the drives settle (notes/assumptions/12.md); in SLEEP, WAKE wakes the box when its source is enabled and
the battery not low, and PRESTART's mask is kept for it; in RUN, WAKE does nothing. -/
def Obligations.ClockTick : Prop :=
  ∀ s : State, s.powered = true →
    let next : Clock := { s.clock with count := s.clock.count + 1 }
    ((∀ n : Fin 4, s.clock.alarms[n].due next = false) → Ends s .clockTick { s with clock := next, out := {} })
    ∧ ∀ n : Fin 4, s.clock.alarms[n].due next = true → s.clock.alarms[n].period = 0 →
      (∀ m : Fin 4, m ≠ n → s.clock.alarms[m].due next = false) →
      let a := s.clock.alarms[n]
      let fired := { s with clock := { next with alarms := s.clock.alarms.set n { a with enable := false } }, out := {} }
      (s.box.st = .run → a.attention = true → a.prestart = false → Ends s .clockTick { fired with attn := s.attn ||| 0x200 })
      ∧ (s.box.st = .run → a.prestart = true → a.mask ≠ 0 →
        Ends s .clockTick
          (State.settle
            { fired with
              attn := if a.attention then s.attn ||| 0x200 else s.attn
              drives := Vector.ofFn fun d =>
                let x := s.drives[d]
                if a.mask.getLsbD d.val = true ∧ (x.power = .unpowered ∨ x.power = .parked) ∧ x.failed = false
                    ∧ DemandBy.prestart ∉ x.demands then { x with demands := x.demands ++ [.prestart] }
                else x }))
      ∧ (s.box.st = .sleep → a.wake = true → s.cfg.wakeAlarm = true → s.box.battLow = false →
        Ends s .clockTick
          { fired with
            box := { s.box with
              st := .waking, wakeReason := { alarm := true }, rail1 := true, rail2 := false, fromSleep := true, pendingMains := false
              keptPrestart := if a.prestart then a.mask else 0 }
            out := { acts := [.hostRail 0 true] } })
      ∧ (s.box.st = .sleep → a.wake = false ∨ s.cfg.wakeAlarm = false ∨ s.box.battLow = true → Ends s .clockTick fired)

/-- A repeating slot that fires takes the first of its times above the counter, or is disabled when that time would not fit in
32 bits (R30). -/
def Obligations.AlarmRepeats : Prop :=
  ∀ (a : Alarm) (count : BitVec 32), 0 < a.period → a.enable = true → a.time.toNat ≤ count.toNat →
    let b := a.afterFire count
    (b.enable = true → count.toNat < b.time.toNat ∧ b.time.toNat ≤ count.toNat + a.period
      ∧ (b.time.toNat - a.time.toNat) % a.period = 0)
    ∧ (b.enable = false → 4294967295 < a.time.toNat + ((count.toNat - a.time.toNat) / a.period + 1) * a.period)

/-- SET_CLOCK with no slot due at the new time (R27): the counter and its valid flag are set, CLOCK_INVALID is cleared, and
the job reports the previous counter and flag. -/
def Obligations.SetClock : Prop :=
  ∀ (s : State) (j : Job) (v : BitVec 32), s.carries 0 j → j.req = .setClock v →
    (∀ n : Fin 4, s.clock.alarms[n].due { s.clock with count := v, valid := true } = false) →
    Ends s .setClock
      { s.reports j { aux := if s.clock.valid then 1 else 0, w0 := s.clock.count } with
        clock := { s.clock with count := v, valid := true }, attn := s.attn &&& ~~~0x800 }

/-- SET_ALARM (R29): a slot above 3 is refused; else the slot takes its new contents, a non-zero period clamped to 60 to 2^31,
and the job reports the previous contents. The new contents are taken not to be due. -/
def Obligations.SetAlarm : Prop :=
  ∀ (s : State) (j : Job) (slot : Nat) (actions mask : Byte) (enable : Bool) (time : BitVec 32) (period : Nat),
    s.carries 0 j → j.req = .setAlarm slot actions mask enable time period →
    (4 ≤ slot → Ends s .setAlarm (s.reports j { status := .badParam }))
    ∧ ∀ n : Fin 4, n.val = slot →
      let a : Alarm :=
        { time := time, wake := actions.getLsbD 0, prestart := actions.getLsbD 1, attention := actions.getLsbD 2
          mask := mask.setWidth 4, enable := enable
          period := if period = 0 then 0 else if period < 60 then 60 else if 2147483648 < period then 2147483648 else period }
      a.due s.clock = false →
      Ends s .setAlarm
        { s.reports j
            { status := if a.period = period then .ok else .okClamped, aux := if a.period = period then 0 else 1
              w0 := s.clock.alarms[n].time, w1 := BitVec.ofNat 32 s.clock.alarms[n].period
              w2 := BitVec.ofNat 32
                ((if s.clock.alarms[n].wake then 1 else 0) + (if s.clock.alarms[n].prestart then 2 else 0)
                  + (if s.clock.alarms[n].attention then 4 else 0) + 256 * s.clock.alarms[n].mask.toNat
                  + if s.clock.alarms[n].enable then 65536 else 0) } with
          clock := { s.clock with alarms := s.clock.alarms.set n a } }

/-! ## Streams -/

/-- OPEN_STREAM on a CLOSED stream (R49): a stream number above 7 is refused, and so is a catalogue that is not READY; else
the stream is OPEN with the values of R34 and the job reports them. -/
def Obligations.OpenStream : Prop :=
  ∀ (s : State) (j : Job) (k v c mn mx : Nat), s.carries 2 j →
    (∀ n, 8 ≤ n → j.req = .openStream n k v c mn mx → Ends s .openStream (s.reports j { status := .badParam }))
    ∧ ∀ n : Fin 8, j.req = .openStream n.val k v c mn mx → s.streams[n] = {} →
      (s.cat.st ≠ .ready → Ends s .openStream (s.reports j { status := .noCatalogue }))
      ∧ (s.cat.st = .ready →
        Ends s .openStream
          { s.reports j (openStream s.cfg [] k v c mn mx).2 with
            streams := s.streams.set n (openStream s.cfg [] k v c mn mx).1 })

/-- What OPEN_STREAM opens (R34, R49): a parameter given as 0 takes the stream default in force; a value within its range is
taken as given and one outside as the nearer end, MAXLEN first and MINLEN up to the clamped MAXLEN; a verify code above 2 is
STRICT and a number of copies above 2 is 2. Aux is the number of values that had to change, the status says whether there were
any, and words 0 to 2 are MINLEN, MAXLEN and k as taken. The stream is OPEN with nothing in staging or in its window. -/
def Obligations.OpenStreamValues : Prop :=
  ∀ (cfg : Cfg) (l : List Nat) (k v c mn mx : Nat),
    let o := openStream cfg l k v c mn mx
    let asked := fun (given dflt : Nat) => if given = 0 then dflt else given
    let taken : List (Nat × Nat × Nat × Nat) :=
      [(11, 18, asked k cfg.k, o.1.k), (4096, 1048576, asked mx cfg.maxLen, o.1.maxLen),
       (512, o.1.maxLen, asked mn cfg.minLen, o.1.minLen)]
    (∀ x ∈ taken, Clamps x.1 x.2.1 x.2.2.1 x.2.2.2)
    ∧ o.1.strict = (if v = 0 then cfg.strict else decide (v ≠ 2)) ∧ o.1.copies = (if c = 0 then cfg.copies else min c 2)
    ∧ o.2.aux = taken.countP (fun x => x.2.2.1 != x.2.2.2) + (if 2 < v then 1 else 0) + (if 2 < c then 1 else 0)
    ∧ o.2.status = (if o.2.aux = 0 then .ok else .okClamped)
    ∧ o.2.w0 = BitVec.ofNat 32 o.1.minLen ∧ o.2.w1 = BitVec.ofNat 32 o.1.maxLen ∧ o.2.w2 = BitVec.ofNat 32 o.1.k
    ∧ o.1.st = .opened ∧ o.1.cur = [] ∧ o.1.window = [] ∧ o.1.h = 0 ∧ o.1.crc = BitVec.allOnes 64 ∧ o.1.held = false
    ∧ o.1.finished = 0 ∧ o.1.new = 0 ∧ o.1.lost = 0

/-- A FEED that reaches the head of an OPEN stream's empty list with a window that is empty: the stream is FEEDING and the
source is read (R48, R50), by one read of the whole buffer (notes/assumptions/47.md). A bad parameter is refused, and so is a
stream number above 7. -/
def Obligations.FeedStarts : Prop :=
  ∀ (s : State) (j : Job) (len : Nat) (src recipe : Addr) (cap : Nat), s.carries 2 j →
    (∀ n, 8 ≤ n → j.req = .feed n len src recipe cap → Ends s .feed (s.reports j { status := .badParam }))
    ∧ ∀ n : Fin 8, j.req = .feed n.val len src recipe cap →
    (src = 0 ∨ len = 0 ∨ 2147483647 < len ∨ goodAddr 32 recipe = false ∨ cap = 0 →
      Ends s .feed (s.reports j { status := .badParam }))
    ∧ (src ≠ 0 → len ≠ 0 → len ≤ 2147483647 → goodAddr 32 recipe = true → cap ≠ 0 → s.streams[n].st = .opened →
      s.streams[n].list = [] → s.streams[n].window = [] → s.streams[n].held = false →
      Ends s .feed
        { s.goesTo j (.stream { stream := n, recipe := recipe, capacity := cap, src := src, left := len, active := true })
            [.hostRead src len] with
          streams := s.streams.set n { s.streams[n] with st := .feeding, list := [j.id] } })

/-- The cut test (R36): after each byte the current chunk is cut when L equals MAXLEN, or when L is at or above MINLEN and h is
below the threshold; when neither holds nothing but the byte is taken, and L stays below MAXLEN. With fewer than three unfinished
chunks in the window the chunk that is cut joins it at its tail, with its length, its fingerprint and its bytes, and the cut
state starts again (R37); else the cut is held, no byte is taken while it is, and it is made when the window has room (R38). A
byte moves L, the rolling hash and the CRC register of its own stream as R35 and R43 state. -/
def Obligations.CutKey : Prop :=
  (∀ (s : State) (n : Fin 8) (b : Byte) (l : List Byte),
      let x := s.streams[n].takeByte b
      let meets := x.cur.length = x.maxLen ∨ (x.minLen ≤ x.cur.length ∧ x.h.toNat < 2 ^ (32 - x.k))
      (s.streams[n].held = false →
        (meets → x.window.length < 3 →
          s.takeBytes n [b] = ({ s with nextId := s.nextId + 1, streams := s.streams.set n (x.cutAs s.nextId) }, []))
        ∧ (meets → 3 ≤ x.window.length → s.takeBytes n [b] = ({ s with streams := s.streams.set n { x with held := true } }, []))
        ∧ (¬meets → s.takeBytes n [b] = ({ s with streams := s.streams.set n x }, []))
        ∧ (s.streams[n].cur.length < x.maxLen → x.cur.length ≤ x.maxLen)
        ∧ (s.takeBytes n (b :: l)) = (s.takeBytes n [b]).1.takeBytes n l)
      ∧ (s.streams[n].held = true → s.takeBytes n l = (s, l)
        ∧ s.makeHeld n = if s.streams[n].window.length < 3
          then { s with nextId := s.nextId + 1, streams := s.streams.set n (s.streams[n].cutAs s.nextId) } else s))
  ∧ ∀ (x : Stream) (b : Byte) (id : Nat), x.crc = x.cur.foldl crc64Byte (BitVec.allOnes 64) →
    (x.takeByte b).h.toNat = (2 * x.h.toNat + (b.toNat + 1) * 2654435761) % 4294967296
    ∧ (x.takeByte b).cur = x.cur ++ [b]
    ∧ (x.takeByte b).crc = (x.takeByte b).cur.foldl crc64Byte (BitVec.allOnes 64)
    ∧ crc64Byte x.crc b
      = (List.range 8).foldl (fun r _ => if r.msb then (r <<< 1) ^^^ 0x42F0E1EBA9EA3693#64 else r <<< 1) (x.crc ^^^ (b.setWidth 64 <<< 56))
    ∧ fingerprint x.cur = ~~~x.crc
    ∧ (x.cutAs id).window
      = x.window ++ [{ id := id, key := { fp := fingerprint x.cur, len := x.cur.length }, bytes := x.cur, own := x.curOwn, owner := x.active }]
    ∧ (x.cutAs id).cur = [] ∧ (x.cutAs id).h = 0 ∧ (x.cutAs id).crc = BitVec.allOnes 64 ∧ (x.cutAs id).held = false

/-- Source bytes too few for a cut are taken into the current chunk one by one (R35, R36). A source read that ends in a bus
error with no byte waiting and no chunk unfinished: the FEED hands over and reports HOST_MEMORY_ERROR with the bytes it has
taken, and the stream is OPEN with its current chunk kept (R41, R51, R65). -/
def Obligations.SourceReads : Prop :=
  ∀ (s : State) (j : Job) (n : Fin 8) (w : StreamWork), s.holds j → j.phase = .stream w → s.activeFeed n = some (j.id, w) →
    w.buf = [] → s.streams[n].held = false → s.streams[n].window = [] →
    (∀ bytes : List Byte, bytes.length < w.left → s.streams[n].cur.length + bytes.length < s.streams[n].minLen →
      s.streams[n].cur.length + bytes.length < s.streams[n].maxLen →
      Ends s (.sourceReadDone n bytes)
        { s.goesTo j (.stream { w with left := w.left - bytes.length }) [] with
          streams := s.streams.set n (bytes.foldl Stream.takeByte s.streams[n]) })
    ∧ (w.stream = n → s.streams[n].list = [j.id] →
      Ends s (.sourceReadBusError n)
        { s.reports j
            { status := w.status.worse .hostMemoryError, aux := min w.lost 65535
              w0 := BitVec.ofNat 32 (w.consumed + s.streams[n].curOwn), w1 := BitVec.ofNat 32 w.written, w2 := BitVec.ofNat 32 w.new } with
          streams := s.streams.set n { s.streams[n] with st := .opened, list := [], curOwn := 0 } })

/-- CLOSE_STREAM reaching the head of an OPEN stream's list with an empty window (R42, R66, R67). With nothing in staging, or
with DISCARD, the stream is CLOSED, its context discarded, and the job reports the stream's totals, saturating. Without DISCARD a
current chunk is cut, the job owns it, its resolution is requested, and the stream is CLOSING until the window is empty. With SEAL
the job waits with its result for the checkpoint that it requests, which starts with both catalogue drives READY; the drives
settle (notes/assumptions/12.md). A chunk ended meanwhile is a RESOLVING one of the window: the stream then stays CLOSING. -/
def Obligations.CloseStream : Prop :=
  ∀ (s : State) (j : Job) (n : Fin 8) (recipe : Addr) (cap : Nat) (discard withSeal : Bool), s.carries 2 j →
    j.req = .closeStream n.val recipe cap discard withSeal →
    let x := s.streams[n]
    let result : Result :=
      { w0 := BitVec.ofNat 32 (min x.finished.toNat 4294967295), w1 := BitVec.ofNat 32 (min x.new.toNat 4294967295)
        w2 := BitVec.ofNat 32 (min x.lost.toNat 4294967295) }
    let work : StreamWork := { stream := n, recipe := recipe, capacity := cap, discard := discard, withSeal := withSeal, active := true }
    (goodAddr 32 recipe = false ∨ cap = 0 → Ends s .closeStream (s.reports j { status := .badParam }))
    ∧ (goodAddr 32 recipe = true → cap ≠ 0 → x.st = .opened → x.list = [] → x.internal = false →
      (x.window = [] → x.held = false →
        (x.cur = [] ∨ discard = true → withSeal = false →
          Ends s .closeStream { s.reports j result with streams := s.streams.set n {} })
        ∧ (x.cur ≠ [] → discard = false →
          Ends s .closeStream
            { s.goesTo j (.stream work) [] with
              nextId := s.nextId + 1
              engine := { s.engine with requests := s.engine.requests ++ [.resolution n s.nextId] }
              streams := s.streams.set n
                { x with
                  st := .closing, list := [j.id], h := 0, crc := BitVec.allOnes 64, cur := [], curOwn := 0
                  window :=
                    [{ id := s.nextId, key := { fp := ~~~x.crc, len := x.cur.length }, bytes := x.cur, own := x.curOwn
                       owner := some j.id, phase := .resolving }] } })
        ∧ (x.cur = [] ∨ discard = true → withSeal = true → s.cat.st = .ready → s.engine.ckpt = none → s.engine.queued = none →
          (∀ i : Fin 2, s.member (catDrive i) = true ∧ s.drives[catDrive i].usable = true ∧ s.drives[catDrive i].power = .ready) →
          Ends s .closeStream
            (State.settle { s.goesTo j (.sealing result) [] with
              streams := s.streams.set n {}
              engine := { s.engine with
                ckpt := some { reqs := [.sealed j.id], d0 := .prepared, d1 := .prepared, asked := true }
                holdQueue := s.engine.holdQueue ++ [.checkpoint] } })))
      ∧ ∀ c : Chunk, x.window = [c] → c.phase.resolvingNow = true → discard = true →
        Ends s .closeStream
          { s.goesTo j (.stream work) [] with
            streams := s.streams.set n { x.fresh with st := .closing, list := [j.id] } })

/-- A reference delivered (R53): its chunk is RESOLVED and its owner counts the reference and the bytes; then the stream goes
on (in the order of notes/assumptions/12.md). When it fills the last slot of a FEED that has more stream bytes, source bytes or
bytes behind this chunk, the FEED stops with at least PARTIAL, and the stream is rewound to the end of this chunk (R54). A
reference write that meets a bus error (R53): the chunk is RESOLVED all the same, its slot is not counted and no later write is
made for it, the owner stops taking bytes with at least HOST_MEMORY_ERROR, and the stream is rewound, the later chunks
withdrawn. The chunk's outcome is taken to be still open. A rewritten reference delivered or not (R64): the chunk leaves the
window, the stream's and the owner's totals count its outcome, a bus error counts HOST_MEMORY_ERROR, and the stream goes on. The
owner is taken not to have handed over. -/
def Obligations.ReferenceWrites : Prop :=
  ∀ (s : State) (j : Job) (n : Fin 8) (c : Chunk) (w : StreamWork), s.holds j → j.phase = .stream w → c.owner = some j.id →
    let before := s.streams[n].window.takeWhile fun x => x.id != c.id
    let more := w.left ≠ 0 ∨ s.streams[n].cur ≠ [] ∨ s.streams[n].window ≠ before ++ [c]
    let full := (∃ m len src recipe cap, j.req = .feed m len src recipe cap) ∧ w.written + 1 = w.capacity ∧ more
    let counted : StreamWork := { w with written := w.written + 1, consumed := w.consumed + c.own }
    let rewound := fun x : Chunk =>
      { s.streams[n] with window := before ++ [x], h := 0, crc := BitVec.allOnes 64, held := false, cur := [], curOwn := 0 }
    (s.referencing n = some c → s.chunk n c.id = some c → c.outcome = none →
      (¬full → Ends s (.referenceWriteDone n true)
        (((State.settleStream
          { s.goesTo j (.stream counted) [] with
            streams := s.streams.set n
              { s.streams[n] with
                window := s.streams[n].window.map fun x => if x.id = c.id then { x with phase := .resolved } else x } } n)).afterCkpt s))
      ∧ (full → Ends s (.referenceWriteDone n true)
        (((State.settleStream
          { s.goesTo j (.stream { counted with stopped := true, buf := [], status := w.status.worse .partialStop }) [] with
            streams := s.streams.set n (rewound { c with phase := .resolved }) } n)).afterCkpt s))
      ∧ Ends s (.referenceWriteDone n false)
        (((State.settleStream
          { s.goesTo j (.stream { w with stopped := true, buf := [], status := w.status.worse .hostMemoryError }) [] with
            streams := s.streams.set n (rewound { c with phase := .resolved, slot := none, mute := true }) } n)).afterCkpt s))
    ∧ ∀ (o : ChunkOutcome) (delivered : Bool), s.chunkIn n c.id .rewriting = some c → c.outcome = some o → w.ended = false →
      Ends s (.referenceRewriteDone n c.id delivered)
        (((State.settleStream
          { s.goesTo j
              (.stream ((if delivered then w else { w with status := w.status.worse .hostMemoryError }).count c o)) [] with
            streams := s.streams.set n
              { s.streams[n] with
                window := s.streams[n].window.filter fun x => x.id != c.id
                finished := s.streams[n].finished + 1
                new := if o = .new then s.streams[n].new + 1 else s.streams[n].new
                lost := if o = .lost then s.streams[n].lost + 1 else s.streams[n].lost } } n)).afterCkpt s)

/-! ## The chunk catalogue -/

/-- A request that the Catalogue Engine comes to while a hold stands joins the held list in its order, whichever of the rows
it belongs to, and changes nothing else (R87, R88). A request that the Catalogue Engine comes to while no hold stands leaves
the queue and is taken (R80); when it began a checkpoint, the start requests of that checkpoint are looked at. -/
def Obligations.CatalogueRequests : Prop :=
  (∀ (s : State) (q : CatReq) (l : List CatReq), s.powered = true → s.engine.requests = q :: l → s.engine.hold.isSome = true →
      Ends s q.row { s with engine := { s.engine with requests := l, held := s.engine.held ++ [q] }, out := {} })
  ∧ (∀ (s : State) (q : CatReq) (l : List CatReq), s.powered = true → s.engine.requests = q :: l → s.engine.hold = none →
      Ends s q.row ((State.takeRequest { s with engine := { s.engine with requests := l }, out := {} } q).afterCkpt s))

/-- RETAIN and RELEASE are checked (R82, R70) and read their lists. When the read has ended, a bus error completes the job
with HOST_MEMORY_ERROR; else its first reference becomes a request to the Catalogue Engine (R82). -/
def Obligations.ReferenceLists : Prop :=
  ∀ (s : State) (j : Job) (list : Addr) (n : Nat),
    (∀ c : Instr, (c = .retain ∧ j.req = .retain list n) ∨ (c = .release ∧ j.req = .release list n) → s.carries 2 j →
      (n = 0 ∨ 4096 < n ∨ goodAddr 32 list = false → Ends s c (s.reports j { status := .badParam }))
      ∧ (1 ≤ n → n ≤ 4096 → goodAddr 32 list = true → s.cat.st ≠ .ready → Ends s c (s.reports j { status := .noCatalogue }))
      ∧ (1 ≤ n → n ≤ 4096 → goodAddr 32 list = true → s.cat.st = .ready →
        Ends s c (s.goesTo j .refList [.hostRead list (32 * n)])))
    ∧ (s.holds j → j.phase = .refList →
      Ends s (.referenceListReadDone j.id none) (s.reports j { status := .hostMemoryError })
      ∧ ∀ b : List Byte,
        (j.req = .retain list n → Ends s (.referenceListReadDone j.id (some b))
          { s.goesTo j (.refs { refs := readRefs n b }) [] with
            engine := { s.engine with requests := s.engine.requests ++ [.retainRef j.id] } })
        ∧ (j.req = .release list n → Ends s (.referenceListReadDone j.id (some b))
          { s.goesTo j (.refs { refs := readRefs n b }) [] with
            engine := { s.engine with requests := s.engine.requests ++ [.releaseRef j.id] } }))

/-- One reference of a RETAIN or a RELEASE (R83, R84, R85): a count below 65,535 rises by 1, a count from 2 to 65,534 falls by 1,
a count of 1 removes the entry, giving its copies up, and a count of 65,535 is pinned; a key without an entry is missing; a PENDING
entry makes the request wait; an UNINDEXED reference is not retained, and its release gives each of its locations back, none with
LOST, copy A's alone with ONE_COPY: an AU that is no chunk AU, or live sectors that do not suffice, count an accounting error.
The next reference then is a request in its turn (R82), and the last one ends the job, which reports the references done, the
UNINDEXED ones of a RETAIN or the entries that a RELEASE removed, the references not found and, in aux, those pinned; its status is
NOT_FOUND with one not found, else OK_CLAMPED for a RETAIN with one pinned and a RELEASE with an accounting error, else OK (R86). -/
def Obligations.ReferenceCounts : Prop :=
  (∀ (s : State) (j : Job) (w : RefWork) (r : Ref) (rest : List Ref) (l : List CatReq), s.holds j → j.phase = .refs w →
    w.refs = r :: rest → s.engine.hold = none →
    let result := fun (w : RefWork) (clamped : Bool) =>
      ({ status := if w.missing ≠ 0 then .notFound else if clamped then .okClamped else .ok, aux := min w.pinned 65535
         w0 := BitVec.ofNat 32 w.done, w1 := BitVec.ofNat 32 w.other, w2 := BitVec.ofNat 32 w.missing } : Result)
    let goesOn := fun (q : CatReq) (v : RefWork) (clamped : Bool) =>
      if rest = [] then { s.reports j (result v clamped) with engine := { s.engine with requests := l } }
      else { s.goesTo j (.refs { v with refs := rest }) [] with engine := { s.engine with requests := l ++ [q] } }
    let waits := fun q : CatReq =>
      { s with engine := { s.engine with requests := l, waiters := s.engine.waiters ++ [q] }, out := {} }
    (s.engine.requests = .retainRef j.id :: l →
      let retained := fun v : RefWork => goesOn (.retainRef j.id) v (v.pinned != 0)
      (r.unindexed = true → Ends s .retainReference (retained { w with other := w.other + 1 }))
      ∧ (r.unindexed = false → (∀ slot e, s.cat.lookup r.key ≠ .found slot e) →
        Ends s .retainReference (retained { w with missing := w.missing + 1 }))
      ∧ ∀ (slot : Nat) (e : Entry), r.unindexed = false → s.cat.lookup r.key = .found slot e →
        (e.st = .pending → Ends s .retainReference (waits (.retainRef j.id)))
        ∧ (e.st ≠ .pending → e.refcount < 65535 → Ends s .retainReference
          { retained { w with done := w.done + 1 } with cat := s.cat.setSlot slot (some { e with refcount := e.refcount + 1 }) })
        ∧ (e.st ≠ .pending → e.refcount = 65535 → Ends s .retainReference (retained { w with pinned := w.pinned + 1 })))
    ∧ (s.engine.requests = .releaseRef j.id :: l →
      let released := fun v : RefWork => goesOn (.releaseRef j.id) v v.accounting
      (r.unindexed = true → Ends s .releaseReference
        { released { w with done := w.done + 1, accounting := w.accounting || s.cat.errs fun c => c.releaseUnindexed r } with
          cat := s.cat.releaseUnindexed r })
      ∧ (r.unindexed = false → (∀ slot e, s.cat.lookup r.key ≠ .found slot e) →
        Ends s .releaseReference (released { w with missing := w.missing + 1 }))
      ∧ ∀ (slot : Nat) (e : Entry), r.unindexed = false → s.cat.lookup r.key = .found slot e →
        (e.st = .pending → Ends s .releaseReference (waits (.releaseRef j.id)))
        ∧ (e.st ≠ .pending → 1 < e.refcount → e.refcount < 65535 → Ends s .releaseReference
          { released { w with done := w.done + 1 } with cat := s.cat.setSlot slot (some { e with refcount := e.refcount - 1 }) })
        ∧ (e.st ≠ .pending → e.refcount = 1 → Ends s .releaseReference
          { released
              { w with done := w.done + 1, other := w.other + 1, accounting := w.accounting || s.cat.errs fun c => c.remove slot e } with
            cat := s.cat.remove slot e })
        ∧ (e.st ≠ .pending → e.refcount = 65535 → Ends s .releaseReference (released { w with pinned := w.pinned + 1 }))))
  ∧ ∀ (k : Cat) (r : Ref),
    let sectors := (r.key.len + 4095) / 4096
    let error := fun c : Cat => { c with accounting := if c.accounting < 4294967295 then c.accounting + 1 else c.accounting }
    let back := fun (c : Cat) (drive sector : Nat) =>
      if h : drive < 4 then
        let d : Fin 4 := ⟨drive, h⟩
        let a := sector / 1024
        if c.geo.firstChunkAu d ≤ a ∧ a < c.geo.au[d] then
          let live := (c.au d a).live
          let left := c.setAuTested d a { c.au d a with live := live - sectors }
          if sectors ≤ live then left else error left
        else error c
      else error c
    k.releaseUnindexed r
      = if r.lost then k
        else if r.oneCopy then back k r.driveA r.sectorA
        else back (back k r.driveA r.sectorA) r.driveB r.sectorB

/-- A duplicate of a LIVE entry, without a compare for a stream that is not STRICT (R58) and after the verdict EQUAL for a STRICT
one (R60): the entry takes a count (R57, R78), the chunk is a duplicate, and its reference is written into its FEED's next recipe
slot (R53); then the stream goes on (notes/assumptions/12.md). A chunk that is stored: placement finds a drive for copy A and, when
two copies are wanted, another for copy B (R55, R94, R95), the sectors are reserved, a CHUNK_WRITE of each is offered in class BULK
with the chunk's bytes filled up with zeros, and the reference is written, with ONE_COPY when copy A alone was placed. A new chunk
becomes a PENDING entry with refcount 1 in the FREE slot (R55); a chunk without room in its window is stored unindexed, its
reference with UNINDEXED and the locations (R56); so is a collision, counted, of the verdict DIFFERENT (R60) and of a PENDING entry
whose staged bytes differ (R61; one without staged bytes is met so by the model's choice, notes/assumptions/63.md); a DAMAGED
entry, and one that the verdict NO_GOOD_COPY makes DAMAGED, takes a count, gives its copies up and is PENDING with the placed ones
(R60, R62). With no candidate for copy A the chunk is refused: it and the later chunks are withdrawn, the stream is rewound to the cut
that began it, and its owner stops taking bytes with at least NO_SPACE (R63). -/
def Obligations.ChunkResolution : Prop :=
  (∀ (s : State) (n : Fin 8) (c : Chunk) (o slot : Nat) (w : StreamWork) (e : Entry) (l : List CatReq), s.powered = true →
      s.engine.hold = none → s.cat.lookup c.key = .found slot e → e.st = .live → c.owner = some o → s.work o = some w →
      let f := { e with
        refcount := if e.refcount < 65535 then e.refcount + 1 else e.refcount
        wanted := if s.streams[n].copies = 2 then 2 else e.wanted }
      let r : Ref := { key := c.key, oneCopy := (s.presentCopies f).length == 1 }
      let t := State.settleStream
        { s with
          engine := { s.engine with requests := l }
          cat := s.cat.setSlot slot (some f)
          streams := s.streams.set n
            { s.streams[n] with
              window := s.streams[n].window.map fun x =>
                if x.id = c.id then
                  { x with target := .entry slot, phase := .referencing, ref := some r, slot := some w.written
                           outcome := some .duplicate, final := r }
                else x }
          out := { acts := [.hostWrite (w.recipe + BitVec.ofNat 64 (32 * w.written)) r.bytes] } } n
      (s.engine.requests = .resolution n c.id :: l → s.chunkIn n c.id .resolving = some c → s.streams[n].strict = false →
        Ends s .resolution (t.afterCkpt s))
      ∧ (s.engine.requests = .verdict n c.id .equal :: l → s.chunkIn n c.id .verdict = some c →
        Ends s .compareVerdict (t.afterCkpt s)))
  ∧ (∀ (s : State) (j : Job) (n : Fin 8) (c : Chunk) (w : StreamWork) (l : List CatReq), s.holds j → j.phase = .stream w →
      c.owner = some j.id → s.engine.hold = none →
      let m := sectorsOf c.key.len
      let resolving := s.engine.requests = .resolution n c.id :: l ∧ s.chunkIn n c.id .resolving = some c
      let differs := s.engine.requests = .verdict n c.id .different :: l ∧ s.chunkIn n c.id .verdict = some c
      let counted := { s.cat with
        collisions := if s.cat.collisions < 4294967295 then s.cat.collisions + 1 else s.cat.collisions }
      (∀ d : Fin 4, s.bestCandidate m [] false = some d →
        let placed := fun (k : Cat) (two : Bool) =>
          let p := k.reserve d m
          match (if two then State.bestCandidate { s with cat := p.2 } m [d] false else none) with
          | some d₂ => let q := p.2.reserve d₂ m; (q.2, (⟨d, p.1⟩ : Loc), some (⟨d₂, q.1⟩ : Loc))
          | none => (p.2, ⟨d, p.1⟩, none)
        let stored := fun (k : Cat) (a : Loc) (b : Option Loc) (target : Target) (collision : Bool) (r : Ref) =>
          let op := fun (id : Nat) (x : Loc) (copy : CopyName) =>
            ({ drive := x.drive
               op := { id := id, cls := .bulk, kind := .chunkWrite, first := x.sector, count := m
                       owner := .chunkCopy n c.id copy, payload := padTo (sectorsOf c.bytes.length * 4096) c.bytes } } : Offer)
          let write := fun (x : Loc) (copy : CopyName) =>
            ({ copy := copy, loc := x, epoch := s.drives[x.drive].epoch } : CopyWrite)
          (State.settleStream
            { s with
              engine := { s.engine with requests := l }
              cat := k
              streams := s.streams.set n
                { s.streams[n] with
                  window := s.streams[n].window.map fun x =>
                    if x.id = c.id then
                      { x with target := target, phase := .referencing, ref := some r, slot := some w.written
                               collision := x.collision || collision
                               writes := write a .a :: (match b with | some b => [write b .b] | none => []) }
                    else x }
              nextId := s.nextId + (if b.isSome then 2 else 1)
              offers := s.offers ++ op s.nextId a .a :: (match b with | some b => [op (s.nextId + 1) b .b] | none => [])
              out := { acts := [.hostWrite (w.recipe + BitVec.ofNat 64 (32 * w.written)) r.bytes] } } n).afterCkpt s
        let unindexed := fun (k : Cat) (collision : Bool) =>
          let p := placed k (s.streams[n].copies == 2)
          stored p.1 p.2.1 p.2.2 .unindexed collision
            { key := c.key, unindexed := true, oneCopy := p.2.2.isNone, driveA := p.2.1.drive.val, sectorA := p.2.1.sector
              driveB := (p.2.2.map fun b => b.drive.val).getD 0, sectorB := (p.2.2.map fun b => b.sector).getD 0 }
        (∀ slot, resolving → s.cat.lookup c.key = .room slot →
          let p := placed s.cat (s.streams[n].copies == 2)
          Ends s .resolution
            (stored
              (p.1.setSlot slot (some
                { key := c.key, st := .pending, refcount := 1, wanted := s.streams[n].copies, a := { loc := p.2.1 }
                  b := p.2.2.map fun b => { loc := b } }))
              p.2.1 p.2.2 (.entry slot) false { key := c.key, oneCopy := p.2.2.isNone }))
        ∧ (resolving → s.cat.lookup c.key = .full → Ends s .resolution (unindexed s.cat false))
        ∧ (∀ slot e, differs → s.cat.lookup c.key = .found slot e → e.st = .live →
          Ends s .compareVerdict (unindexed counted true))
        ∧ (∀ slot e, resolving → s.cat.lookup c.key = .found slot e → e.st = .pending → s.streams[n].strict = true →
          s.stagedFor slot ≠ some c.bytes → Ends s .resolution (unindexed counted true))
        ∧ ∀ slot e, s.cat.lookup c.key = .found slot e →
          let repaired := fun k : Cat =>
            let wanted := if s.streams[n].copies = 2 then 2 else e.wanted
            let p := placed k (wanted == 2)
            stored
              ((p.1.giveUpEntry e).setSlot slot (some
                { e with
                  refcount := if e.refcount < 65535 then e.refcount + 1 else e.refcount
                  wanted := wanted, st := .pending, a := { loc := p.2.1 }, b := p.2.2.map fun b => { loc := b }, day := 0 }))
              p.2.1 p.2.2 (.entry slot) false { key := c.key, oneCopy := p.2.2.isNone }
          (resolving → e.st = .damaged → Ends s .resolution (repaired s.cat))
          ∧ (s.engine.requests = .verdict n c.id .noGoodCopy :: l → s.chunkIn n c.id .verdict = some c → e.st = .live →
            Ends s .compareVerdict (repaired (s.cat.setSlot slot (some { e with st := .damaged })))))
      ∧ (s.bestCandidate m [] false = none →
        let refused := fun k : Cat =>
          (State.settleStream
            { s.goesTo j (.stream { w with stopped := true, buf := [], status := w.status.worse .noSpace }) [] with
              engine := { s.engine with requests := l }
              cat := k
              streams := s.streams.set n
                { s.streams[n] with
                  window := s.streams[n].window.takeWhile fun x => x.id != c.id
                  h := 0, crc := BitVec.allOnes 64, held := false, cur := [], curOwn := 0 } } n).afterCkpt s
        (resolving → (∀ slot e, s.cat.lookup c.key = .found slot e → e.st = .damaged) → Ends s .resolution (refused s.cat))
        ∧ ∀ slot e, s.cat.lookup c.key = .found slot e →
          (differs → e.st = .live → Ends s .compareVerdict (refused counted))
          ∧ (resolving → e.st = .pending → s.streams[n].strict = true → s.stagedFor slot ≠ some c.bytes →
            Ends s .resolution (refused counted))
          ∧ (s.engine.requests = .verdict n c.id .noGoodCopy :: l → s.chunkIn n c.id .verdict = some c → e.st = .live →
            Ends s .compareVerdict (refused (s.cat.setSlot slot (some { e with st := .damaged }))))))

/-- The outcome of a stream chunk's write (R96): DONE makes the copy's sectors live, a media error marks the AU for retirement and
seals a FILLING one, and in each case the write is no longer in flight and the AU is tested for draining. DONE while the other
copy is under way: the chunk waits for it. A failed first attempt that finds a candidate, the drive failed on and that of the other
copy excluded, is placed there (R97): the sectors are reserved, a PENDING entry's copy takes the location and the CHUNK_WRITE is
offered in class BULK. When every copy has its final outcome, a failed copy being one without a second attempt or a candidate, an
indexed chunk's entry becomes LIVE with the copies written, the first of them as copy A, or DAMAGED with none (R55, R76); each chunk
that counts against it is new, or a duplicate if it wrote nothing (R61), or lost, its reference as it then must stand with ONE_COPY
or LOST; one already RESOLVED finishes at once, or has its reference rewritten first (R64); and the requests that waited for the
entry follow the others (R80). An unindexed chunk is new and counted, with the locations written, or lost (R56). Then the streams
go on (in the order of notes/assumptions/12.md). No FETCH is taken to wait for the entry. -/
def Obligations.CopyWritten : Prop :=
  ∀ (s : State) (n : Fin 8) (c : Chunk) (k : CopyName) (w : CopyWrite) (r : WriteResult) (l : List CatReq), s.powered = true →
    s.engine.hold = none → s.engine.requests = .writeOutcome (.chunk n c.id k) r :: l → s.chunk n c.id = some c →
    (c.writes.find? fun x => x.copy == k) = some w → s.drives[w.loc.drive].epoch = w.epoch →
    let m := sectorsOf c.key.len
    let a := s.cat.au w.loc.drive (auOf w.loc.sector)
    let after := s.cat.setAuTested w.loc.drive (auOf w.loc.sector)
      (match r with
      | .done => { a with live := a.live + m, inFlight := a.inFlight - 1 }
      | .media => { a with inFlight := a.inFlight - 1, retire := true, st := if a.st = .filling then .sealed else a.st }
      | .failed | .asleep => { a with inFlight := a.inFlight - 1 })
    let writes := fun f : CopyWrite → CopyWrite => c.writes.map fun y => if y.copy = k then f y else y
    let withChunk := fun f : Chunk → Chunk =>
      s.streams.set n { s.streams[n] with window := s.streams[n].window.map fun x => if x.id = c.id then f x else x }
    let base := { s with engine := { s.engine with requests := l }, cat := after, out := {} }
    let excluded := w.loc.drive :: (c.writes.filter fun v => v.copy != k && v.result != some false).map fun v => v.loc.drive
    let candidate := State.bestCandidate { s with cat := after } m excluded false
    (r = .done → (∃ v ∈ c.writes, v.copy ≠ k ∧ v.result = none) →
      Ends s .writeOutcome
        ((State.settleStreams
          { base with
            streams := withChunk fun x =>
              { x with writes := x.writes.map fun y => if y.copy = k then { y with result := some true } else y } }).afterCkpt s))
    ∧ (∀ d : Fin 4, r ≠ .done → w.second = false → candidate = some d →
      let p := after.reserve d m
      let x : Loc := ⟨d, p.1⟩
      Ends s .writeOutcome
        ((State.settleStreams
          { base with
            cat := match c.target with
              | .entry slot =>
                (match s.cat.entry slot with
                | some e => p.2.setSlot slot (some (e.setCopy k { loc := x }))
                | none => p.2)
              | .unindexed | .none => p.2
            streams := withChunk fun y =>
              { y with
                writes := y.writes.map fun v =>
                  if v.copy = k then { v with loc := x, epoch := s.drives[d].epoch, second := true } else v }
            nextId := s.nextId + 1
            offers := s.offers ++
              [{ drive := d
                 op := { id := s.nextId, cls := .bulk, kind := .chunkWrite, first := p.1, count := m, owner := .chunkCopy n c.id k
                         payload := padTo (sectorsOf c.bytes.length * 4096) c.bytes } }] }).afterCkpt s))
    ∧ (r = .done ∨ w.second = true ∨ candidate = none → (∀ v ∈ c.writes, v.copy ≠ k → v.result.isSome = true) →
      (∀ i : Fin 8, (s.streams[i].window.map fun x => x.id).Nodup) →
      let done := writes fun y => { y with result := some (r == .done) }
      let locs := (done.filter fun y => y.result == some true).map fun y => y.loc
      (∀ (slot : Nat) (e : Entry), c.target = .entry slot → c.outcome = none → s.cat.entry slot = some e →
        (∀ j ∈ s.jobs, ∀ f, j.phase = .fetching f → ∀ q ∈ f.refs, q.st = .waiting → q.ref.key ≠ e.key ∨ q.ref.unindexed = true) →
        let live := locs ≠ []
        let ended : Entry := match locs with
          | [] => { e with st := .damaged, a := { e.a with st := .absent }, b := none }
          | x :: y => { e with st := .live, a := { loc := x }, b := y.head?.map fun b => { loc := b } }
        let must := fun f : Ref => if live then { f with oneCopy := f.oneCopy || ended.b.isNone } else { f with lost := true }
        let outcome := fun x : Chunk =>
          if live then (if x.writes = [] then ChunkOutcome.duplicate else .new) else .lost
        let t := { base with
          cat := after.setSlot slot (some ended)
          engine := { s.engine with
            requests := l ++ s.engine.waiters.filter (s.waitsFor e.key)
            waiters := s.engine.waiters.filter fun q => !s.waitsFor e.key q } }
        ((∀ i : Fin 8, ∀ x ∈ s.streams[i].window, x.target = .entry slot → x.outcome = none → x.phase ≠ .resolved) →
          Ends s .writeOutcome
            ((State.settleStreams
              { t with
                streams := Vector.ofFn fun i =>
                  { s.streams[i] with
                    window := s.streams[i].window.map fun x =>
                      let y := if i = n ∧ x.id = c.id then { x with writes := done } else x
                      if x.target = .entry slot ∧ x.outcome = none then
                        { y with outcome := some (outcome y), final := must (x.ref.getD { key := x.key }) }
                      else y } }).afterCkpt s))
        ∧ ∀ (j : Job) (v : StreamWork) (f : Ref) (i : Nat), s.holds j → j.phase = .stream v → v.ended = false →
          (∀ i : Fin 8, ∀ x ∈ s.streams[i].window, x.target = .entry slot → x.outcome = none → i = n ∧ x = c) →
          c.phase = .resolved → c.owner = some j.id → c.slot = some i → c.mute = false → c.ref = some f →
          (must f = f →
            Ends s .writeOutcome
              ((State.settleStreams
                { t with
                  jobs := (s.goesTo j (.stream (v.count c (outcome { c with writes := done }))) []).jobs
                  streams := s.streams.set n
                    { s.streams[n] with
                      window := s.streams[n].window.filter fun x => x.id != c.id
                      finished := s.streams[n].finished + 1
                      new := if live then s.streams[n].new + 1 else s.streams[n].new
                      lost := if live then s.streams[n].lost else s.streams[n].lost + 1 } }).afterCkpt s))
          ∧ (must f ≠ f →
            Ends s .writeOutcome
              ((State.settleStreams
                { t with
                  streams := withChunk fun x =>
                    { x with
                      writes := done, outcome := some (outcome { c with writes := done }), final := must f, ref := some (must f)
                      phase := .rewriting }
                  out := { acts := [.hostWrite (v.recipe + BitVec.ofNat 64 (32 * i)) (must f).bytes] } }).afterCkpt s)))
      ∧ (c.target = .unindexed → c.phase ≠ .resolved →
        let f := c.ref.getD { key := c.key }
        Ends s .writeOutcome
          ((State.settleStreams
            { base with
              cat := match locs with
                | [] => after
                | _ :: _ => { after with
                  unindexed := if after.unindexed < 4294967295 then after.unindexed + 1 else after.unindexed }
              streams := withChunk fun x =>
                match locs with
                | [] => { x with writes := done, outcome := some .lost, final := { f with lost := true } }
                | y :: z =>
                  { x with
                    writes := done, outcome := some .new
                    final :=
                      { key := c.key, unindexed := true, oneCopy := z = [], driveA := y.drive.val, sectorA := y.sector
                        driveB := (z.head?.map fun b => b.drive.val).getD 0, sectorB := (z.head?.map fun b => b.sector).getD 0 } }
              }).afterCkpt s)))

/-- Bad-read reports (R77, R80, R159, R160): a GOOD copy of an entry that is not PENDING becomes SUSPECT while key and
location still match; a LIVE entry of which every copy read was bad becomes DAMAGED. -/
def Obligations.BadReads : Prop :=
  ∀ (s : State) (slot : Nat) (e : Entry) (l : List CatReq), s.powered = true → s.engine.hold = none → s.cat.entry slot = some e →
    (∀ (k : CopyName) (x : Copy), s.engine.requests = .badCopy slot e.key k x.loc :: l → e.st ≠ .pending → e.copy k = some x →
      x.st = .good →
      Ends s .badReadReport
        { s with
          engine := { s.engine with requests := l }, out := {}
          cat := s.cat.setSlot slot (some (e.setCopy k { x with st := .suspect })) })
    ∧ (s.engine.requests = .damage slot e.key :: l → e.st = .live →
      Ends s .badReadReport
        { s with
          engine := { s.engine with requests := l }, out := {}
          cat := s.cat.setSlot slot (some { e with st := .damaged }) })

/-! ## Reads and repair -/

/-- The repair worker (R165 to R167): the oldest entry whose test passes is taken and its source read in class BACKGROUND; a
placed repair offers its write on the drive chosen. The write's outcome is applied to its AU (R96); after DONE the update is asked
for, which gives the old copy up and puts the new location, GOOD, in its place, and the entry leaves the list; where a REMIRROR has
put the other copy on the new copy's drive meanwhile, the new copy is given up again by the model's choice, since two copies of an
entry are never on one drive (R94; notes/assumptions/85.md). A failed write is re-placed once on a READY candidate, off the drives of
the failed write and of the other copy as it stands or is being written (R97); a second failure, or no candidate, moves the entry to the tail of the list with the worker
idle; a write whose slot holds another key or copy then is not re-placed, and its entry leaves the list, by the model's choice
(notes/assumptions/75.md). A write that ends NOT_READY as the box sleeps stops the repair with its entry in place; that the worker
then is idle, and that a box sequence in progress or box SLEEP tells it, is the model's choice (notes/assumptions/67.md). -/
def Obligations.RepairWorker : Prop :=
  ∀ (s : State) (e : RepairEntry) (src : Loc) (buf : List Byte) (l : List RepairEntry) (q : List CatReq), s.powered = true →
    (s.repair.worker = .idle → s.box.seq = none → s.repair.list = e :: l → s.testRepair e = .take src →
      Ends s .repairTake
        { s with
          repair := { s.repair with worker := .reading e src }
          nextId := s.nextId + 1
          offers := s.offers ++
            [{ drive := src.drive
               op := { id := s.nextId, cls := .background, kind := .chunkRead, first := src.sector
                       count := sectorsOf e.key.len, owner := .repairRead } }]
          out := {} })
    ∧ (∀ (x : Entry) (d : Fin 4), s.engine.hold = none → s.engine.requests = .repairPlacement :: q →
      s.repair.worker = .placing e src buf → s.cat.standing e.slot e.key e.copy e.loc = some x →
      s.bestCandidate (sectorsOf e.key.len) [src.drive] true = some d →
      let p := s.cat.reserve d (sectorsOf e.key.len)
      Ends s .repairPlacement
        { s with
          engine := { s.engine with requests := q }
          cat := p.2
          repair := { s.repair with worker := .writing e src buf ⟨d, p.1⟩ s.drives[d].epoch false }
          nextId := s.nextId + 1
          offers := s.offers ++
            [{ drive := d
               op := { id := s.nextId, cls := .background, kind := .chunkWrite, first := p.1, count := sectorsOf e.key.len
                       owner := .repairWrite, payload := paddedChunk (buf.take e.key.len) } }]
          out := {} })
    ∧ (∀ (x : Entry) (m : Loc) (epoch : Nat), s.engine.hold = none → s.engine.requests = .repairUpdate :: q →
      s.repair.worker = .updating e src m epoch → s.cat.standing e.slot e.key e.copy e.loc = some x →
      let base := { s with
        engine := { s.engine with requests := q }
        repair := { list := s.repair.list.filter fun y => !(y.slot == e.slot && y.copy == e.copy), worker := .idle }
        out := {} }
      ((∀ y, x.copy e.copy.other = some y → y.loc.drive ≠ m.drive) →
        Ends s .repairUpdate
          { base with
            cat := (s.cat.giveUp e.loc (sectorsOf e.key.len)).setSlot e.slot (some (x.setCopy e.copy { loc := m })) })
      ∧ ∀ y, x.copy e.copy.other = some y → y.loc.drive = m.drive → s.drives[m.drive].epoch = epoch →
        Ends s .repairUpdate { base with cat := s.cat.giveUp m (sectorsOf e.key.len) })
    ∧ (∀ (m : Loc) (epoch : Nat) (second : Bool) (r : WriteResult), s.engine.hold = none →
      s.engine.requests = .writeOutcome .repair r :: q → s.repair.worker = .writing e src buf m epoch second →
      s.drives[m.drive].epoch = epoch →
      let sectors := sectorsOf e.key.len
      let a := s.cat.au m.drive (auOf m.sector)
      let after := s.cat.setAuTested m.drive (auOf m.sector)
        (match r with
        | .done => { a with live := a.live + sectors, inFlight := a.inFlight - 1 }
        | .media => { a with inFlight := a.inFlight - 1, retire := true, st := if a.st = .filling then .sealed else a.st }
        | .failed | .asleep => { a with inFlight := a.inFlight - 1 })
      let base := { s with engine := { s.engine with requests := q }, cat := after, out := {} }
      let without := s.repair.list.filter fun y => !(y.slot == e.slot && y.copy == e.copy)
      let held := ∃ x y, s.cat.entry e.slot = some x ∧ x.key = e.key ∧ x.copy e.copy = some y ∧ y.loc = e.loc ∧ y.st ≠ .absent
      let other := match (s.cat.entry e.slot).bind fun x => x.copy e.copy.other with
        | some y => [y.loc.drive]
        | none => []
      let mirrored := match (s.scrub.bind fun x => x.step).bind fun p => if p.slot = e.slot then p.mirror else none with
        | some w => if w.place = e.copy.other then [w.loc.drive] else []
        | none => []
      let candidate := State.bestCandidate { s with cat := after } sectors (m.drive :: other ++ mirrored) true
      (r = .done →
        Ends s .writeOutcome
          { base with
            repair := { s.repair with worker := .updating e src m epoch }
            engine := { s.engine with requests := q ++ [.repairUpdate] } })
      ∧ (r = .asleep → Ends s .writeOutcome { base with repair := { s.repair with worker := .idle } })
      ∧ (r = .media ∨ r = .failed →
        (¬held → Ends s .writeOutcome { base with repair := { list := without, worker := .idle } })
        ∧ (held → second = true ∨ candidate = none →
          Ends s .writeOutcome { base with repair := { list := without ++ [e], worker := .idle } })
        ∧ ∀ d : Fin 4, held → second = false → candidate = some d →
          let p := after.reserve d sectors
          Ends s .writeOutcome
            { base with
              cat := p.2
              repair := { s.repair with worker := .writing e src buf ⟨d, p.1⟩ s.drives[d].epoch true }
              nextId := s.nextId + 1
              offers := s.offers ++
                [{ drive := d
                   op := { id := s.nextId, cls := .background, kind := .chunkWrite, first := p.1, count := sectors
                           owner := .repairWrite, payload := paddedChunk (buf.take e.key.len) } }] }))
    ∧ ∀ (f : Offer) (fs : List Offer), s.offers = f :: fs → f.op.owner = .repairWrite → f.op.kind = .chunkWrite →
      f.op.cls = .background → f.op.badRange s.drives[f.drive].capacity = false → s.drives[f.drive].usable = true →
      s.drives[f.drive].power ≠ .ready → s.drives[f.drive].hasWork = false →
      Ends s .operationOffer
        (State.settle
          { s with
            offers := fs, out := {}
            engine := { s.engine with
              requests := s.engine.requests ++
                [.writeOutcome .repair (if s.box.seq.isSome ∨ s.box.st = .sleep then .asleep else .failed)] } })

/-- FETCH (R70, R155 to R160): the checks, the list read, and, for a list of one reference, a chunk that the catalogue does not
hold (zeros are written and NOT_FOUND counted), a PENDING one (the reference waits), a DAMAGED one and an UNINDEXED LOST one (zeros,
DAMAGED_DATA) and a LIVE chunk with one copy that can be read (its CHUNK_READ is offered in class INTERACTIVE). The copy read, on a
list of its own: a good one is written to the destination, and a bad one, the only one, is reported with the entry's damage, and
zeros are written (R159, R160). That the only copy is the one that the FETCH's own lookup found is the model's choice
(notes/assumptions/74.md), and that the copy's report stands before the damage report is inferred (notes/assumptions/34.md). The
drives settle (notes/assumptions/12.md). The last destination write of a FETCH delivered or
not (R156, R161), and that of a BLOCK_READ delivered (R163). -/
def Obligations.FetchAndDelivery : Prop :=
  (∀ (s : State) (j : Job) (list : Addr) (n cap : Nat) (dest : Addr), j.req = .fetch list n cap dest →
      (s.carries 1 j →
        (n = 0 ∨ 4096 < n ∨ goodAddr 32 list = false ∨ dest = 0 ∨ cap = 0 → Ends s .fetch (s.reports j { status := .badParam }))
        ∧ (1 ≤ n → n ≤ 4096 → goodAddr 32 list = true → dest ≠ 0 → cap ≠ 0 →
          (s.cat.st ≠ .ready → Ends s .fetch (s.reports j { status := .noCatalogue }))
          ∧ (s.cat.st = .ready → Ends s .fetch (s.goesTo j .fetchList [.hostRead list (32 * n)]))))
      ∧ (s.holds j → j.phase = .fetchList →
        Ends s (.fetchListReadDone j.id none) (s.reports j { status := .hostMemoryError })
        ∧ ∀ (b : List Byte) (r : Ref), readRefs n b = [r] →
          (r.key.len = 0 ∨ 1048576 < r.key.len →
            Ends s (.fetchListReadDone j.id (some b)) (s.reports j { status := .badParam }))
          ∧ (1 ≤ r.key.len → r.key.len ≤ 1048576 → r.key.len ≤ cap → r.unindexed = false →
            ((∀ slot e, s.cat.lookup r.key ≠ .found slot e) →
              Ends s (.fetchListReadDone j.id (some b))
                (s.goesTo j
                  (.fetching { dest := dest, refs := [{ ref := r, st := .writing false, count := .notFound }], status := .notFound })
                  [.hostWrite dest (zeros r.key.len)]))
            ∧ (∀ slot e, s.cat.lookup r.key = .found slot e →
              (e.st = .pending →
                Ends s (.fetchListReadDone j.id (some b)) (s.goesTo j (.fetching { dest := dest, refs := [{ ref := r }] }) []))
              ∧ (e.st = .damaged →
                Ends s (.fetchListReadDone j.id (some b))
                  (s.goesTo j
                    (.fetching
                      { dest := dest, refs := [{ ref := r, st := .writing false, count := .damaged }], status := .damagedData })
                    [.hostWrite dest (zeros r.key.len)])))
            ∧ ∀ slot e, s.cat.lookup r.key = .found slot e → e.st = .live → e.b = none → s.eligible [] (.a, e.a) = true →
              Ends s (.fetchListReadDone j.id (some b))
                { s.goesTo j
                    (.fetching { dest := dest, refs := [{ ref := r, st := .reading .a e.a.loc, slot := slot, a := some e.a }] }) [] with
                  nextId := s.nextId + 1
                  offers := s.offers ++
                    [{ drive := e.a.loc.drive
                       op := { id := s.nextId, cls := .interactive, kind := .chunkRead, first := e.a.loc.sector
                               count := sectorsOf r.key.len, owner := .fetch j.id 0 } }] })
          ∧ (1 ≤ r.key.len → r.key.len ≤ 1048576 → r.key.len ≤ cap → r.unindexed = true → r.lost = true →
            Ends s (.fetchListReadDone j.id (some b))
              (s.goesTo j
                (.fetching { dest := dest, refs := [{ ref := r, st := .writing false, count := .damaged }], status := .damagedData })
                [.hostWrite dest (zeros r.key.len)]))))
  ∧ (∀ (s : State) (j : Job) (w : FetchWork) (r : FetchRef) (l : Loc) (d : Fin 4) (o : Op) (c : DriveCmd) (again : Bool)
      (data : List Byte) (v : Int), s.holds j → j.phase = .fetching w → w.refs = [r] → r.st = .reading .a l →
      s.drives[d].ops = [o] → o.owner = .fetch j.id 0 → o.kind = .chunkRead → o.withdrawn = false → o.segsDone + 1 = o.segments →
      s.drives[d].port = .command (.segment o.id) c again →
      let drives := s.drives.set d { s.drives[d] with port := .idle, ops := [], credit := s.cfg.credit, noAnswer := 0 }
      let bytes := (o.data ++ data).take r.ref.key.len
      let place := w.dest + BitVec.ofNat 64 r.offset
      (fingerprint bytes = r.ref.key.fp →
        Ends s (.commandAnswer d (.done data v))
          (State.settle
            { s.goesTo j (.fetching { w with refs := [{ r with st := .writing true, count := .none }] }) [.hostWrite place bytes] with
              drives := drives }))
      ∧ (fingerprint bytes ≠ r.ref.key.fp → r.ref.unindexed = false → r.b = none →
        Ends s (.commandAnswer d (.done data v))
          (State.settle
            { s.goesTo j
                (.fetching
                  { w with refs := [{ r with st := .writing false, count := .damaged }], status := w.status.worse .damagedData })
                [.hostWrite place (zeros r.ref.key.len)] with
              drives := drives
              engine := { s.engine with
                requests := s.engine.requests ++ [.badCopy r.slot r.ref.key .a l, .damage r.slot r.ref.key] } })))
  ∧ (∀ (s : State) (j : Job), s.holds j →
      (∀ (w : FetchWork) (x : FetchRef), j.phase = .fetching w → w.refs = [x] → x.st = .writing true →
        Ends s (.destinationWriteDone j.id 0 true)
          (s.reports j { status := w.status, w0 := BitVec.ofNat 32 x.ref.key.len, w1 := 1 })
        ∧ Ends s (.destinationWriteDone j.id 0 false) (s.reports j { status := w.status.worse .hostMemoryError, w1 := 1 }))
      ∧ ∀ (r : Result) (i : Nat), j.phase = .blockDelivering r → Ends s (.destinationWriteDone j.id i true) (s.reports j r))

/-- The host area (R70, R162, R163): BLOCK_WRITE and BLOCK_READ are checked alike; BLOCK_WRITE reads its source and then, as
the only job in flight, offers an AREA_WRITE to both catalogue drives at the same moment. When the second of its writes ends, on a
list of its own, the stale flag of each drive that missed the write is set and the job reports the sectors, the drives written and
the drives whose flag the rule sets, one already set among them (inferred, notes/assumptions/32.md); the drives settle
(notes/assumptions/12.md). BLOCK_READ offers its AREA_READ in class INTERACTIVE on the only candidate drive, of two eligible ones
on the one whose flag is clear, or, with both flags alike, on the one that R158 ranks first, drive 0 on a tie, the other then being
the second candidate; without a candidate it reports DRIVE_UNAVAILABLE. Without a READY catalogue a range is not checked, which is
inferred (notes/assumptions/33.md). -/
def Obligations.HostArea : Prop :=
  ∀ (s : State) (j : Job) (first n : Nat) (a : Addr),
    (∀ c : Instr, (c = .blockWrite ∧ j.req = .blockWrite first n a ∧ s.carries 2 j)
        ∨ (c = .blockRead ∧ j.req = .blockRead first n a ∧ s.carries 1 j) →
      (n = 0 ∨ 256 < n ∨ a = 0 ∨ s.cat.st = .ready ∧ s.cat.geo.h * 1024 < first + n →
        Ends s c (s.reports j { status := .badParam }))
      ∧ (1 ≤ n → n ≤ 256 → a ≠ 0 → s.cat.st ≠ .ready → Ends s c (s.reports j { status := .noCatalogue })))
    ∧ (1 ≤ n → n ≤ 256 → a ≠ 0 → s.cat.st = .ready → first + n ≤ s.cat.geo.h * 1024 →
      (j.req = .blockWrite first n a → s.carries 2 j →
        Ends s .blockWrite (s.goesTo j (.blockWriting { first := first, count := n }) [.hostRead a (4096 * n)]))
      ∧ (j.req = .blockRead first n a → s.carries 1 j →
        (s.hostDrive 0 = true → s.hostDrive 1 = false →
          Ends s .blockRead
            { s.goesTo j (.blockReading { first := first, count := n, dest := a, drive := 0, stale := s.cat.stale[(0 : Fin 2)] }) [] with
              nextId := s.nextId + 1
              offers := s.offers ++
                [{ drive := 0
                   op := { id := s.nextId, cls := .interactive, kind := .areaRead
                           first := (2 * s.cat.geo.c + 1) * 1024 + first, count := n, owner := .blockRead j.id } }] })
        ∧ (s.hostDrive 0 = false → s.hostDrive 1 = false →
          Ends s .blockRead (s.reports j { status := .driveUnavailable }))
        ∧ (s.hostDrive 0 = true → s.hostDrive 1 = true →
          let rank : Power → Nat := fun p =>
            match p with | .ready => 0 | .starting => 1 | .parked | .stopping => 2 | .unpowered => 3 | .absent => 4
          let x := s.drives[(0 : Fin 4)]
          let y := s.drives[(1 : Fin 4)]
          let alike := s.cat.stale[(0 : Fin 2)] = s.cat.stale[(1 : Fin 2)]
          let second : Bool :=
            if alike then
              decide (rank y.power < rank x.power ∨ (x.power = .ready ∧ y.power = .ready ∧ y.ops.length < x.ops.length))
            else s.cat.stale[(0 : Fin 2)]
          let d : Fin 4 := if second then 1 else 0
          Ends s .blockRead
            { s.goesTo j
                (.blockReading
                  { first := first, count := n, dest := a, drive := d
                    stale := if second then s.cat.stale[(1 : Fin 2)] else s.cat.stale[(0 : Fin 2)]
                    others := if alike then [1 - d] else [] }) [] with
              nextId := s.nextId + 1
              offers := s.offers ++
                [{ drive := d
                   op := { id := s.nextId, cls := .interactive, kind := .areaRead
                           first := (2 * s.cat.geo.c + 1) * 1024 + first, count := n, owner := .blockRead j.id } }] })))
    ∧ (∀ (w : BlockWriteWork) (i : Fin 2) (o : Op) (cmd : DriveCmd) (again : Bool), s.holds j → j.phase = .blockWriting w →
      w.offered = true → (if i = 0 then w.d1 else w.d0) ≠ .underWay →
      let d := catDrive i
      s.drives[d].ops = [o] → o.owner = .blockWrite j.id → o.kind = .areaWrite → o.withdrawn = false →
      s.drives[d].port = .command (.segment o.id) cmd again →
      let idle := { s.drives[d] with port := .idle, ops := [], credit := s.cfg.credit }
      let ended := fun (e : AreaWrite) (x : Drive) =>
        let e0 := if i = 0 then e else w.d0
        let e1 := if i = 0 then w.d1 else e
        let set0 := e0 != .done && (e1 == .done || e0 == .partly)
        let set1 := e1 != .done && (e0 == .done || e1 == .partly)
        let any := e0 == .done || e1 == .done
        State.settle
          { s.reports j
              { status := if any then .ok else .driveUnavailable, w0 := if any then BitVec.ofNat 32 w.count else 0
                w1 := (if e0 = .done then 1 else 0) + (if e1 = .done then 2 else 0)
                w2 := (if set0 then 1 else 0) + (if set1 then 2 else 0) } with
            cat := { s.cat with stale := #v[s.cat.stale[0] || set0, s.cat.stale[1] || set1] }
            drives := s.drives.set d x }
      (o.segsDone + 1 = o.segments → ∀ (data : List Byte) (v : Int),
        Ends s (.commandAnswer d (.done data v)) (ended .done { idle with noAnswer := 0 }))
      ∧ Ends s (.commandAnswer d .otherError) (ended (if o.segsDone = 0 then .nothing else .partly) idle))
    ∧ ∀ w : BlockWriteWork, s.holds j → j.phase = .blockWriting w → w.ready = false → w.offered = false →
      Ends s (.blockSourceReadDone j.id none) (State.blockOffers (s.reports j { status := .hostMemoryError }))
      ∧ ∀ b : List Byte, s.jobs = [j] → s.engine.hostCopy = none → s.hostDrive 0 = true → s.hostDrive 1 = true →
        let data := padTo (4096 * w.count) b
        let op : Nat → Op := fun id =>
          { id := id, cls := .bulk, kind := .areaWrite, first := (2 * s.cat.geo.c + 1) * 1024 + w.first, count := w.count
            owner := .blockWrite j.id, payload := data }
        Ends s (.blockSourceReadDone j.id (some b))
          { s.goesTo j (.blockWriting { w with ready := true, data := data, offered := true, d0 := .underWay, d1 := .underWay }) [] with
            nextId := s.nextId + 2
            offers := s.offers ++ [{ drive := 0, op := op s.nextId }, { drive := 1, op := op (s.nextId + 1) }] }

/-! ## Checkpoint, load and format -/

/-- CHECKPOINT (R108, R109, R115): without a READY catalogue it is refused; with both catalogue drives to try and READY the
checkpoint starts and asks for the hold; while one is in flight it is queued. The image write begins when the checkpoint has
the hold (R87, R110): the hold, target, generation, image CRC and header time are fixed, and for each run of pages to write an
AREA_WRITE with the pages' bytes is offered, in order; drive 0 is taken to be the only drive tried there. After the first
FLUSH the header of generation + 1 is written. The last FLUSH answered DONE ends it (R113): the target slot has the generation,
its dirty marks are clear, the drives that completed are in step, the hold is released with nothing held, and CHECKPOINT reports
the slot, the generation and the drives; with every drive in step for both slots each DRAINED AU of an older generation becomes
FREE (R99). Answered with an error, and no drive completed, it fails and the catalogue stays as it was (R112, R114). The drives
settle (notes/assumptions/12.md). -/
def Obligations.CheckpointBegins : Prop :=
  (∀ (s : State) (j : Job), s.carries 0 j → j.req = .checkpoint →
      (s.cat.st ≠ .ready → Ends s .checkpoint (s.reports j { status := .noCatalogue }))
      ∧ (s.cat.st = .ready → s.engine.ckpt = none → s.engine.queued = none →
        (∀ i : Fin 2, s.member (catDrive i) = true ∧ s.drives[catDrive i].usable = true ∧ s.drives[catDrive i].power = .ready) →
        Ends s .checkpoint
          (State.settle { s.goesTo j .checkpointing [] with
            engine := { s.engine with
              ckpt := some { reqs := [.job j.id], d0 := .prepared, d1 := .prepared, asked := true }
              holdQueue := s.engine.holdQueue ++ [.checkpoint] } }))
      ∧ (s.cat.st = .ready → s.engine.ckpt.isSome = true → s.engine.queued = none →
        Ends s .checkpoint
          (State.settle { s.goesTo j .checkpointing [] with engine := { s.engine with queued := some [.job j.id] } })))
  ∧ (∀ (s : State) (c : Ckpt) (l : List HoldOwner), s.powered = true → s.engine.ckpt = some c → c.asked = true → c.writing = false →
      c.d0 = .prepared → c.d1 = .notTried → s.engine.hold = none → s.engine.holdQueue = .checkpoint :: l →
      (∀ o ∈ l, o ≠ .checkpoint) →
      let x := s.cat.target
      let runs := s.cat.runs x (match x with | .a => s.cat.inStepA[(0 : Fin 2)] | .b => s.cat.inStepB[(0 : Fin 2)])
      let begun : Ckpt := { c with writing := true, target := x, gen := s.cat.generation, crc := s.cat.imageCrc, time := s.stamp }
      runs ≠ [] →
      Ends s .checkpointImageWriteBegin
        { s with
          engine := { s.engine with hold := some .checkpoint, holdQueue := l, ckpt := some { begun with d0 := .pages runs.length } }
          nextId := s.nextId + runs.length
          offers := s.offers ++ runs.zipIdx.map fun p =>
            { drive := 0
              op := { id := s.nextId + p.2, cls := .bulk, kind := .areaWrite, first := s.cat.geo.slotSector x + 1 + p.1.1
                      count := p.1.2, owner := .checkpoint, payload := s.cat.pagesBytes p.1.1 p.1.2 } }
          out := {} })
  ∧ (∀ (s : State) (j : Job) (c : Ckpt) (o : Op) (again : Bool), s.holds j → s.engine.ckpt = some c → c.writing = true →
      c.reqs = [.job j.id] → c.d1 = .notTried ∨ c.d1 = .completed → s.offers = [] →
      let x := s.drives[(0 : Fin 4)]
      x.ops = [o] → x.room = [] → o.owner = .checkpoint → o.kind = .flush → o.withdrawn = false →
      x.port = .command (.segment o.id) .flush again →
      let idle : Drive := { x with port := .idle, ops := [], credit := s.cfg.credit }
      (∀ (data : List Byte) (v : Int), c.d0 = .flush1 →
        Ends s (.commandAnswer 0 (.done data v))
          (State.settle
            { s with
              engine := { s.engine with ckpt := some { c with d0 := .header } }
              drives := s.drives.set 0 { idle with noAnswer := 0 }
              nextId := s.nextId + 1
              offers :=
                [{ drive := 0
                   op := { id := s.nextId, cls := .bulk, kind := .areaWrite, first := s.cat.geo.slotSector c.target, count := 1
                           owner := .checkpoint
                           payload := Header.sector
                             { generation := c.gen + 1, boxId := s.cat.boxId, imageCrc := c.crc, e := s.cat.geo.e, stale0 := s.cat.stale[0]
                               stale1 := s.cat.stale[1], h := s.cat.geo.h, au := s.cat.geo.au, c := s.cat.geo.c, time := c.time } } }]
              out := {} }))
      ∧ (c.d0 = .flush2 → s.engine.hold = some .checkpoint → s.engine.holdQueue = [] → s.engine.held = [] → s.engine.queued = none →
        let ended : Engine := { s.engine with ckpt := none, hold := none }
        let slot : Nat := match c.target with | .a => 0 | .b => 1
        (∀ (data : List Byte) (v : Int), c.gen.toNat < 2 ^ 64 - 1 →
          (match c.target with | .a => s.cat.genB | .b => s.cat.genA).toNat ≤ c.gen.toNat →
          let both := c.d1 == .completed
          let after : Cat := match c.target with
            | .a => { s.cat with genA := c.gen + 1, marksA := {}, inStepA := #v[true, both], lastTime := c.time }
            | .b => { s.cat with genB := c.gen + 1, marksB := {}, inStepB := #v[true, both], lastTime := c.time }
          Ends s (.commandAnswer 0 (.done data v))
            (State.settle
              { s.reports j
                  { aux := slot, w0 := (c.gen + 1).setWidth 32, w1 := ((c.gen + 1) >>> 32).setWidth 32, w2 := if both then 3 else 1 } with
                engine := ended
                cat :=
                  if after.inStepA = #v[true, true] ∧ after.inStepB = #v[true, true] then drives4.foldl Cat.reuseDrive after
                  else after
                drives := s.drives.set 0 { idle with noAnswer := 0 } }))
        ∧ (c.d1 = .notTried →
          Ends s (.commandAnswer 0 .otherError)
            (State.settle
              { s.reports j
                  { status := .checkpointFailed, aux := slot, w0 := s.cat.generation.setWidth 32
                    w1 := (s.cat.generation >>> 32).setWidth 32 } with
                engine := ended, drives := s.drives.set 0 idle }))))
  ∧ ∀ (k : Cat) (d e : Fin 4) (a : Nat), k.canonical →
      (k.reuseDrive d).au e a =
        if e = d ∧ (k.au d a).st = .drained ∧ (k.au d a).drainedGen.toNat + 2 ≤ k.generation.toNat then {} else k.au e a

/-- LOAD (R117): in another state than NOT_LOADED it is refused; else the catalogue is LOADING, every drive that is present, not
FAILED and not READY gets LOAD's demand, and LOAD waits for those. When none is waited for, no catalogue drive READY ends it with
DRIVE_UNAVAILABLE, its results free values (notes/assumptions/10.md); with drive 0 alone READY its label and its header A are
read. That the power state at this moment decides, also for a drive that became READY and has parked again, is the model's choice
(notes/assumptions/70.md). The drives settle (notes/assumptions/12.md). -/
def Obligations.Load : Prop :=
  ∀ (s : State) (j : Job),
    (s.carries 0 j → j.req = .load →
      (s.cat.st ≠ .notLoaded → Ends s .load (s.reports j { status := .wrongState }))
      ∧ (s.cat.st = .notLoaded →
        let waits := fun (d : Fin 4) => s.drives[d].usable && s.drives[d].power != .ready
        Ends s .load
          (State.settle
            { s.goesTo j (.loading { waiting := drives4.filter waits }) [] with
              cat := { s.cat with st := .loading }
              drives := Vector.ofFn fun d =>
                if waits d ∧ DemandBy.load ∉ s.drives[d].demands then { s.drives[d] with demands := s.drives[d].demands ++ [.load] }
                else s.drives[d] })))
    ∧ ∀ w : LoadWork, s.holds j → s.loadJob = some (j.id, w) → w.stage = .starting → w.waiting = [] → s.drives[(1 : Fin 4)].power ≠ .ready →
      (s.drives[(0 : Fin 4)].power ≠ .ready →
        Ends s .loadDrivesSettled
          { s.reports j
              { status := .driveUnavailable, aux := (Config.openWord (4 * s.nextId)).toNat % 65536
                w0 := Config.openWord (4 * s.nextId + 1), w1 := Config.openWord (4 * s.nextId + 2)
                w2 := Config.openWord (4 * s.nextId + 3) } with
            cat := {}, nextId := s.nextId + 1 })
      ∧ (s.drives[(0 : Fin 4)].power = .ready → s.drives[(2 : Fin 4)].power ≠ .ready → s.drives[(3 : Fin 4)].power ≠ .ready →
        Ends s .loadDrivesSettled
          { s.goesTo j (.loading { w with stage := .headers, a0 := .underWay }) [] with
            nextId := s.nextId + 2
            offers := s.offers ++
              [{ drive := 0, op := { id := s.nextId, cls := .bulk, kind := .labelRead, first := 0, count := 1, owner := .loadLabel } },
               { drive := 0
                 op := { id := s.nextId + 1, cls := .bulk, kind := .areaRead, first := 1024, count := 1, owner := .loadHeader .a } }] })

/-- The image that LOAD takes (R118, R119): with every header read ended, no header that passes ends LOAD with NO_VALID_IMAGE, and
else the first candidate's pages are read, in runs of up to 256 (notes/assumptions/64.md); an image whose CRC matches is loaded
and reported; of a bad one the bytes are discarded and the next candidate's pages are read, and after the last LOAD ends with
NO_VALID_IMAGE and the number of headers that passed. Each of the two commands completes in each of its cases. The candidates are
the headers read that pass their check, each once, in descending generation and drive 0's first on a tie (R118). The catalogue
that is loaded (R119) is READY with the header's box id, geometry, stale flags, time and generation, the other slot's generation
0, and its counts 0; its entries and AU records are those of the image's bytes (how 32 or 8 bytes are read back is a free value,
notes/assumptions/9.md), with no write in flight and a SEALED record with live 0 drained, or RETIRED when marked for retirement
(R92, R98); the other slot's marks are all set and the loaded slot's only for the pages of those drains (R105); and a drive is in
step for the loaded slot when its header there passed with the same generation and image CRC, both for the other slot (R107). -/
def Obligations.LoadImage : Prop :=
  (∀ w : LoadWork,
    let reads : List (Fin 4 × ImgSlot × HdrRead) := [(0, .a, w.a0), (1, .a, w.a1), (0, .b, w.b0), (1, .b, w.b1)]
    let passed := fun (d : Fin 4) (x : ImgSlot) (h : Header) => ∃ r, (d, x, HdrRead.read r) ∈ reads ∧ checkHeader r = some h
    (∀ c : Candidate, c ∈ w.candidates ↔ passed c.drive c.slot c.hdr) ∧ w.candidates.Nodup
    ∧ w.candidates.Pairwise (fun c d => d.hdr.generation.toNat < c.hdr.generation.toNat
        ∨ (c.hdr.generation = d.hdr.generation ∧ c.drive ≤ d.drive))
    ∧ ∀ c : Candidate,
      let cat := w.loaded c
      let slots := 2 ^ c.hdr.e
      let before := fun d : Fin 4 => ((drives4.filter fun k => decide (k < d)).map fun k => c.hdr.au[k]).sum
      let kept := fun (d : Fin 4) (a : Nat) =>
        { Config.auOfBytes ((w.bytes.drop (4096 * (slots / 128) + 8 * (before d + a))).take 8) with inFlight := 0 }
      let drains := fun (d : Fin 4) (a : Nat) => (kept d a).st = .sealed ∧ (kept d a).live = 0
      let other := if c.slot = .a then ImgSlot.b else .a
      cat.st = .ready ∧ cat.boxId = c.hdr.boxId ∧ cat.geo = { e := c.hdr.e, h := c.hdr.h, au := c.hdr.au, c := c.hdr.c }
      ∧ cat.stale = #v[c.hdr.stale0, c.hdr.stale1] ∧ cat.lastTime = c.hdr.time ∧ cat.generation = c.hdr.generation
      ∧ (cat.genA, cat.genB) = (if c.slot = .a then (c.hdr.generation, 0) else (0, c.hdr.generation))
      ∧ cat.collisions = 0 ∧ cat.unindexed = 0 ∧ cat.accounting = 0 ∧ cat.overflows = 0
      ∧ (∀ i : Nat, cat.entry i = if i < slots then Config.slotOfBytes ((w.bytes.drop (32 * i)).take 32) else none)
      ∧ (∀ (d : Fin 4) (a : Nat), a < c.hdr.au[d] →
        (¬drains d a → cat.au d a = kept d a)
        ∧ (drains d a → cat.au d a
          = if (kept d a).retire then { kept d a with st := .retired }
            else { kept d a with st := .drained, drainedGen := c.hdr.generation }))
      ∧ (∀ p : Nat, (cat.marks other).has p = true
        ∧ ((cat.marks c.slot).has p = true
          ↔ ∃ (d : Fin 4) (a : Nat), a < c.hdr.au[d] ∧ p = slots / 128 + (before d + a) / 512 ∧ drains d a))
      ∧ ∀ i : Fin 2,
        ((if c.slot = .a then cat.inStepA[i] else cat.inStepB[i]) = true
          ↔ ∃ h, passed (catDrive i) c.slot h ∧ h.generation = c.hdr.generation ∧ h.imageCrc = c.hdr.imageCrc)
        ∧ (if c.slot = .a then cat.inStepB[i] else cat.inStepA[i]) = true)
  ∧ ∀ (s : State) (j : Job) (w : LoadWork), s.holds j → s.loadJob = some (j.id, w) →
    (w.headersRead = true →
      (w.candidates = [] → Ends s .loadHeadersRead { s.reports j { status := .noValidImage } with cat := {} })
      ∧ ∀ (c : Candidate) (l : List Candidate), w.candidates = c :: l →
        let runs := wholeRuns c.hdr.geo.pages
        Ends s .loadHeadersRead
          { s.goesTo j
              (.loading
                { w with
                  stage := .image, cands := c :: l, passed := l.length + 1, reads := runs.length, bytes := [], bad := false }) [] with
            nextId := s.nextId + runs.length
            offers := s.offers ++ runs.zipIdx.map fun p =>
              { drive := c.drive
                op := { id := s.nextId + p.2, cls := .bulk, kind := .areaRead
                        first := c.hdr.geo.slotSector c.slot + 1 + p.1.1, count := p.1.2, owner := .loadPage } } })
    ∧ ∀ (c : Candidate) (l : List Candidate), w.stage = .image → w.reads = 0 → w.cands = c :: l →
      (w.bad = false → crc32 w.bytes = c.hdr.imageCrc →
        Ends s .loadImageReadDone
          { s.reports j
              { aux := if c.slot = .a then 0 else 1, w0 := c.hdr.generation.setWidth 32
                w1 := (c.hdr.generation >>> 32).setWidth 32, w2 := BitVec.ofNat 32 c.drive.val } with
            cat := w.loaded c })
      ∧ (w.bad = true ∨ crc32 w.bytes ≠ c.hdr.imageCrc →
        (l = [] →
          Ends s .loadImageReadDone { s.reports j { status := .noValidImage, w2 := BitVec.ofNat 32 w.passed } with cat := {} })
        ∧ ∀ (d : Candidate) (m : List Candidate), l = d :: m →
          let runs := wholeRuns d.hdr.geo.pages
          Ends s .loadImageReadDone
            { s.goesTo j (.loading { w with cands := d :: m, reads := runs.length, bytes := [], bad := false }) [] with
              nextId := s.nextId + runs.length
              offers := s.offers ++ runs.zipIdx.map fun p =>
                { drive := d.drive
                  op := { id := s.nextId + p.2, cls := .bulk, kind := .areaRead
                          first := d.hdr.geo.slotSector d.slot + 1 + p.1.1, count := p.1.2, owner := .loadPage } } })

/-- FORMAT (R89, R120, R121): the checks; the demands for the drives that need a start, waiting also for a READY drive whose
start-up phase runs (notes/assumptions/27.md); with FORCE a READY catalogue is discarded first, with the requests in progress, the
repair list and the operations made for it (R69, R138, R167). With the drives settled, a drive below its minimum ends it with
TOO_SMALL, its results free values (notes/assumptions/10.md), and else the labels are written, on drives 0 and 1 also when one of
them is not READY any more by the model's choice (notes/assumptions/71.md); with the writes ended it succeeds when drives 0 and 1
have finished. The drives settle (notes/assumptions/12.md). -/
def Obligations.Format : Prop :=
  ∀ (s : State) (j : Job),
    (∀ (box : BitVec 64) (h : Nat) (force : Bool), s.carries 0 j → j.req = .format box h force →
      (box = 0 ∨ h = 0 ∨ 1024 < h → Ends s .format (s.reports j { status := .badParam }))
      ∧ (box ≠ 0 → 1 ≤ h → h ≤ 1024 → s.cat.st = .loading ∨ (s.cat.st = .ready ∧ force = false) →
        Ends s .format (s.reports j { status := .wrongState }))
      ∧ (box ≠ 0 → 1 ≤ h → h ≤ 1024 → s.cat.st = .notLoaded → s.openStreams = 0 → s.drives[(0 : Fin 4)].usable = true →
        s.drives[(1 : Fin 4)].usable = true →
        Ends s .format
          (State.settle
            { s.goesTo j
                (.formatting { boxId := box, h := h, waiting := drives4.filter fun d => s.drives[d].usable && !s.drives[d].serving }) [] with
              drives := Vector.ofFn fun d =>
                if s.drives[d].usable = true ∧ s.drives[d].power ≠ .ready ∧ DemandBy.format ∉ s.drives[d].demands then
                  { s.drives[d] with demands := s.drives[d].demands ++ [.format] }
                else s.drives[d] }))
      ∧ (box ≠ 0 → 1 ≤ h → h ≤ 1024 → s.cat.st = .notLoaded → s.openStreams ≠ 0 →
        Ends s .format (s.reports j { status := .wrongState }))
      ∧ (box ≠ 0 → 1 ≤ h → h ≤ 1024 → s.cat.st = .notLoaded → s.openStreams = 0 →
        s.drives[(0 : Fin 4)].usable = false ∨ s.drives[(1 : Fin 4)].usable = false →
        Ends s .format
          { s.reports j
              { status := .driveUnavailable, aux := (Config.openWord (4 * s.nextId)).toNat % 65536
                w0 := Config.openWord (4 * s.nextId + 1), w1 := Config.openWord (4 * s.nextId + 2)
                w2 := Config.openWord (4 * s.nextId + 3) } with
            nextId := s.nextId + 1 })
      ∧ (box ≠ 0 → 1 ≤ h → h ≤ 1024 → s.cat.st = .ready → force = true → s.openStreams = 0 → s.jobs = [j] →
        s.drives[(0 : Fin 4)].usable = true → s.drives[(1 : Fin 4)].usable = true →
        Ends s .format
          (State.settle
            { s.goesTo j
                (.formatting { boxId := box, h := h, waiting := drives4.filter fun d => s.drives[d].usable && !s.drives[d].serving }) [] with
              cat := {}, engine := {}, repair := {}, scrub := none
              offers := s.offers.filter fun f => !f.op.owner.withCatalogue
              drives := Vector.ofFn fun d =>
                let x : Drive := { s.drives[d] with
                  ops := s.drives[d].ops.filter fun o => !o.owner.withCatalogue
                  room := s.drives[d].room.filter fun o => !o.owner.withCatalogue }
                if x.usable = true ∧ x.power ≠ .ready ∧ DemandBy.format ∉ x.demands then { x with demands := x.demands ++ [.format] }
                else x })))
    ∧ ∀ w : FormatWork, s.holds j → s.formatJob = some (j.id, w) →
      (w.writing = false → w.waiting = [] → s.drives[(0 : Fin 4)].usable = true → s.drives[(1 : Fin 4)].usable = true →
        let g := s.formatGeo w.h
        (g.au[0] < 2 * g.c + g.h + 2 ∨ g.au[1] < 2 * g.c + g.h + 2 →
          Ends s .formatDrivesSettled
            { s.reports j
                { status := .tooSmall, aux := (Config.openWord (4 * s.nextId)).toNat % 65536
                  w0 := Config.openWord (4 * s.nextId + 1), w1 := Config.openWord (4 * s.nextId + 2)
                  w2 := Config.openWord (4 * s.nextId + 3) } with
              nextId := s.nextId + 1 })
        ∧ (2 * g.c + g.h + 2 ≤ g.au[0] → 2 * g.c + g.h + 2 ≤ g.au[1] → s.drives[(2 : Fin 4)].power ≠ .ready →
          s.drives[(3 : Fin 4)].power ≠ .ready →
          let op : Fin 4 → Nat → Op := fun d id =>
            { id := id, cls := .bulk, kind := .labelWrite, first := 0, count := 1, owner := .format
              payload := labelSector w.boxId d.val g.au[d] s.stamp }
          Ends s .formatDrivesSettled
            { s.goesTo j
                (.formatting
                  { w with writing := true, geo := g, time := s.stamp, steps := (w.steps.set 0 .label).set 1 .label }) [] with
              nextId := s.nextId + 2
              offers := s.offers ++ [{ drive := 0, op := op 0 s.nextId }, { drive := 1, op := op 1 (s.nextId + 1) }] }))
      ∧ (w.writing = true → w.steps[(0 : Fin 4)] = .finished → w.steps[(1 : Fin 4)] = .finished →
        (w.steps[(2 : Fin 4)].over = true) → w.steps[(3 : Fin 4)].over = true →
        Ends s .formatWritesDone
          { s.reports j
              { w0 := BitVec.ofNat 32 w.geo.c, w1 := BitVec.ofNat 32 (imageSectors w.geo.e w.geo.au), w2 := w.labelled.setWidth 32 } with
            cat :=
              { st := .ready, boxId := w.boxId, geo := w.geo, marksB := { all := true }, genA := 1
                inStepA := #v[true, true], lastTime := w.time } })

/-! ## Drives -/

/-- START, PARK and POWER_OFF (R151, R152): a drive number above 3 is refused, an ABSENT or FAILED drive unavailable, a drive
already in the state that the action asks for reported at once, with the start failures counted since the job was taken; else START raises its demand, also on a STARTING drive
(notes/assumptions/30.md), and PARK and POWER_OFF become pending, and the drives settle (notes/assumptions/12.md). CLEAR_FAULT
(R153, R174, R181): every latch, score, streak and the decay timer of the drive are cleared, IDENTIFY is due again, the drives
settle, and the job reports the latched faults, the causes of FAILED among them, in the word that notes/assumptions/31.md lays
out, and the start failures as they were. -/
def Obligations.DriveControl : Prop :=
  (∀ (s : State) (j : Job) (d : Nat), s.carries 0 j →
      (∀ c : Instr, (c = .driveControlStart ∧ j.req = .driveControl d 1) ∨ (c = .driveControlPark ∧ j.req = .driveControl d 2)
          ∨ (c = .driveControlPowerOff ∧ j.req = .driveControl d 3) →
        (4 ≤ d → Ends s c (s.reports j { status := .badParam }))
        ∧ ∀ n : Fin 4, n.val = d → s.drives[n].usable = false →
          Ends s c
            (s.reports j
              { status := .driveUnavailable, w0 := BitVec.ofNat 32 s.drives[n].power.code, w1 := BitVec.ofNat 32 j.fails }))
      ∧ ∀ n : Fin 4, n.val = d → s.drives[n].usable = true →
        (j.req = .driveControl d 1 →
          (s.drives[n].power = .ready → Ends s .driveControlStart (s.reports j { w0 := 3, w1 := BitVec.ofNat 32 j.fails }))
          ∧ (s.drives[n].power ≠ .ready → DemandBy.start ∉ s.drives[n].demands →
            Ends s .driveControlStart
              (State.settle { s.goesTo j (.starting n) [] with
                drives := s.drives.set n { s.drives[n] with demands := s.drives[n].demands ++ [.start] } })))
        ∧ (j.req = .driveControl d 2 →
          (s.drives[n].power = .unpowered → Ends s .driveControlPark (s.reports j { w0 := 1, w1 := BitVec.ofNat 32 j.fails }))
          ∧ (s.drives[n].power = .parked → Ends s .driveControlPark (s.reports j { w0 := 5, w1 := BitVec.ofNat 32 j.fails }))
          ∧ (s.drives[n].power = .starting ∨ s.drives[n].power = .ready ∨ s.drives[n].power = .stopping →
            Ends s .driveControlPark
              (State.settle { s.goesTo j (.parking n false) [] with
                drives := s.drives.set n { s.drives[n] with park := some { off := false, job := true }, idle := none, idleHeld := false } })))
        ∧ (j.req = .driveControl d 3 →
          (s.drives[n].power = .unpowered → Ends s .driveControlPowerOff (s.reports j { w0 := 1, w1 := BitVec.ofNat 32 j.fails }))
          ∧ (s.drives[n].power ≠ .unpowered →
            Ends s .driveControlPowerOff
              (State.settle { s.goesTo j (.parking n true) [] with
                drives := s.drives.set n { s.drives[n] with park := some { off := true, job := true }, idle := none, idleHeld := false } }))))
  ∧ (∀ (s : State) (j : Job) (d : Nat), s.carries 0 j → j.req = .driveControl d 4 →
      (4 ≤ d → Ends s .clearFault (s.reports j { status := .badParam }))
      ∧ ∀ n : Fin 4, n.val = d →
        let x := s.drives[n]
        let bit := fun (b : Bool) (v : Nat) => if b then v else 0
        Ends s .clearFault
          ((State.settle
            { s with
              drives := s.drives.set n
                { x with
                  causes := {}, degraded := false, noAnswer := 0, startFails := 0, score := 0, decay := none, identified := false }
              out := {} }).complete j.id
            { w0 := BitVec.ofNat 32 (bit x.degraded 1 + bit x.failed 2 + bit x.causes.start 256 + bit x.causes.noAnswer 512
                + bit x.causes.removed 1024 + bit x.causes.rail 2048)
              w1 := BitVec.ofNat 32 x.startFails }))

/-- ADOPT and RESYNC (R102 to R104): the checks, and the demand for the drive. ADOPT's action takes the hold; with no entry
outside PENDING that has a copy on the catalogue drive and no AU record to reset, it goes on to the host-area copy, word 2 counting
every chunk AU of the slot (notes/assumptions/29.md). RESYNC of a READY drive, from drives at rest and with the hold free, takes
the hold at once, sets the drive's stale flag, takes it out of step, and begins the host-area copy with its first read. The copy
(R101): a read answered is written to the target, a write answered begins the next pair of 256 sectors, and after the last of them
RESYNC completes, the stale flag clear and the hold released. The drives settle (notes/assumptions/12.md). -/
def Obligations.AdoptAndResync : Prop :=
  (∀ (s : State) (j : Job) (d : Nat), 4 ≤ d → j.req = .driveControl d 5 → s.carries 0 j →
    Ends s .adopt (s.reports j { status := .badParam }))
  ∧ (∀ (s : State) (j : Job) (d : Nat) (n : Fin 4), n.val = d →
    (j.req = .driveControl d 5 → s.carries 0 j →
      (s.cat.st ≠ .ready ∨ s.member n = true → Ends s .adopt (s.reports j { status := .wrongState }))
      ∧ (s.cat.st = .ready → s.member n = false → s.drives[n].usable = false →
        Ends s .adopt (s.reports j { status := .driveUnavailable }))
      ∧ (s.cat.st = .ready → s.member n = false → s.drives[n].usable = true → s.drives[n].power ≠ .ready →
        DemandBy.adopt ∉ s.drives[n].demands →
        Ends s .adopt
          (State.settle { s.goesTo j (.adopting { drive := n }) [] with
            drives := s.drives.set n { s.drives[n] with demands := s.drives[n].demands ++ [.adopt] } })))
    ∧ (j.req = .driveControl d 6 → s.carries 0 j →
      (2 ≤ d → Ends s .resync (s.reports j { status := .badParam }))
      ∧ (d < 2 → s.cat.st ≠ .ready ∨ s.member n = false → Ends s .resync (s.reports j { status := .wrongState }))
      ∧ (d < 2 → s.cat.st = .ready → s.member n = true → s.drives[n].usable = true → s.drives[n].power ≠ .ready →
        DemandBy.resync ∉ s.drives[n].demands →
        Ends s .resync
          (State.settle { s.goesTo j (.resyncing n .starting) [] with
            drives := s.drives.set n { s.drives[n] with demands := s.drives[n].demands ++ [.resync] } }))
      ∧ (d < 2 → s.cat.st = .ready → s.member n = true → s.drives[n].usable = false →
        Ends s .resync (s.reports j { status := .driveUnavailable }))
      ∧ ∀ i : Fin 2, catDrive i = n → s.cat.st = .ready → s.member n = true → s.drives[n].usable = true → s.drives[n].power = .ready →
        s.resting → s.jobs = [j] → s.engine.hold = none → s.engine.holdQueue = [] → s.engine.orphans = [] →
        s.member (catDrive (1 - i)) = true → s.drives[catDrive (1 - i)].failed = false → s.cat.stale[1 - i] = false →
        Ends s .resync
          { s.goesTo j (.resyncing n .copying) [] with
            engine := { s.engine with hold := some .resync, hostCopy := some { target := i, waiting := false } }
            cat := { s.cat with
              stale := s.cat.stale.set i true, inStepA := s.cat.inStepA.set i false, inStepB := s.cat.inStepB.set i false }
            nextId := s.nextId + 1
            offers := s.offers ++
              [{ drive := catDrive (1 - i)
                 op := { id := s.nextId, cls := .bulk, kind := .areaRead, first := (2 * s.cat.geo.c + 1) * 1024, count := 256
                         owner := .hostCopy } }] })
    ∧ ∀ (w : AdoptWork) (i : Fin 2), s.holds j → s.adoptJob = some (j.id, w) → w.stage = .askingHold → w.drive = catDrive i →
      s.engine.hold = none → s.engine.holdQueue = [.adopt] → s.cat.aus[catDrive i] = [] →
      (∀ q ∈ s.cat.index, q.2.st = .pending ∨ q.2.onDrive (catDrive i) = 0) →
      Ends s .adoptAction
        (State.settle
          { s.goesTo j
              (.adopting { w with stage := .copying, reset := s.cat.geo.au[catDrive i] - s.cat.geo.firstChunkAu (catDrive i) }) [] with
            engine := { s.engine with hold := some .adopt, holdQueue := [], hostCopy := some { target := i } }
            cat := { s.cat with
              stale := s.cat.stale.set i true, inStepA := s.cat.inStepA.set i false, inStepB := s.cat.inStepB.set i false }
            drives := s.drives.set (catDrive i) { s.drives[catDrive i] with epoch := s.drives[catDrive i].epoch + 1 } }))
  ∧ ∀ (s : State) (h : HostCopy) (p : Fin 4) (o : Op) (c : DriveCmd) (again : Bool) (data : List Byte) (v : Int), s.powered = true →
    s.engine.hostCopy = some h → s.drives[p].ops = [o] → o.owner = .hostCopy → o.withdrawn = false → o.segsDone + 1 = o.segments →
    s.drives[p].port = .command (.segment o.id) c again →
    let drives := s.drives.set p { s.drives[p] with port := .idle, ops := [], credit := s.cfg.credit, noAnswer := 0 }
    (o.kind = .areaRead →
      Ends s (.commandAnswer p (.done data v))
        (State.settle
          { s with
            drives := drives, nextId := s.nextId + 1, out := {}
            offers := s.offers ++
              [{ drive := catDrive h.target
                 op := { id := s.nextId, cls := .bulk, kind := .areaWrite, first := o.first, count := 256, owner := .hostCopy
                         payload := o.data ++ data } }] }))
    ∧ (o.kind = .areaWrite → h.pairs + 1 < 4 * s.cat.geo.h →
      Ends s (.commandAnswer p (.done data v))
        (State.settle
          { s with
            drives := drives, nextId := s.nextId + 1, out := {}
            engine := { s.engine with hostCopy := some { h with pairs := h.pairs + 1 } }
            offers := s.offers ++
              [{ drive := catDrive (1 - h.target)
                 op := { id := s.nextId, cls := .bulk, kind := .areaRead
                         first := (2 * s.cat.geo.c + 1) * 1024 + 256 * (h.pairs + 1), count := 256, owner := .hostCopy } }] }))
    ∧ ∀ (j : Job) (n : Fin 4), o.kind = .areaWrite → 4 * s.cat.geo.h ≤ h.pairs + 1 → s.jobs = [j] → j.phase = .resyncing n .copying →
      s.engine.hold = some .resync → s.engine.holdQueue = [] → s.engine.held = [] →
      Ends s (.commandAnswer p (.done data v))
        (State.settle
          { s.reports j { aux := min ((h.pairs + 1) / 4) 65535, w0 := BitVec.ofNat 32 (256 * (h.pairs + 1)) } with
            drives := drives, engine := { s.engine with hostCopy := none, hold := none }
            cat := { s.cat with stale := s.cat.stale.set h.target false } })

/-- Offers and port commands (R122, R124, R125, R129 to R132, R150). An operation is carried in segments of 64 sectors. An offer
to a drive in READY whose list has room joins the list in class order. A segment answered DONE leaves its operation ACTIVE while
more remain; the last one takes it off the list, and an error or NO_ANSWER takes it off at once; a chunk write's outcome then is a
request to the Catalogue Engine, and a withdrawn operation asks nothing (R137), though the kept label follows the answer of a
withdrawn LABEL_READ or LABEL_WRITE (R90). A port that becomes IDLE with an empty list has its credit refilled, also at the end of a
STANDBY by the model's choice (notes/assumptions/72.md). IDENTIFY, SET_FEATURE and LABEL_READ of the start-up phase (R90, R133,
R134): the capacity, SETUP_INCOMPLETE, the kept label, the end of the phase; while the setup list is being sent SETUP_INCOMPLETE is set at a failing entry and else keeps
its earlier value (notes/assumptions/20.md). A STANDBY answered DONE leaves the drive PARKED, and one that failed UNPOWERED with
its rail off; a pending park or power-off is settled then, its job reporting OK with the power state and the start failures it
counted (R150, R151, R152). A timeout resets the port; an answered reset issues a command other than a WRITE once more, with the
credit as it is by the model's choice (notes/assumptions/82.md), and one that is not answered ends it with NO_ANSWER (R131). The drives settle (notes/assumptions/12.md). -/
def Obligations.PortCommands : Prop :=
  (∀ o : Op,
    let first := o.first + 64 * o.segsDone
    let count := min 64 (o.count - 64 * o.segsDone)
    (o.kind = .chunkRead ∨ o.kind = .areaRead ∨ o.kind = .labelRead →
      o.segments = (o.count + 63) / 64 ∧ o.command = .read first count)
    ∧ (o.kind = .chunkWrite ∨ o.kind = .areaWrite ∨ o.kind = .labelWrite →
      o.segments = (o.count + 63) / 64
      ∧ (o.payload.length = 4096 * o.count →
        o.command = .write first ((o.payload.drop (262144 * o.segsDone)).take (4096 * count))))
    ∧ (o.kind = .flush → o.segments = 1 ∧ o.command = .flush) ∧ (o.kind = .tempPoll → o.segments = 1 ∧ o.command = .readTemp))
  ∧ ∀ (s : State) (d : Fin 4), s.powered = true →
    let x := s.drives[d]
    let full := if x.ops = [] then s.cfg.credit else x.credit
    (∀ (o : Op) (l : List Offer), s.offers = { drive := d, op := o } :: l → o.badRange x.capacity = false →
      x.failed = false → x.power = .ready → x.ops.length < 32 →
      Ends s .operationOffer
        (State.settle { s with offers := l, drives := s.drives.set d { x with ops := placeOp x.ops o }, out := {} }))
    ∧ (∀ (o : Op) (c : DriveCmd) (r : Bool), x.port = .command (.segment o.id) c r →
      (x.ops.find? fun p => p.id == o.id) = some o → o.kind ≠ .tempPoll →
      let rest := x.ops.filter fun p => p.id != o.id
      let left : Drive := { x with port := .idle, ops := rest, credit := if rest = [] then s.cfg.credit else x.credit }
      (∀ (data : List Byte) (v : Int),
        (o.withdrawn = false → o.segsDone + 1 < o.segments →
          Ends s (.commandAnswer d (.done data v))
            (State.settle
              { s with
                drives := s.drives.set d
                  { x with
                    port := .idle, noAnswer := 0
                    ops := x.ops.map fun p =>
                      if p.id = o.id then { o with segsDone := o.segsDone + 1, data := o.data ++ data, st := .active } else p }
                out := {} }))
        ∧ (o.withdrawn = true →
          let label := match o.kind with
            | .labelRead => readLabel (o.data ++ data)
            | .labelWrite => readLabel o.payload
            | _ => x.label
          Ends s (.commandAnswer d (.done data v))
            (State.settle { s with drives := s.drives.set d { left with label := label, noAnswer := 0 }, out := {} }))
        ∧ ∀ (n : Fin 8) (id : Nat) (k : CopyName), o.withdrawn = false → o.segments ≤ o.segsDone + 1 → o.kind = .chunkWrite →
          o.owner = .chunkCopy n id k →
          Ends s (.commandAnswer d (.done data v))
            (State.settle
              { s with
                engine := { s.engine with requests := s.engine.requests ++ [.writeOutcome (.chunk n id k) .done] }
                drives := s.drives.set d { left with noAnswer := 0 }, out := {} }))
      ∧ ∀ (n : Fin 8) (id : Nat) (k : CopyName), o.withdrawn = false → o.kind = .chunkWrite → o.owner = .chunkCopy n id k →
        Ends s (.commandAnswer d .otherError)
          (State.settle
            { s with
              engine := { s.engine with requests := s.engine.requests ++ [.writeOutcome (.chunk n id k) .failed] }
              drives := s.drives.set d left, out := {} }))
    ∧ (∀ (o : Op) (c : DriveCmd) (r : Bool) (n : Fin 8) (id : Nat) (k : CopyName), x.port = .resetting (.segment o.id) c r →
      x.ops = [o] → o.withdrawn = false → o.kind = .chunkWrite → o.owner = .chunkCopy n id k → x.noAnswer < 2 →
      Ends s (.portResetTimeout d)
        (State.settle
          { s with
            engine := { s.engine with requests := s.engine.requests ++ [.writeOutcome (.chunk n id k) .failed] }
            drives := s.drives.set d { x with port := .idle, ops := [], credit := s.cfg.credit, noAnswer := x.noAnswer + 1 }
            out := {} }))
    ∧ (∀ (u : Startup) (c : DriveCmd) (r : Bool), x.startup = some u →
      (x.port = .command .feature c r →
        let sent := fun bad : Bool => State.settle
          { s with
            drives := s.drives.set d
              { x with
                port := .idle, credit := full, startup := some { u with todo := u.todo.tail, failed := u.failed || bad }
                setupIncomplete := x.setupIncomplete || bad, noAnswer := if bad then x.noAnswer else 0 }
            out := {} }
        (∀ (data : List Byte) (v : Int), Ends s (.commandAnswer d (.done data v)) (sent false))
        ∧ Ends s (.commandAnswer d .otherError) (sent true))
      ∧ (x.port = .command .identify c r →
        (∀ (data : List Byte) (v : Nat),
          Ends s (.commandAnswer d (.done data v))
            (State.settle
              { s with
                drives := s.drives.set d
                  { x with
                    port := .idle, credit := full, startup := some { u with stage := .label }, identified := true, capacity := v
                    noAnswer := 0 }
                out := {} }))
        ∧ Ends s (.commandAnswer d .otherError)
            (State.settle
              { s with
                drives := s.drives.set d
                  { x with port := .idle, credit := full, startup := none, capacity := 0, setupIncomplete := true }
                out := {} })))
    ∧ (∀ (data : List Byte) (v : Int) (c : DriveCmd) (r : Bool), x.port = .command .label c r →
      Ends s (.commandAnswer d (.done data v))
        (State.settle
          { s with
            drives := s.drives.set d
              { x with port := .idle, credit := full, label := readLabel data, startup := none, noAnswer := 0 }
            out := {} }))
    ∧ (∀ (data : List Byte) (v : Int) (c : DriveCmd) (r : Bool), x.port = .command .standby c r →
      Ends s (.commandAnswer d (.done data v))
        (State.settle
          { s with drives := s.drives.set d { x with port := .idle, credit := full, power := .parked, noAnswer := 0 }, out := {} })
      ∧ let off : Drive :=
          { x with
            port := .idle, credit := full, power := .unpowered, rail := false, startTimer := none, wakeAsked := false
            standbyAsked := false, park := none }
        (x.park = none →
          Ends s (.commandAnswer d .otherError)
            (State.settle { s with drives := s.drives.set d off, out := { acts := [.rail d false] } }))
        ∧ ∀ (j : Job) (o : Bool), x.park.isSome = true → s.jobs = [j] → j.phase = .parking d o →
          let result : Result := { w0 := 1, w1 := BitVec.ofNat 32 j.fails }
          Ends s (.commandAnswer d .otherError)
            (State.settle
              { s.reports j result with
                drives := s.drives.set d off
                out := { acts := [.rail d false, .hostWrite (j.record + 48) result.bytes] } }))
    ∧ (∀ (u : PortUse) (c : DriveCmd) (r : Bool), u ≠ .wake → x.port = .command u c r →
      Ends s (.commandTimeout d)
        { s with drives := s.drives.set d { x with port := .resetting u c r }, out := { acts := [.portReset d] } })
    ∧ (∀ (u : PortUse) (c : DriveCmd), u ≠ .wake → (∀ f b, c ≠ .write f b) → x.port = .resetting u c false →
      Ends s (.portResetAnswered d)
        { s with drives := s.drives.set d { x with port := .command u c true }, out := { acts := [.port d c] } })
    ∧ (∀ (c : DriveCmd) (r : Bool), x.noAnswer < 2 → x.port = .resetting .label c r →
      Ends s (.portResetTimeout d)
        (State.settle
          { s with
            drives := s.drives.set d { x with port := .idle, credit := full, startup := none, noAnswer := x.noAnswer + 1 }
            out := {} }))

/-- Starts and idle parking (R133, R145, R146, R149), with neither LOAD nor a checkpoint waiting for the drive: the
announcement of a drive whose rail was switched on, and WAKE answered DONE by a PARKED drive that is started, make it READY with its
start-up phase begun and every demand released; a first start timeout leaves it UNPOWERED with its rail off, and a WAKE that fails
or is not answered leaves it PARKED, one start failure counted, also by a START, PARK or POWER_OFF of the drive in flight (R151),
and the ONCE demands released; WAKE's timeout also resets the port.
A port that a WAKE's end leaves IDLE with an empty list has its credit refilled by the model's choice (notes/assumptions/72.md). An
idle timer's expiry is held for the drive to settle. The drives settle (notes/assumptions/12.md). -/
def Obligations.Starts : Prop :=
  ∀ (s : State) (d : Fin 4), s.powered = true →
    let x := s.drives[d]
    (s.loadJob = none → s.engine.ckpt = none → x.power = .starting →
      let full := if x.ops = [] then s.cfg.credit else x.credit
      let started : Drive := { x with
        power := .ready, startTimer := none, startFails := 0, startup := some { todo := s.cfg.drive[d].setup }, demands := [] }
      let fails : Drive := { x with
        startTimer := none, wakeAsked := false, startFails := 1
        demands := x.demands.filter fun b => b != .prestart && b != .checkpoint && b != .load }
      let jobs := s.jobs.map fun j =>
        if j.req = .driveControl d.val 1 ∨ j.req = .driveControl d.val 2 ∨ j.req = .driveControl d.val 3 then
          { j with fails := j.fails + 1 }
        else j
      (x.fromParked = false →
        Ends s (.driveAnnounce d) (State.settle { s with drives := s.drives.set d started, out := {} })
        ∧ (x.startTimer.isSome = true → x.startFails = 0 →
          Ends s (.startTimeout d)
            (State.settle
              { s with
                drives := s.drives.set d { fails with power := .unpowered, rail := false, standbyAsked := false }
                jobs := jobs, out := { acts := [.rail d false] } })))
      ∧ ∀ (c : DriveCmd) (r : Bool), x.fromParked = true → x.port = .command .wake c r →
        (∀ (data : List Byte) (v : Int),
          Ends s (.commandAnswer d (.done data v))
            (State.settle { s with drives := s.drives.set d { started with port := .idle, credit := full, noAnswer := 0 }, out := {} }))
        ∧ (x.startFails = 0 →
          Ends s (.commandAnswer d .otherError)
            (State.settle
              { s with
                drives := s.drives.set d { fails with port := .idle, credit := full, power := .parked }, jobs := jobs, out := {} })
          ∧ (x.failed = false →
            Ends s (.commandTimeout d)
              (State.settle
                { s with
                  drives := s.drives.set d { fails with port := .resetting .wake c r, power := .parked }
                  jobs := jobs, out := { acts := [.portReset d] } }))))
    ∧ (x.idle.isSome = true →
      Ends s (.idleTimerExpiry d)
        (State.settle { s with drives := s.drives.set d { x with idle := none, idleHeld := true }, out := {} }))

/-- RAIL_SAMPLE (R140, R154). With no drive taken out: a drive put in becomes UNPOWERED; a bay whose drive is UNPOWERED and not
FAILED starts its rail grace timer at a current at or above the leak threshold, and every other bay's timer stops. A drive taken
out, of an empty list, with the currents below the threshold and every other line as before, is ABSENT, its kept label and
capacity gone, its rail commanded off when it was on, and FAILED is latched with the cause REMOVED. The expiry of the timer of a
drive with an empty list latches FAILED with the cause RAIL. A latch takes the start, park, timers, port and demands from the drive,
takes the snapshot and sets DRIVE_FAULT (R136, R179, R180); what the page showed before it is written first (R17). Neither LOAD nor
a checkpoint waits for the drive; the drives settle (notes/assumptions/12.md). -/
def Obligations.Rails : Prop :=
  ∀ s : State, s.powered = true →
    (∀ (current : Vector Nat 4) (present : BitVec 4), (∀ d : Fin 4, s.drives[d].power ≠ .absent → present.getLsbD d.val = true) →
      Ends s (.railSample current present)
        (State.settle
          { s with
            drives := Vector.ofFn fun d =>
              let x : Drive :=
                if s.drives[d].power = .absent ∧ present.getLsbD d.val = true then { s.drives[d] with present := true, power := .unpowered }
                else s.drives[d]
              if x.power = .unpowered ∧ x.failed = false ∧ s.cfg.leak ≤ current[d] then
                { x with railGrace := if x.railGrace.isSome then x.railGrace else some s.cfg.railGrace }
              else { x with railGrace := none }
            out := {} }))
    ∧ ∀ d : Fin 4, s.drives[d].failed = false → s.drives[d].ops = [] → s.drives[d].room = [] → s.loadJob = none →
      s.engine.ckpt = none →
      let x := s.drives[d]
      let quiet : Drive := { x with
        startTimer := none, wakeAsked := false, standbyAsked := false, demands := [], park := none, idle := none, idleCond := false
        idleHeld := false, railGrace := none, ops := [], room := [], credit := s.cfg.credit, port := .idle, startup := none
        hotGrace := none, poll := none, snapCount := x.snapCount + 1 }
      let shot := fun (c : FaultCause) => some
        ({ failed := true, cause := c, time := s.stamp, temp := x.temp, score := x.score, noAnswer := x.noAnswer
           startFails := x.startFails, power := x.power } : Snapshot)
      (x.railGrace.isSome = true → x.power = .unpowered →
        Ends s (.railGraceExpiry d)
          (State.settle
            { s with
              drives := s.drives.set d { quiet with causes := { x.causes with rail := true }, snap := shot .rail }
              attn := s.attn ||| 0x10, out := { notes := s.stage } }))
      ∧ ∀ (current : Vector Nat 4) (present : BitVec 4), x.power ≠ .absent → present.getLsbD d.val = false →
        (∀ e : Fin 4, e ≠ d → (s.drives[e].power = .absent ↔ present.getLsbD e.val = false)) → (∀ e : Fin 4, current[e] < s.cfg.leak) →
        let out : Drive := { x with present := false, power := .absent, rail := false, label := none, capacity := 0 }
        Ends s (.railSample current present)
          (State.settle
            { s with
              drives := Vector.ofFn fun e =>
                if e = d then
                  { quiet with
                    present := false, power := .absent, rail := false, label := none, capacity := 0
                    causes := { x.causes with removed := true }, snap := shot .removed }
                else { s.drives[e] with railGrace := none }
              attn := s.attn ||| 0x10
              out :=
                { acts := if x.rail then [.rail d false] else []
                  notes := State.stage { s with drives := s.drives.set d out } } })

/-- The health records (R175 to R180). The timers: the poll timer restarts and a TEMP_POLL is offered in class BULK unless one is
under way; the grace timer's expiry sets HOT; the decay timer takes one point off the score and runs on while points are left. The
answers, with an operation alone on its list: a TEMP_POLL's reading is clamped to -40 to 125 and starts or stops the grace timer or
ends HOT by its thresholds; a media error adds a point, starts the decay timer with the first, and latches DEGRADED, with a
snapshot and DRIVE_FAULT, when the score reaches the limit; the third NO_ANSWER in a row latches FAILED and takes the drive's rail
off. What the page showed before a latch is written first (R17). The drives settle (notes/assumptions/12.md). -/
def Obligations.HealthTimers : Prop :=
  ∀ (s : State) (d : Fin 4), s.powered = true →
    (s.drives[d].poll.isSome = true →
      (s.polling d = true →
        Ends s (.tempPollTimerExpiry d) { s with drives := s.drives.set d { s.drives[d] with poll := some 60 }, out := {} })
      ∧ (s.polling d = false →
        Ends s (.tempPollTimerExpiry d)
          { s with
            drives := s.drives.set d { s.drives[d] with poll := some 60 }
            nextId := s.nextId + 1
            offers := s.offers ++
              [{ drive := d, op := { id := s.nextId, cls := .bulk, kind := .tempPoll, first := 0, count := 0, owner := .tempPoll } }]
            out := {} }))
    ∧ (s.drives[d].hotGrace.isSome = true →
      Ends s (.hotGraceExpiry d)
        { s with drives := s.drives.set d { s.drives[d] with hot := true, hotGrace := none }, out := {} })
    ∧ (s.drives[d].decay.isSome = true →
      Ends s (.decayTimerExpiry d)
        { s with
          drives := s.drives.set d
            { s.drives[d] with
              score := s.drives[d].score - 1, decay := if 0 < s.drives[d].score - 1 then some 3600 else none }
          out := {} })
    ∧ (∀ (o : Op) (c : DriveCmd) (r : Bool), s.drives[d].ops = [o] → o.withdrawn = false →
      s.drives[d].port = .command (.segment o.id) c r →
      let x := s.drives[d]
      let idle : Drive := { x with port := .idle, ops := [], credit := s.cfg.credit }
      (∀ (data : List Byte) (v : Int), o.kind = .tempPoll → o.owner = .tempPoll →
        let t : Int := if v < -40 then -40 else if 125 < v then 125 else v
        Ends s (.commandAnswer d (.done data v))
          (State.settle
            { s with
              drives := s.drives.set d
                { idle with
                  noAnswer := 0, temp := some t, hot := x.hot && decide ((s.cfg.recover : Int) < t)
                  hotGrace := if x.hot then x.hotGrace else if t < s.cfg.hot then none else if x.hotGrace.isSome then x.hotGrace
                    else some s.cfg.hotGrace }
              out := {} }))
      ∧ ∀ (n : Fin 8) (id : Nat) (k : CopyName), o.kind = .chunkWrite → o.owner = .chunkCopy n id k → x.score < 255 →
        let scored : Drive := { idle with score := x.score + 1, decay := if x.score = 0 then some 3600 else x.decay }
        let t : State := { s with
          engine := { s.engine with requests := s.engine.requests ++ [.writeOutcome (.chunk n id k) .media] }
          drives := s.drives.set d scored, out := {} }
        (x.score + 1 < s.cfg.mediaLimit ∨ x.degraded = true → Ends s (.commandAnswer d .mediaError) t.settle)
        ∧ (s.cfg.mediaLimit ≤ x.score + 1 → x.degraded = false →
          Ends s (.commandAnswer d .mediaError)
            (State.settle
              { t with
                drives := s.drives.set d
                  { scored with
                    degraded := true, snapCount := x.snapCount + 1
                    snap := some
                      { failed := false, cause := .media, time := s.stamp, temp := x.temp, score := x.score + 1, noAnswer := x.noAnswer
                        startFails := x.startFails, power := x.power } }
                attn := s.attn ||| 0x10, out := { notes := t.stage } })))
    ∧ ∀ (c : DriveCmd) (r : Bool), s.drives[d].port = .resetting .label c r → s.drives[d].noAnswer = 2 → s.drives[d].failed = false →
      s.drives[d].power = .ready → s.drives[d].ops = [] → s.drives[d].room = [] → s.loadJob = none → s.engine.ckpt = none →
      let x := s.drives[d]
      Ends s (.portResetTimeout d)
        (State.settle
          { s with
            drives := s.drives.set d
              { x with
                noAnswer := 3, causes := { x.causes with noAnswer := true }, power := .unpowered, rail := false, startTimer := none
                wakeAsked := false, standbyAsked := false, demands := [], park := none, idle := none, idleCond := false
                idleHeld := false, railGrace := none, ops := [], room := [], credit := s.cfg.credit, port := .idle, startup := none
                hotGrace := none, poll := none, snapCount := x.snapCount + 1
                snap := some
                  { failed := true, cause := .noAnswer, time := s.stamp, temp := x.temp, score := x.score, noAnswer := 3
                    startFails := x.startFails, power := .ready } }
            attn := s.attn ||| 0x10, out := { acts := [.rail d false], notes := s.stage } })

/-- SCRUB (R70, R168 to R172): the checks and the context; a FREE slot counts as walked, and for a LIVE entry that is not
recently verified with copy A alone present its read is offered; a step whose only copy was good stamps the day and ends; a
step whose one rewrite, of copy A that its plan made SUSPECT while copy B was read good, was written makes that copy GOOD again,
counts it repaired and ends. -/
def Obligations.Scrub : Prop :=
  ∀ (s : State) (x : ScrubCtx) (job : Nat), s.powered = true →
    (∀ (j : Job) (start n skip : Nat) (wakeOk remirror : Bool), s.carries 3 j → j.req = .scrub start n wakeOk remirror skip →
      (s.cat.st ≠ .ready → Ends s .scrub (s.reports j { status := .noCatalogue }))
      ∧ (s.cat.st = .ready → 2 ^ s.cat.geo.e ≤ start ∨ n = 0 → Ends s .scrub (s.reports j { status := .badParam }))
      ∧ (s.cat.st = .ready → start < 2 ^ s.cat.geo.e → 1 ≤ n → s.scrub = none → s.chains[(3 : Fin 4)].st ≠ .stopped →
        Ends s .scrub
          { s.goesTo j .scrubbing [] with
            scrub := some
              { job := some j.id, wakeOk := wakeOk, remirror := remirror, skipRecent := skip, next := start
                left := min n (2 ^ s.cat.geo.e), clamped := decide (2 ^ s.cat.geo.e < n) } }))
    ∧ (s.scrub = some x → x.job = some job → 2 ≤ x.left → s.chains[(3 : Fin 4)].st ≠ .stopped →
      let walked := { x with
        walked := x.walked + 1, left := x.left - 1, step := none
        next := if x.next + 1 < 2 ^ s.cat.geo.e then x.next + 1 else 0 }
      (x.step = none → s.cat.entry x.next = none → Ends s .scrubSlotStep { s with scrub := some walked, out := {} })
      ∧ (∀ e : Entry, x.step = none → s.cat.entry x.next = some e → e.st = .live → s.recentlyVerified x.skipRecent e = false →
        s.presentCopies e = [(.a, e.a)] →
        Ends s .scrubSlotStep
          { s with
            scrub := some
              { x with
                step := some
                  { slot := x.next, key := e.key
                    copies := { copy := .a, loc := e.a.loc }
                      :: (e.b.toList.map fun b => { copy := .b, loc := b.loc, verdict := .notRead }) } }
            nextId := s.nextId + 1
            offers := s.offers ++
              [{ drive := e.a.loc.drive
                 op := { id := s.nextId, cls := if x.wakeOk then .bulk else .background, kind := .chunkRead, first := e.a.loc.sector
                         count := sectorsOf e.key.len, owner := .scrubRead .a } }]
            out := {} })
      ∧ ∀ (p : ScrubStep) (e : Entry) (l : List CatReq), x.step = some p → s.cat.entry p.slot = some e → e.key = p.key →
        e.st = .live → s.engine.hold = none →
        (∀ today : Nat, s.engine.requests = .scrubPlan :: l → s.today = some today → e.a.st = .good → e.b = none →
          s.present e.a = true → e.wanted = 1 →
          p.copies = [{ copy := .a, loc := e.a.loc, verdict := .good }] → p.rewrites = [] → p.mirror = none →
          Ends s .scrubPlan
            { s with
              engine := { s.engine with requests := l }
              cat := s.cat.setSlot p.slot (some { e with day := today })
              scrub := some walked, out := {} })
        ∧ (∀ (w : ScrubRewrite) (b : Copy), s.engine.requests = .scrubUpdate :: l → e.a.st = .suspect → e.b = some b →
          s.present b = true →
          p.copies = [{ copy := .a, loc := e.a.loc, verdict := .bad w.reason }, { copy := .b, loc := b.loc, verdict := .good }] →
          p.rewrites = [w] → p.mirror = none → w.copy = .a → w.loc = e.a.loc → w.result = some .done → s.drives[w.loc.drive].epoch = w.epoch → s.repair.worker = .idle →
          let a := s.cat.au w.loc.drive (auOf w.loc.sector)
          let c := s.cat.setAuTested w.loc.drive (auOf w.loc.sector) { a with inFlight := a.inFlight - 1 }
          Ends s .scrubFinalUpdate
            { s with
              engine := { s.engine with requests := l }
              cat := c.setSlot p.slot (some { e with a := { loc := w.loc, st := .good } })
              repair := { s.repair with list := s.repair.list.filter fun y => !(y.slot == p.slot && y.copy == .a) }
              scrub := some { walked with repaired := x.repaired + 1 }
              out := {} }))

/-! ## Box power -/

/-- COLD_START (R12, R139, R189): it then holds its cold-start values with the lines as they are. That a part which holds power
takes it too, whatever it held (notes/assumptions/42.md), and that the queue and the counter of names go on
(notes/assumptions/5.md), is the model's choice. Wake (R188, R189): in SLEEP an enabled NETWORK or BUTTON event wakes the box
unless the battery is low, and with the source not enabled, or the battery low, it does nothing; in RUN the button sets BUTTON. In
WAKING the second host rail goes on, and then the box enters RUN on MAINS, with WAKE when it leaves SLEEP. -/
def Obligations.ColdStartAndWake : Prop :=
  (∀ (s : State) (present : BitVec 4) (mains low : Bool),
      exec (.coldStart present mains low) s
        = .next
          { drives := Vector.ofFn fun d => if present.getLsbD d.val then { present := true, power := .unpowered } else {}
            attn := if low then 0x808 else 0x800
            box := { supply := if mains then .mains else .battery, battLow := low, wakeReason := { cold := true }, rail1 := true }
            pending := s.pending, nextId := s.nextId, out := { acts := [.hostRail 0 true] } })
  ∧ (∀ s : State, s.powered = true →
      (s.box.st = .sleep →
        let wakes := fun (r : WakeReason) => { s with
          box := { s.box with
            st := .waking, wakeReason := r, rail1 := true, rail2 := false, fromSleep := true, pendingMains := false, keptPrestart := 0 }
          out := { acts := [.hostRail 0 true] } }
        (s.cfg.wakeNetwork = true → s.box.battLow = false → Ends s .networkWake (wakes { network := true }))
        ∧ (s.cfg.wakeButton = true → s.box.battLow = false → Ends s .buttonPress (wakes { button := true }))
        ∧ (s.cfg.wakeNetwork = false ∨ s.box.battLow = true → Ends s .networkWake { s with out := {} })
        ∧ (s.cfg.wakeButton = false ∨ s.box.battLow = true → Ends s .buttonPress { s with out := {} }))
      ∧ (s.box.st = .run → Ends s .buttonPress { s with attn := s.attn ||| 0x400, out := {} })
      ∧ (s.box.st = .waking → s.box.rail2 = false →
        Ends s .hostRailStep { s with box := { s.box with rail2 := true }, out := { acts := [.hostRail 1 true] } })
      ∧ (s.box.st = .waking → s.box.rail2 = true → s.box.supply = .mains → s.box.keptPrestart = 0 →
        Ends s .hostRailStep
          { s with
            box := { s.box with st := .run, hold := .stopped }
            attn := if s.box.fromSleep then s.attn ||| 0x20 else s.attn, out := {} }))

/-- Supply and the emergency condition (R183, R184, R190): a switch-over in RUN sets SUPPLY and starts or stops the hold timer,
the drives settle (notes/assumptions/12.md), and the emergency condition is looked at; BATTERY_LOW follows the line. The emergency
shutdown begins on BATTERY when the hold timer expires, when the battery becomes low, and at a switch-over to BATTERY, from drives
at rest, with the battery low or a hold time of 0: SLEEP_PREP, POWER_DOWN, the drain time, and every chain STOPPED, its take
attempt, if one was under way, ended without effect (inferred, notes/assumptions/13.md). While the emergency
condition does not hold nothing begins. -/
def Obligations.SupplyChanges : Prop :=
  ∀ s : State, s.powered = true → s.box.st = .run →
    (s.box.supply = .mains → s.box.seq = none →
      Ends s (.supplySwitchOver false)
        (State.emergencyCheck (State.settle
          { s with
            box := { s.box with
              supply := .battery, switchTime := s.stamp
              hold := if s.cfg.holdTime = 0 then .expired else .running s.cfg.holdTime }
            attn := s.attn ||| 4, out := {} })))
    ∧ (s.box.supply = .battery → s.box.seq = none →
      Ends s (.supplySwitchOver true)
        (State.emergencyCheck (State.settle
          { s with box := { s.box with supply := .mains, switchTime := s.stamp, hold := .stopped }, attn := s.attn ||| 4, out := {} })))
    ∧ (s.box.supply = .mains →
      Ends s (.batteryLowChange true) { s with box := { s.box with battLow := true }, attn := s.attn ||| 8, out := {} }
      ∧ Ends s (.batteryLowChange false)
          { s with box := { s.box with battLow := false }, attn := s.attn &&& ~~~8, out := {} })
    ∧ (∀ t : State, ¬(t.box.st = .run ∧ t.box.supply = .battery ∧ (t.box.hold = .expired ∨ t.box.battLow = true)) → t.emergencyCheck = t)
    ∧ (s.link.attach = .attached → s.jobs ≠ [] → s.scrub = none →
      let begun := fun (b : Box) (attn : BitVec 12) => { s with
        box := { b with
          st := .sleepPrep, hold := .stopped, seq := some { shutdown := true }, drain := true, consentWait := true
          consentKept := false }
        attn := attn, out := {}
        chains := s.chains.map fun (x : Chain) =>
          { x with st := .stopped, poll := none, take := .idle, again := none, faultedMeanwhile := false } }
      (∀ n : Nat, s.box.supply = .battery → s.box.hold = .running n → Ends s .holdTimerExpiry (begun s.box (s.attn ||| 0x40)))
      ∧ (s.box.supply = .battery → Ends s (.batteryLowChange true) (begun { s.box with battLow := true } (s.attn ||| 0x48)))
      ∧ (s.resting → s.box.supply = .mains → s.box.seq = none → s.box.battLow = true ∨ s.cfg.holdTime = 0 →
        Ends s (.supplySwitchOver false)
          (begun { s.box with supply := .battery, switchTime := s.stamp } (s.attn ||| 0x44))))

/-- The emergency shutdown (R190, R191): at the end of the drain time every job is abandoned and the power-down phase begins;
a shutdown that has detached waits for consent. With nothing else in progress: no operation, catalogue request, hold, checkpoint or
scrub, no job of FORMAT, LOAD, ADOPT, RESYNC or BLOCK_WRITE, and in the streams' windows only chunks still WAITING: the internal
close (R68) withdraws those, discards what is in staging, and leaves every stream CLOSED. The drives settle
(notes/assumptions/12.md). -/
def Obligations.Shutdown : Prop :=
  ∀ s : State, s.powered = true → s.box.seq = some { shutdown := true, step := if s.box.drain then .stop else .detach } →
    (s.box.drain = true → s.loadJob = none → s.formatJob = none → s.adoptJob = none → s.resyncJob = none → orphansOf s.jobs = [] →
      s.offers = [] → s.engine = {} → s.scrub = none → s.link.attach = .attached → (∀ n : Fin 8, ∀ c ∈ s.streams[n].window, c.phase = .waiting) →
      (∀ d : Fin 4, s.drives[d].ops = [] ∧ s.drives[d].room = []) →
      Ends s .drainTimerExpiry
        (State.settle
          { s with
            jobs := [], startQueue := []
            chains := s.chains.map fun (x : Chain) => { x with inFlight := 0 }
            streams := s.streams.map fun (x : Stream) => if x.st = .closed then { x with list := [] } else {}
            drives := s.drives.map fun (x : Drive) => if x.power = .ready then { x with park := none } else { x with park := none, demands := [] }
            box := { s.box with drain := false, seq := some { shutdown := true, step := .close } }, out := {} }))
    ∧ (s.box.drain = false → s.link.attach = .detached → s.box.consentKept = false →
      Ends s .shutdownPhaseStep
        (State.settle
          { s with
            box := { s.box with seq := some { shutdown := true, step := .consent }, consentTimer := true, consentWait := true }, out := {} }))

/-- SLEEP (R185, R186): refused outside RUN; in RUN the sleep sequence begins with the chains STOPPED, a take attempt under way
ended without effect (inferred, notes/assumptions/13.md); once every drive is
down after the parks the job completes, and the wait for consent is in progress; the consent timer's expiry enters SLEEP, with
both host rails and every drive's rail off, the start queue empty and every drive's port IDLE (R138, R142, R187), with nothing on
a list and neither LOAD nor a checkpoint in progress. The drives settle (notes/assumptions/12.md). -/
def Obligations.Sleep : Prop :=
  ∀ s : State, s.powered = true →
    (∀ j : Job, s.carries 0 j → j.req = .sleep →
      (s.box.st ≠ .run → Ends s .sleep (s.reports j { status := .wrongState }))
      ∧ (s.box.st = .run → s.link.attach = .attached → s.scrub = none →
        Ends s .sleep
          { s.goesTo j .sleeping [] with
            box := { s.box with
              st := .sleepPrep, hold := .stopped, seq := some { job := some j.id }, consentWait := false, consentKept := false }
            chains := s.chains.map fun (x : Chain) =>
              { x with st := .stopped, poll := none, take := .idle, again := none, faultedMeanwhile := false } }))
    ∧ (∀ (j : Job) (closed : Nat), s.holds j → s.box.seq = some { step := .park, job := some j.id, closed := closed, ckpt := .succeeded } →
      (∀ d : Fin 4, s.drives[d].power = .parked) →
      Ends s .sleepSequenceStep
        (State.settle
          { s.reports j { w0 := BitVec.ofNat 32 closed, w1 := 1, w2 := 15 } with
            box := { s.box with
              consentWait := true, seq := some { step := .complete, job := some j.id, closed := closed, ckpt := .succeeded } } }))
    ∧ (s.box.consentTimer = true → s.box.pendingMains = false → s.loadJob = none → s.engine.ckpt = none →
      (∀ d : Fin 4, s.drives[d].ops = [] ∧ s.drives[d].room = []) → Ends s .consentTimerExpiry s.asleep.settle)

/-! ## Shared operations -/

/-- What settling does (the order of its passes is the model's, notes/assumptions/12.md). Drives at rest settle into themselves.
A demand on an UNPOWERED drive makes a start request, granted at once when it fits (R141, R144, R145) and else waiting; a held
idle expiry of a READY drive with nothing on its list makes it STANDBY (R149, R150). A READY drive with a list and an IDLE port
issues the next segment (R128, R129): of an INTERACTIVE operation, the ACTIVE one or else the first WAITING, which makes another
ACTIVE operation SUSPENDED, while a WAITING one stays WAITING (inferred, notes/assumptions/21.md), and takes a credit, unless the credit is 0 with a BULK waiting; else of the SUSPENDED, else the ACTIVE,
else the first WAITING BULK, else the first WAITING BACKGROUND, which refills the credit. A stream settles into itself that is
OPEN or CLOSED with no job listed, FEEDING with no byte delivered and more to come, or CLOSING with a chunk in its window, none of
its chunks to be resolved next. -/
def Obligations.RestSettles : Prop :=
  (∀ s : State, s.resting →
    s.settle = s
    ∧ ∀ d : Fin 4,
      let x := s.drives[d]
      let set := fun y : Drive => s.drives.set d y
      (∀ b : DemandBy, x.power = .unpowered → x.failed = false → x.wakeAsked = false → s.powerDown = false →
        let asks := { s with drives := set { x with demands := [b] } }
        (s.committed + s.cfg.drive[d].spinUp ≤ s.budget →
          asks.settle =
            { s with
              drives := set
                { x with
                  demands := [b], power := .starting, fromParked := false, rail := true, railGrace := none
                  startTimer := some s.cfg.drive[d].startTimeout }
              nextId := s.nextId + 1
              out := { s.out with acts := s.out.acts ++ [.rail d true], notes := s.out.notes ++ s.stage } })
        ∧ (s.budget < s.committed + s.cfg.drive[d].spinUp →
          asks.settle = { asks with startQueue := [{ drive := d, cls := .bulk, age := s.nextId }], nextId := s.nextId + 1 }))
      ∧ (x.power = .ready →
        State.settle { s with drives := set { x with idleHeld := true } } =
          { s with
            drives := set
              { x with
                power := .stopping, port := .command .standby .standby false, standbyAsked := false, idle := none, idleCond := false
                idleHeld := false, poll := none, hotGrace := none }
            out := { s.out with acts := s.out.acts ++ [.port d .standby], notes := s.out.notes ++ s.stage } })
      ∧ ∀ l : List Op, x.power = .ready → (∀ o ∈ l, o.kind ≠ .tempPoll) →
        let works := { s with drives := set { x with ops := l } }
        let first := fun (p : Op → Bool) => l.find? p
        let urgent := first (fun o => o.cls == .interactive && o.st == .active)
          <|> first (fun o => o.cls == .interactive && o.st == .waiting)
        let other := first (fun o => o.cls != .interactive && o.st == .suspended)
          <|> first (fun o => o.cls != .interactive && o.st == .active)
          <|> first (fun o => o.cls == .bulk && o.st == .waiting) <|> first (fun o => o.cls == .background && o.st == .waiting)
        let bulkWaits := fun m : Op => m.cls = .bulk
          ∨ (m.cls = .background ∧ m.st = .suspended ∧ ∃ o ∈ l, o.cls = .bulk ∧ o.st = .waiting)
        let issues := fun (o : Op) (credit : Nat) => { s with
          drives := set
            { x with
              idle := none, idleCond := false, port := .command (.segment o.id) o.command false, credit := credit
              ops := l.map fun p =>
                if p.id = o.id then { p with st := .active }
                else if o.cls = .interactive ∧ p.cls ≠ .interactive ∧ p.st = .active then { p with st := .suspended }
                else p }
          out := { s.out with acts := s.out.acts ++ [.port d o.command] } }
        (∀ o : Op, urgent = some o → (∀ m : Op, other = some m → ¬(x.credit = 0 ∧ bulkWaits m)) → works.settle = issues o (x.credit - 1))
        ∧ ∀ m : Op, other = some m → urgent = none ∨ (x.credit = 0 ∧ bulkWaits m) → works.settle = issues m s.cfg.credit)
  ∧ (∀ (s : State) (n : Fin 8),
    let x := s.streams[n]
    x.held = false → (∀ c ∈ x.window, c.phase ≠ .waiting) ∨ (∃ c ∈ x.window, c.phase.resolvingNow = true) →
    (x.st = .opened ∨ x.st = .closed → x.list = [] → s.settleStream n = s)
    ∧ (x.st = .closing → x.window ≠ [] → s.settleStream n = s)
    ∧ ∀ (id : Nat) (w : StreamWork), x.st = .feeding → x.internal = false → x.list.head? = some id → s.work id = some w →
      (∀ j ∈ s.jobs, j.id = id → j.phase = .stream w) → w.buf = [] → w.left ≠ 0 → w.stopped = false → s.settleStream n = s)
  ∧ ∀ s : State, (∀ n : Fin 8, s.settleStream n = s) → s.settleStreams = s

/-- The committed draw and the budget in force (R143). A grant is made only within that budget (R144): the head of the start queue
leaves it and its drive is STARTING when the committed draw is within the budget and stays so with the drive at its spin-up draw,
and a head that does not fit waits with all behind it; so grants leave a committed draw within the budget within it, and make none
while it is above. The rail of an UNPOWERED drive goes on with its start timer running (R145), and a PARKED one is sent WAKE. -/
def Obligations.GrantsWithinBudget : Prop :=
  ∀ (s : State) (k : Nat),
    let draw := fun d : Fin 4 =>
      match s.drives[d].power with
      | .unpowered | .absent => 0
      | .parked => s.cfg.drive[d].park
      | .starting => s.cfg.drive[d].spinUp
      | .ready | .stopping => s.cfg.drive[d].run
    s.committed = draw 0 + draw 1 + draw 2 + draw 3
    ∧ s.budget = (match s.box.supply with
        | .mains => s.cfg.mainsBudget
        | .battery => s.cfg.batteryBudget)
    ∧ (s.committed ≤ s.budget → (s.grantLoop k).committed ≤ (s.grantLoop k).budget)
    ∧ (s.budget < s.committed → s.grantLoop k = s)
    ∧ (s.startQueue = [] → s.grantLoop k = s)
    ∧ ∀ (r : StartReq) (l : List StartReq), s.startQueue = r :: l →
      let d := r.drive
      let x := s.drives[d]
      let noted := { s with
        startQueue := s.startQueue.filter fun q => q.drive != d, out := { s.out with notes := s.out.notes ++ s.stage } }
      let started : State :=
        if x.power = .parked then
          { noted with drives := s.drives.set d { x with power := .starting, fromParked := true, wakeAsked := true } }
        else
          { noted with
            drives := s.drives.set d
              { x with
                power := .starting, fromParked := false, rail := true, startTimer := some s.cfg.drive[d].startTimeout
                railGrace := none }
            out := { noted.out with acts := s.out.acts ++ [.rail d true] } }
      let fits := s.committed ≤ s.budget ∧ s.committed - draw d + s.cfg.drive[d].spinUp ≤ s.budget
      (fits → s.grantLoop (k + 1) = started.grantLoop k) ∧ (¬fits → s.grantLoop (k + 1) = s)

/-- The probe window (R72): four buckets of eight slots from the home bucket on, each modulo N/8, where the home bucket is the
low e - 3 bits of the fingerprint. A lookup finds an entry under the key anywhere in it, also beyond a FREE slot; else the
first FREE slot in window order is the room for one (R73). An entry put there lies in its key's window, and no other entry has
its key. -/
def Obligations.LookupFinds : Prop :=
  ∀ (c : Cat) (k : Key),
    let home := k.fp.toNat % 2 ^ (c.geo.e - 3)
    (3 ≤ c.geo.e → c.geo.window k.fp = (List.range 32).map fun i => ((home + i / 8) % 2 ^ (c.geo.e - 3)) * 8 + i % 8)
    ∧ (∀ slot e, c.lookup k = .found slot e → slot ∈ c.geo.window k.fp ∧ c.entry slot = some e ∧ e.key = k)
    ∧ (∀ slot e, slot ∈ c.geo.window k.fp → c.entry slot = some e → e.key = k → ∃ slot' e', c.lookup k = .found slot' e')
    ∧ (∀ slot, c.lookup k = .room slot → (c.geo.window k.fp).find? (fun i => (c.entry i).isNone) = some slot)
    ∧ (c.lookup k = .full → ∀ slot ∈ c.geo.window k.fp, ∃ e, c.entry slot = some e ∧ e.key ≠ k)
    ∧ ∀ (slot : Nat) (e : Entry), tabSorted c.index = true → c.placed → c.keysApart → c.lookup k = .room slot → e.key = k →
        (c.setSlot slot (some e)).placed ∧ (c.setSlot slot (some e)).keysApart

/-- What the part writes it reads back (R90, R118, R195, R196): a reference, a drive label, and a catalogue header whose
fields are in their ranges. -/
def Obligations.RecordsReadBack : Prop :=
  (∀ r : Ref, r.key.len < 2 ^ 32 → r.driveA < 256 → r.driveB < 256 → r.sectorA < 2 ^ 64 → r.sectorB < 2 ^ 64 →
    (r.unindexed = false → r.driveA = 0 ∧ r.sectorA = 0) → (r.unindexed = false ∨ r.oneCopy = true → r.driveB = 0 ∧ r.sectorB = 0) →
    readRef r.bytes = r)
  ∧ (∀ (box : BitVec 64) (slot au : Nat) (time : BitVec 32), slot < 256 → au < 2 ^ 32 →
    readLabel (labelSector box slot au time) = some { boxId := box, slot := slot, auCount := au })
  ∧ ∀ h : Header, 16 ≤ h.e → h.e ≤ 24 → 1 ≤ h.h → h.h ≤ 1024 → (∀ d : Fin 4, 2 ≤ h.au[d] ∧ h.au[d] < 2 ^ 32) →
    h.c = slotAus h.e h.au → h.c < 2 ^ 32 → checkHeader h.sector = some h

/-- The index and the AU tables stay in their one canonical form, numbers rising and nothing listed that an unlisted AU has,
whatever slot or AU record is set (the form is the model's, notes/assumptions/11.md). -/
def Obligations.TablesCanonical : Prop :=
  ∀ c : Cat, c.canonical →
    (∀ (slot : Nat) (e : Option Entry), (c.setSlot slot e).canonical ∧ (c.setSlot slot e).entry slot = e
      ∧ ∀ i, i ≠ slot → (c.setSlot slot e).entry i = c.entry i)
    ∧ ∀ (d : Fin 4) (a : Nat) (r : AuRec), (c.setAu d a r).canonical ∧ (c.setAu d a r).au d a = r
      ∧ ∀ (f : Fin 4) (b : Nat), f ≠ d ∨ b ≠ a → (c.setAu d a r).au f b = c.au f b
end

