-- ==== Sys2Proof/Laws/Bytes.lean ====
section
/-! SUPPORT. Bytes and fields: what is written least significant byte first is read back, and where the fields of joined byte
strings lie. -/

namespace Sys2Proof.Machine

@[simp] theorem leBytes_length (n v : Nat) : (leBytes n v).length = n := by
  induction n generalizing v with
  | zero => rfl
  | succ n ih => simp [leBytes, ih]

/-- The bytes of a number that fits spell it (R195). -/
theorem ofLe_leBytes (n v : Nat) (h : v < 256 ^ n) : ofLe (leBytes n v) = v := by
  induction n generalizing v with
  | zero => simp at h; simp [leBytes, ofLe, h]
  | succ n ih =>
    have h2 : v / 256 < 256 ^ n := Nat.div_lt_of_lt_mul (by rw [Nat.pow_succ, Nat.mul_comm] at h; exact h)
    simp only [leBytes, ofLe, ih _ h2, BitVec.toNat_ofNat]
    have := Nat.mod_add_div v 256
    omega

@[simp] theorem zeros_length (n : Nat) : (zeros n).length = n := by simp [zeros]

@[simp] theorem padTo_length (n : Nat) (l : List Byte) : (padTo n l).length = n := by
  simp only [padTo, List.length_append, List.length_take, zeros_length]
  omega

/-- Filling up leaves a string that is shorter as it is, before the zeros. -/
theorem padTo_of_le {n : Nat} {l : List Byte} (h : l.length ≤ n) : padTo n l = l ++ zeros (n - l.length) := by
  rw [padTo, List.take_of_length_le h]

/-- A field that begins after a prefix is a field of the rest. -/
theorem field_append_right (a b : List Byte) (o n : Nat) (h : a.length ≤ o) : field (a ++ b) o n = field b (o - a.length) n := by
  simp only [field, List.drop_append, List.drop_eq_nil_of_le h, List.nil_append]

/-- A field that lies within a prefix is a field of the prefix. -/
theorem field_append_left (a b : List Byte) (o n : Nat) (h : o + n ≤ a.length) : field (a ++ b) o n = field a o n := by
  simp only [field, List.drop_append]
  rw [List.take_append_of_le_length (by simp; omega)]

/-- A number's own bytes at the start of a string. -/
theorem field_leBytes (n v : Nat) (b : List Byte) (h : v < 256 ^ n) : field (leBytes n v ++ b) 0 n = v := by
  rw [field_append_left _ _ _ _ (by simp)]
  simp [field, ofLe_leBytes n v h, List.take_of_length_le]

end Sys2Proof.Machine
end

