-- ==== Sys2Proof/Laws/State.lean ====
section
/-! SUPPORT. One lemma for each field of the state and each small update: the fields that an update leaves alone, and what
it does to its own. -/

namespace Sys2Proof.Machine

/-! ## `mute` -/

@[simp] theorem State.mute_pending (s : State) : s.mute.pending = s.pending := rfl
@[simp] theorem State.mute_powered (s : State) : s.mute.powered = s.powered := rfl
@[simp] theorem State.mute_nextId (s : State) : s.mute.nextId = s.nextId := rfl
@[simp] theorem State.mute_link (s : State) : s.mute.link = s.link := rfl
@[simp] theorem State.mute_chains (s : State) : s.mute.chains = s.chains := rfl
@[simp] theorem State.mute_attn (s : State) : s.mute.attn = s.attn := rfl
@[simp] theorem State.mute_attnEn (s : State) : s.mute.attnEn = s.attnEn := rfl
@[simp] theorem State.mute_jobs (s : State) : s.mute.jobs = s.jobs := rfl
@[simp] theorem State.mute_cfg (s : State) : s.mute.cfg = s.cfg := rfl
@[simp] theorem State.mute_clock (s : State) : s.mute.clock = s.clock := rfl
@[simp] theorem State.mute_streams (s : State) : s.mute.streams = s.streams := rfl
@[simp] theorem State.mute_cat (s : State) : s.mute.cat = s.cat := rfl
@[simp] theorem State.mute_engine (s : State) : s.mute.engine = s.engine := rfl
@[simp] theorem State.mute_offers (s : State) : s.mute.offers = s.offers := rfl
@[simp] theorem State.mute_drives (s : State) : s.mute.drives = s.drives := rfl
@[simp] theorem State.mute_startQueue (s : State) : s.mute.startQueue = s.startQueue := rfl
@[simp] theorem State.mute_repair (s : State) : s.mute.repair = s.repair := rfl
@[simp] theorem State.mute_scrub (s : State) : s.mute.scrub = s.scrub := rfl
@[simp] theorem State.mute_box (s : State) : s.mute.box = s.box := rfl
@[simp] theorem State.mute_out (s : State) : s.mute.out = {} := rfl

/-! ## `emit` -/

@[simp] theorem State.emit_pending (s : State) (o : Out) : (s.emit o).pending = s.pending := rfl
@[simp] theorem State.emit_powered (s : State) (o : Out) : (s.emit o).powered = s.powered := rfl
@[simp] theorem State.emit_nextId (s : State) (o : Out) : (s.emit o).nextId = s.nextId := rfl
@[simp] theorem State.emit_link (s : State) (o : Out) : (s.emit o).link = s.link := rfl
@[simp] theorem State.emit_chains (s : State) (o : Out) : (s.emit o).chains = s.chains := rfl
@[simp] theorem State.emit_attn (s : State) (o : Out) : (s.emit o).attn = s.attn := rfl
@[simp] theorem State.emit_attnEn (s : State) (o : Out) : (s.emit o).attnEn = s.attnEn := rfl
@[simp] theorem State.emit_jobs (s : State) (o : Out) : (s.emit o).jobs = s.jobs := rfl
@[simp] theorem State.emit_cfg (s : State) (o : Out) : (s.emit o).cfg = s.cfg := rfl
@[simp] theorem State.emit_clock (s : State) (o : Out) : (s.emit o).clock = s.clock := rfl
@[simp] theorem State.emit_streams (s : State) (o : Out) : (s.emit o).streams = s.streams := rfl
@[simp] theorem State.emit_cat (s : State) (o : Out) : (s.emit o).cat = s.cat := rfl
@[simp] theorem State.emit_engine (s : State) (o : Out) : (s.emit o).engine = s.engine := rfl
@[simp] theorem State.emit_offers (s : State) (o : Out) : (s.emit o).offers = s.offers := rfl
@[simp] theorem State.emit_drives (s : State) (o : Out) : (s.emit o).drives = s.drives := rfl
@[simp] theorem State.emit_startQueue (s : State) (o : Out) : (s.emit o).startQueue = s.startQueue := rfl
@[simp] theorem State.emit_repair (s : State) (o : Out) : (s.emit o).repair = s.repair := rfl
@[simp] theorem State.emit_scrub (s : State) (o : Out) : (s.emit o).scrub = s.scrub := rfl
@[simp] theorem State.emit_box (s : State) (o : Out) : (s.emit o).box = s.box := rfl

/-! ## `emits` -/

@[simp] theorem State.emits_pending (s : State) (l : List Out) : (s.emits l).pending = s.pending := rfl
@[simp] theorem State.emits_powered (s : State) (l : List Out) : (s.emits l).powered = s.powered := rfl
@[simp] theorem State.emits_nextId (s : State) (l : List Out) : (s.emits l).nextId = s.nextId := rfl
@[simp] theorem State.emits_link (s : State) (l : List Out) : (s.emits l).link = s.link := rfl
@[simp] theorem State.emits_chains (s : State) (l : List Out) : (s.emits l).chains = s.chains := rfl
@[simp] theorem State.emits_attn (s : State) (l : List Out) : (s.emits l).attn = s.attn := rfl
@[simp] theorem State.emits_attnEn (s : State) (l : List Out) : (s.emits l).attnEn = s.attnEn := rfl
@[simp] theorem State.emits_jobs (s : State) (l : List Out) : (s.emits l).jobs = s.jobs := rfl
@[simp] theorem State.emits_cfg (s : State) (l : List Out) : (s.emits l).cfg = s.cfg := rfl
@[simp] theorem State.emits_clock (s : State) (l : List Out) : (s.emits l).clock = s.clock := rfl
@[simp] theorem State.emits_streams (s : State) (l : List Out) : (s.emits l).streams = s.streams := rfl
@[simp] theorem State.emits_cat (s : State) (l : List Out) : (s.emits l).cat = s.cat := rfl
@[simp] theorem State.emits_engine (s : State) (l : List Out) : (s.emits l).engine = s.engine := rfl
@[simp] theorem State.emits_offers (s : State) (l : List Out) : (s.emits l).offers = s.offers := rfl
@[simp] theorem State.emits_drives (s : State) (l : List Out) : (s.emits l).drives = s.drives := rfl
@[simp] theorem State.emits_startQueue (s : State) (l : List Out) : (s.emits l).startQueue = s.startQueue := rfl
@[simp] theorem State.emits_repair (s : State) (l : List Out) : (s.emits l).repair = s.repair := rfl
@[simp] theorem State.emits_scrub (s : State) (l : List Out) : (s.emits l).scrub = s.scrub := rfl
@[simp] theorem State.emits_box (s : State) (l : List Out) : (s.emits l).box = s.box := rfl

/-! ## `setCause` -/

@[simp] theorem State.setCause_pending (s : State) (c : Cause) : (s.setCause c).pending = s.pending := rfl
@[simp] theorem State.setCause_out (s : State) (c : Cause) : (s.setCause c).out = s.out := rfl
@[simp] theorem State.setCause_powered (s : State) (c : Cause) : (s.setCause c).powered = s.powered := rfl
@[simp] theorem State.setCause_nextId (s : State) (c : Cause) : (s.setCause c).nextId = s.nextId := rfl
@[simp] theorem State.setCause_link (s : State) (c : Cause) : (s.setCause c).link = s.link := rfl
@[simp] theorem State.setCause_chains (s : State) (c : Cause) : (s.setCause c).chains = s.chains := rfl
@[simp] theorem State.note_out (s : State) : s.note.out = { s.out with notes := s.out.notes ++ s.stage } := rfl
@[simp] theorem State.setCause_attnEn (s : State) (c : Cause) : (s.setCause c).attnEn = s.attnEn := rfl
@[simp] theorem State.setCause_jobs (s : State) (c : Cause) : (s.setCause c).jobs = s.jobs := rfl
@[simp] theorem State.setCause_cfg (s : State) (c : Cause) : (s.setCause c).cfg = s.cfg := rfl
@[simp] theorem State.setCause_clock (s : State) (c : Cause) : (s.setCause c).clock = s.clock := rfl
@[simp] theorem State.setCause_streams (s : State) (c : Cause) : (s.setCause c).streams = s.streams := rfl
@[simp] theorem State.setCause_cat (s : State) (c : Cause) : (s.setCause c).cat = s.cat := rfl
@[simp] theorem State.setCause_engine (s : State) (c : Cause) : (s.setCause c).engine = s.engine := rfl
@[simp] theorem State.setCause_offers (s : State) (c : Cause) : (s.setCause c).offers = s.offers := rfl
@[simp] theorem State.setCause_drives (s : State) (c : Cause) : (s.setCause c).drives = s.drives := rfl
@[simp] theorem State.setCause_startQueue (s : State) (c : Cause) : (s.setCause c).startQueue = s.startQueue := rfl
@[simp] theorem State.setCause_repair (s : State) (c : Cause) : (s.setCause c).repair = s.repair := rfl
@[simp] theorem State.setCause_scrub (s : State) (c : Cause) : (s.setCause c).scrub = s.scrub := rfl
@[simp] theorem State.setCause_box (s : State) (c : Cause) : (s.setCause c).box = s.box := rfl

/-! ## `clearCause` -/

@[simp] theorem State.clearCause_pending (s : State) (c : Cause) : (s.clearCause c).pending = s.pending := rfl
@[simp] theorem State.clearCause_out (s : State) (c : Cause) : (s.clearCause c).out = s.out := rfl
@[simp] theorem State.clearCause_powered (s : State) (c : Cause) : (s.clearCause c).powered = s.powered := rfl
@[simp] theorem State.clearCause_nextId (s : State) (c : Cause) : (s.clearCause c).nextId = s.nextId := rfl
@[simp] theorem State.clearCause_link (s : State) (c : Cause) : (s.clearCause c).link = s.link := rfl
@[simp] theorem State.clearCause_chains (s : State) (c : Cause) : (s.clearCause c).chains = s.chains := rfl
@[simp] theorem State.clearCause_attnEn (s : State) (c : Cause) : (s.clearCause c).attnEn = s.attnEn := rfl
@[simp] theorem State.clearCause_jobs (s : State) (c : Cause) : (s.clearCause c).jobs = s.jobs := rfl
@[simp] theorem State.clearCause_cfg (s : State) (c : Cause) : (s.clearCause c).cfg = s.cfg := rfl
@[simp] theorem State.clearCause_clock (s : State) (c : Cause) : (s.clearCause c).clock = s.clock := rfl
@[simp] theorem State.clearCause_streams (s : State) (c : Cause) : (s.clearCause c).streams = s.streams := rfl
@[simp] theorem State.clearCause_cat (s : State) (c : Cause) : (s.clearCause c).cat = s.cat := rfl
@[simp] theorem State.clearCause_engine (s : State) (c : Cause) : (s.clearCause c).engine = s.engine := rfl
@[simp] theorem State.clearCause_offers (s : State) (c : Cause) : (s.clearCause c).offers = s.offers := rfl
@[simp] theorem State.clearCause_drives (s : State) (c : Cause) : (s.clearCause c).drives = s.drives := rfl
@[simp] theorem State.clearCause_startQueue (s : State) (c : Cause) : (s.clearCause c).startQueue = s.startQueue := rfl
@[simp] theorem State.clearCause_repair (s : State) (c : Cause) : (s.clearCause c).repair = s.repair := rfl
@[simp] theorem State.clearCause_scrub (s : State) (c : Cause) : (s.clearCause c).scrub = s.scrub := rfl
@[simp] theorem State.clearCause_box (s : State) (c : Cause) : (s.clearCause c).box = s.box := rfl

/-! ## `modDrive` -/

@[simp] theorem State.modDrive_pending (s : State) (d : Fin 4) (f : Drive → Drive) : (s.modDrive d f).pending = s.pending := rfl
@[simp] theorem State.modDrive_out (s : State) (d : Fin 4) (f : Drive → Drive) : (s.modDrive d f).out = s.out := rfl
@[simp] theorem State.modDrive_powered (s : State) (d : Fin 4) (f : Drive → Drive) : (s.modDrive d f).powered = s.powered := rfl
@[simp] theorem State.modDrive_nextId (s : State) (d : Fin 4) (f : Drive → Drive) : (s.modDrive d f).nextId = s.nextId := rfl
@[simp] theorem State.modDrive_link (s : State) (d : Fin 4) (f : Drive → Drive) : (s.modDrive d f).link = s.link := rfl
@[simp] theorem State.modDrive_chains (s : State) (d : Fin 4) (f : Drive → Drive) : (s.modDrive d f).chains = s.chains := rfl
@[simp] theorem State.modDrive_attn (s : State) (d : Fin 4) (f : Drive → Drive) : (s.modDrive d f).attn = s.attn := rfl
@[simp] theorem State.modDrive_attnEn (s : State) (d : Fin 4) (f : Drive → Drive) : (s.modDrive d f).attnEn = s.attnEn := rfl
@[simp] theorem State.modDrive_jobs (s : State) (d : Fin 4) (f : Drive → Drive) : (s.modDrive d f).jobs = s.jobs := rfl
@[simp] theorem State.modDrive_cfg (s : State) (d : Fin 4) (f : Drive → Drive) : (s.modDrive d f).cfg = s.cfg := rfl
@[simp] theorem State.modDrive_clock (s : State) (d : Fin 4) (f : Drive → Drive) : (s.modDrive d f).clock = s.clock := rfl
@[simp] theorem State.modDrive_streams (s : State) (d : Fin 4) (f : Drive → Drive) : (s.modDrive d f).streams = s.streams := rfl
@[simp] theorem State.modDrive_cat (s : State) (d : Fin 4) (f : Drive → Drive) : (s.modDrive d f).cat = s.cat := rfl
@[simp] theorem State.modDrive_engine (s : State) (d : Fin 4) (f : Drive → Drive) : (s.modDrive d f).engine = s.engine := rfl
@[simp] theorem State.modDrive_offers (s : State) (d : Fin 4) (f : Drive → Drive) : (s.modDrive d f).offers = s.offers := rfl
@[simp] theorem State.modDrive_startQueue (s : State) (d : Fin 4) (f : Drive → Drive) : (s.modDrive d f).startQueue = s.startQueue := rfl
@[simp] theorem State.modDrive_repair (s : State) (d : Fin 4) (f : Drive → Drive) : (s.modDrive d f).repair = s.repair := rfl
@[simp] theorem State.modDrive_scrub (s : State) (d : Fin 4) (f : Drive → Drive) : (s.modDrive d f).scrub = s.scrub := rfl
@[simp] theorem State.modDrive_box (s : State) (d : Fin 4) (f : Drive → Drive) : (s.modDrive d f).box = s.box := rfl

/-! ## `modStream` -/

@[simp] theorem State.modStream_pending (s : State) (n : Fin 8) (f : Stream → Stream) : (s.modStream n f).pending = s.pending := rfl
@[simp] theorem State.modStream_out (s : State) (n : Fin 8) (f : Stream → Stream) : (s.modStream n f).out = s.out := rfl
@[simp] theorem State.modStream_powered (s : State) (n : Fin 8) (f : Stream → Stream) : (s.modStream n f).powered = s.powered := rfl
@[simp] theorem State.modStream_nextId (s : State) (n : Fin 8) (f : Stream → Stream) : (s.modStream n f).nextId = s.nextId := rfl
@[simp] theorem State.modStream_link (s : State) (n : Fin 8) (f : Stream → Stream) : (s.modStream n f).link = s.link := rfl
@[simp] theorem State.modStream_chains (s : State) (n : Fin 8) (f : Stream → Stream) : (s.modStream n f).chains = s.chains := rfl
@[simp] theorem State.modStream_attn (s : State) (n : Fin 8) (f : Stream → Stream) : (s.modStream n f).attn = s.attn := rfl
@[simp] theorem State.modStream_attnEn (s : State) (n : Fin 8) (f : Stream → Stream) : (s.modStream n f).attnEn = s.attnEn := rfl
@[simp] theorem State.modStream_jobs (s : State) (n : Fin 8) (f : Stream → Stream) : (s.modStream n f).jobs = s.jobs := rfl
@[simp] theorem State.modStream_cfg (s : State) (n : Fin 8) (f : Stream → Stream) : (s.modStream n f).cfg = s.cfg := rfl
@[simp] theorem State.modStream_clock (s : State) (n : Fin 8) (f : Stream → Stream) : (s.modStream n f).clock = s.clock := rfl
@[simp] theorem State.modStream_cat (s : State) (n : Fin 8) (f : Stream → Stream) : (s.modStream n f).cat = s.cat := rfl
@[simp] theorem State.modStream_engine (s : State) (n : Fin 8) (f : Stream → Stream) : (s.modStream n f).engine = s.engine := rfl
@[simp] theorem State.modStream_offers (s : State) (n : Fin 8) (f : Stream → Stream) : (s.modStream n f).offers = s.offers := rfl
@[simp] theorem State.modStream_drives (s : State) (n : Fin 8) (f : Stream → Stream) : (s.modStream n f).drives = s.drives := rfl
@[simp] theorem State.modStream_startQueue (s : State) (n : Fin 8) (f : Stream → Stream) : (s.modStream n f).startQueue = s.startQueue := rfl
@[simp] theorem State.modStream_repair (s : State) (n : Fin 8) (f : Stream → Stream) : (s.modStream n f).repair = s.repair := rfl
@[simp] theorem State.modStream_scrub (s : State) (n : Fin 8) (f : Stream → Stream) : (s.modStream n f).scrub = s.scrub := rfl
@[simp] theorem State.modStream_box (s : State) (n : Fin 8) (f : Stream → Stream) : (s.modStream n f).box = s.box := rfl

/-! ## `modChain` -/

@[simp] theorem State.modChain_pending (s : State) (c : Fin 4) (f : Chain → Chain) : (s.modChain c f).pending = s.pending := rfl
@[simp] theorem State.modChain_out (s : State) (c : Fin 4) (f : Chain → Chain) : (s.modChain c f).out = s.out := rfl
@[simp] theorem State.modChain_powered (s : State) (c : Fin 4) (f : Chain → Chain) : (s.modChain c f).powered = s.powered := rfl
@[simp] theorem State.modChain_nextId (s : State) (c : Fin 4) (f : Chain → Chain) : (s.modChain c f).nextId = s.nextId := rfl
@[simp] theorem State.modChain_link (s : State) (c : Fin 4) (f : Chain → Chain) : (s.modChain c f).link = s.link := rfl
@[simp] theorem State.modChain_attn (s : State) (c : Fin 4) (f : Chain → Chain) : (s.modChain c f).attn = s.attn := rfl
@[simp] theorem State.modChain_attnEn (s : State) (c : Fin 4) (f : Chain → Chain) : (s.modChain c f).attnEn = s.attnEn := rfl
@[simp] theorem State.modChain_jobs (s : State) (c : Fin 4) (f : Chain → Chain) : (s.modChain c f).jobs = s.jobs := rfl
@[simp] theorem State.modChain_cfg (s : State) (c : Fin 4) (f : Chain → Chain) : (s.modChain c f).cfg = s.cfg := rfl
@[simp] theorem State.modChain_clock (s : State) (c : Fin 4) (f : Chain → Chain) : (s.modChain c f).clock = s.clock := rfl
@[simp] theorem State.modChain_streams (s : State) (c : Fin 4) (f : Chain → Chain) : (s.modChain c f).streams = s.streams := rfl
@[simp] theorem State.modChain_cat (s : State) (c : Fin 4) (f : Chain → Chain) : (s.modChain c f).cat = s.cat := rfl
@[simp] theorem State.modChain_engine (s : State) (c : Fin 4) (f : Chain → Chain) : (s.modChain c f).engine = s.engine := rfl
@[simp] theorem State.modChain_offers (s : State) (c : Fin 4) (f : Chain → Chain) : (s.modChain c f).offers = s.offers := rfl
@[simp] theorem State.modChain_drives (s : State) (c : Fin 4) (f : Chain → Chain) : (s.modChain c f).drives = s.drives := rfl
@[simp] theorem State.modChain_startQueue (s : State) (c : Fin 4) (f : Chain → Chain) : (s.modChain c f).startQueue = s.startQueue := rfl
@[simp] theorem State.modChain_repair (s : State) (c : Fin 4) (f : Chain → Chain) : (s.modChain c f).repair = s.repair := rfl
@[simp] theorem State.modChain_scrub (s : State) (c : Fin 4) (f : Chain → Chain) : (s.modChain c f).scrub = s.scrub := rfl
@[simp] theorem State.modChain_box (s : State) (c : Fin 4) (f : Chain → Chain) : (s.modChain c f).box = s.box := rfl

/-! ## `modCat` -/

@[simp] theorem State.modCat_pending (s : State) (f : Cat → Cat) : (s.modCat f).pending = s.pending := rfl
@[simp] theorem State.modCat_out (s : State) (f : Cat → Cat) : (s.modCat f).out = s.out := rfl
@[simp] theorem State.modCat_powered (s : State) (f : Cat → Cat) : (s.modCat f).powered = s.powered := rfl
@[simp] theorem State.modCat_nextId (s : State) (f : Cat → Cat) : (s.modCat f).nextId = s.nextId := rfl
@[simp] theorem State.modCat_link (s : State) (f : Cat → Cat) : (s.modCat f).link = s.link := rfl
@[simp] theorem State.modCat_chains (s : State) (f : Cat → Cat) : (s.modCat f).chains = s.chains := rfl
@[simp] theorem State.modCat_attn (s : State) (f : Cat → Cat) : (s.modCat f).attn = s.attn := rfl
@[simp] theorem State.modCat_attnEn (s : State) (f : Cat → Cat) : (s.modCat f).attnEn = s.attnEn := rfl
@[simp] theorem State.modCat_jobs (s : State) (f : Cat → Cat) : (s.modCat f).jobs = s.jobs := rfl
@[simp] theorem State.modCat_cfg (s : State) (f : Cat → Cat) : (s.modCat f).cfg = s.cfg := rfl
@[simp] theorem State.modCat_clock (s : State) (f : Cat → Cat) : (s.modCat f).clock = s.clock := rfl
@[simp] theorem State.modCat_streams (s : State) (f : Cat → Cat) : (s.modCat f).streams = s.streams := rfl
@[simp] theorem State.modCat_engine (s : State) (f : Cat → Cat) : (s.modCat f).engine = s.engine := rfl
@[simp] theorem State.modCat_offers (s : State) (f : Cat → Cat) : (s.modCat f).offers = s.offers := rfl
@[simp] theorem State.modCat_drives (s : State) (f : Cat → Cat) : (s.modCat f).drives = s.drives := rfl
@[simp] theorem State.modCat_startQueue (s : State) (f : Cat → Cat) : (s.modCat f).startQueue = s.startQueue := rfl
@[simp] theorem State.modCat_repair (s : State) (f : Cat → Cat) : (s.modCat f).repair = s.repair := rfl
@[simp] theorem State.modCat_scrub (s : State) (f : Cat → Cat) : (s.modCat f).scrub = s.scrub := rfl
@[simp] theorem State.modCat_box (s : State) (f : Cat → Cat) : (s.modCat f).box = s.box := rfl

/-! ## `modEngine` -/

@[simp] theorem State.modEngine_pending (s : State) (f : Engine → Engine) : (s.modEngine f).pending = s.pending := rfl
@[simp] theorem State.modEngine_out (s : State) (f : Engine → Engine) : (s.modEngine f).out = s.out := rfl
@[simp] theorem State.modEngine_powered (s : State) (f : Engine → Engine) : (s.modEngine f).powered = s.powered := rfl
@[simp] theorem State.modEngine_nextId (s : State) (f : Engine → Engine) : (s.modEngine f).nextId = s.nextId := rfl
@[simp] theorem State.modEngine_link (s : State) (f : Engine → Engine) : (s.modEngine f).link = s.link := rfl
@[simp] theorem State.modEngine_chains (s : State) (f : Engine → Engine) : (s.modEngine f).chains = s.chains := rfl
@[simp] theorem State.modEngine_attn (s : State) (f : Engine → Engine) : (s.modEngine f).attn = s.attn := rfl
@[simp] theorem State.modEngine_attnEn (s : State) (f : Engine → Engine) : (s.modEngine f).attnEn = s.attnEn := rfl
@[simp] theorem State.modEngine_jobs (s : State) (f : Engine → Engine) : (s.modEngine f).jobs = s.jobs := rfl
@[simp] theorem State.modEngine_cfg (s : State) (f : Engine → Engine) : (s.modEngine f).cfg = s.cfg := rfl
@[simp] theorem State.modEngine_clock (s : State) (f : Engine → Engine) : (s.modEngine f).clock = s.clock := rfl
@[simp] theorem State.modEngine_streams (s : State) (f : Engine → Engine) : (s.modEngine f).streams = s.streams := rfl
@[simp] theorem State.modEngine_cat (s : State) (f : Engine → Engine) : (s.modEngine f).cat = s.cat := rfl
@[simp] theorem State.modEngine_offers (s : State) (f : Engine → Engine) : (s.modEngine f).offers = s.offers := rfl
@[simp] theorem State.modEngine_drives (s : State) (f : Engine → Engine) : (s.modEngine f).drives = s.drives := rfl
@[simp] theorem State.modEngine_startQueue (s : State) (f : Engine → Engine) : (s.modEngine f).startQueue = s.startQueue := rfl
@[simp] theorem State.modEngine_repair (s : State) (f : Engine → Engine) : (s.modEngine f).repair = s.repair := rfl
@[simp] theorem State.modEngine_scrub (s : State) (f : Engine → Engine) : (s.modEngine f).scrub = s.scrub := rfl
@[simp] theorem State.modEngine_box (s : State) (f : Engine → Engine) : (s.modEngine f).box = s.box := rfl

/-! ## `modBox` -/

@[simp] theorem State.modBox_pending (s : State) (f : Box → Box) : (s.modBox f).pending = s.pending := rfl
@[simp] theorem State.modBox_out (s : State) (f : Box → Box) : (s.modBox f).out = s.out := rfl
@[simp] theorem State.modBox_powered (s : State) (f : Box → Box) : (s.modBox f).powered = s.powered := rfl
@[simp] theorem State.modBox_nextId (s : State) (f : Box → Box) : (s.modBox f).nextId = s.nextId := rfl
@[simp] theorem State.modBox_link (s : State) (f : Box → Box) : (s.modBox f).link = s.link := rfl
@[simp] theorem State.modBox_chains (s : State) (f : Box → Box) : (s.modBox f).chains = s.chains := rfl
@[simp] theorem State.modBox_attn (s : State) (f : Box → Box) : (s.modBox f).attn = s.attn := rfl
@[simp] theorem State.modBox_attnEn (s : State) (f : Box → Box) : (s.modBox f).attnEn = s.attnEn := rfl
@[simp] theorem State.modBox_jobs (s : State) (f : Box → Box) : (s.modBox f).jobs = s.jobs := rfl
@[simp] theorem State.modBox_cfg (s : State) (f : Box → Box) : (s.modBox f).cfg = s.cfg := rfl
@[simp] theorem State.modBox_clock (s : State) (f : Box → Box) : (s.modBox f).clock = s.clock := rfl
@[simp] theorem State.modBox_streams (s : State) (f : Box → Box) : (s.modBox f).streams = s.streams := rfl
@[simp] theorem State.modBox_cat (s : State) (f : Box → Box) : (s.modBox f).cat = s.cat := rfl
@[simp] theorem State.modBox_engine (s : State) (f : Box → Box) : (s.modBox f).engine = s.engine := rfl
@[simp] theorem State.modBox_offers (s : State) (f : Box → Box) : (s.modBox f).offers = s.offers := rfl
@[simp] theorem State.modBox_drives (s : State) (f : Box → Box) : (s.modBox f).drives = s.drives := rfl
@[simp] theorem State.modBox_startQueue (s : State) (f : Box → Box) : (s.modBox f).startQueue = s.startQueue := rfl
@[simp] theorem State.modBox_repair (s : State) (f : Box → Box) : (s.modBox f).repair = s.repair := rfl
@[simp] theorem State.modBox_scrub (s : State) (f : Box → Box) : (s.modBox f).scrub = s.scrub := rfl

/-! ## `bump` -/

@[simp] theorem State.bump_pending (s : State) : (s.bump).pending = s.pending := rfl
@[simp] theorem State.bump_out (s : State) : (s.bump).out = s.out := rfl
@[simp] theorem State.bump_powered (s : State) : (s.bump).powered = s.powered := rfl
@[simp] theorem State.bump_link (s : State) : (s.bump).link = s.link := rfl
@[simp] theorem State.bump_chains (s : State) : (s.bump).chains = s.chains := rfl
@[simp] theorem State.bump_attn (s : State) : (s.bump).attn = s.attn := rfl
@[simp] theorem State.bump_attnEn (s : State) : (s.bump).attnEn = s.attnEn := rfl
@[simp] theorem State.bump_jobs (s : State) : (s.bump).jobs = s.jobs := rfl
@[simp] theorem State.bump_cfg (s : State) : (s.bump).cfg = s.cfg := rfl
@[simp] theorem State.bump_clock (s : State) : (s.bump).clock = s.clock := rfl
@[simp] theorem State.bump_streams (s : State) : (s.bump).streams = s.streams := rfl
@[simp] theorem State.bump_cat (s : State) : (s.bump).cat = s.cat := rfl
@[simp] theorem State.bump_engine (s : State) : (s.bump).engine = s.engine := rfl
@[simp] theorem State.bump_offers (s : State) : (s.bump).offers = s.offers := rfl
@[simp] theorem State.bump_drives (s : State) : (s.bump).drives = s.drives := rfl
@[simp] theorem State.bump_startQueue (s : State) : (s.bump).startQueue = s.startQueue := rfl
@[simp] theorem State.bump_repair (s : State) : (s.bump).repair = s.repair := rfl
@[simp] theorem State.bump_scrub (s : State) : (s.bump).scrub = s.scrub := rfl
@[simp] theorem State.bump_box (s : State) : (s.bump).box = s.box := rfl

/-! ## `setPhase` -/

@[simp] theorem State.setPhase_pending (s : State) (i : Nat) (p : JobPhase) : (s.setPhase i p).pending = s.pending := rfl
@[simp] theorem State.setPhase_out (s : State) (i : Nat) (p : JobPhase) : (s.setPhase i p).out = s.out := rfl
@[simp] theorem State.setPhase_powered (s : State) (i : Nat) (p : JobPhase) : (s.setPhase i p).powered = s.powered := rfl
@[simp] theorem State.setPhase_nextId (s : State) (i : Nat) (p : JobPhase) : (s.setPhase i p).nextId = s.nextId := rfl
@[simp] theorem State.setPhase_link (s : State) (i : Nat) (p : JobPhase) : (s.setPhase i p).link = s.link := rfl
@[simp] theorem State.setPhase_chains (s : State) (i : Nat) (p : JobPhase) : (s.setPhase i p).chains = s.chains := rfl
@[simp] theorem State.setPhase_attn (s : State) (i : Nat) (p : JobPhase) : (s.setPhase i p).attn = s.attn := rfl
@[simp] theorem State.setPhase_attnEn (s : State) (i : Nat) (p : JobPhase) : (s.setPhase i p).attnEn = s.attnEn := rfl
@[simp] theorem State.setPhase_cfg (s : State) (i : Nat) (p : JobPhase) : (s.setPhase i p).cfg = s.cfg := rfl
@[simp] theorem State.setPhase_clock (s : State) (i : Nat) (p : JobPhase) : (s.setPhase i p).clock = s.clock := rfl
@[simp] theorem State.setPhase_streams (s : State) (i : Nat) (p : JobPhase) : (s.setPhase i p).streams = s.streams := rfl
@[simp] theorem State.setPhase_cat (s : State) (i : Nat) (p : JobPhase) : (s.setPhase i p).cat = s.cat := rfl
@[simp] theorem State.setPhase_engine (s : State) (i : Nat) (p : JobPhase) : (s.setPhase i p).engine = s.engine := rfl
@[simp] theorem State.setPhase_offers (s : State) (i : Nat) (p : JobPhase) : (s.setPhase i p).offers = s.offers := rfl
@[simp] theorem State.setPhase_drives (s : State) (i : Nat) (p : JobPhase) : (s.setPhase i p).drives = s.drives := rfl
@[simp] theorem State.setPhase_startQueue (s : State) (i : Nat) (p : JobPhase) : (s.setPhase i p).startQueue = s.startQueue := rfl
@[simp] theorem State.setPhase_repair (s : State) (i : Nat) (p : JobPhase) : (s.setPhase i p).repair = s.repair := rfl
@[simp] theorem State.setPhase_scrub (s : State) (i : Nat) (p : JobPhase) : (s.setPhase i p).scrub = s.scrub := rfl
@[simp] theorem State.setPhase_box (s : State) (i : Nat) (p : JobPhase) : (s.setPhase i p).box = s.box := rfl

/-! ## `dropJob` -/

@[simp] theorem State.dropJob_pending (s : State) (i : Nat) : (s.dropJob i).pending = s.pending := rfl
@[simp] theorem State.dropJob_out (s : State) (i : Nat) : (s.dropJob i).out = s.out := rfl
@[simp] theorem State.dropJob_powered (s : State) (i : Nat) : (s.dropJob i).powered = s.powered := rfl
@[simp] theorem State.dropJob_nextId (s : State) (i : Nat) : (s.dropJob i).nextId = s.nextId := rfl
@[simp] theorem State.dropJob_link (s : State) (i : Nat) : (s.dropJob i).link = s.link := rfl
@[simp] theorem State.dropJob_chains (s : State) (i : Nat) : (s.dropJob i).chains = s.chains := rfl
@[simp] theorem State.dropJob_attn (s : State) (i : Nat) : (s.dropJob i).attn = s.attn := rfl
@[simp] theorem State.dropJob_attnEn (s : State) (i : Nat) : (s.dropJob i).attnEn = s.attnEn := rfl
@[simp] theorem State.dropJob_cfg (s : State) (i : Nat) : (s.dropJob i).cfg = s.cfg := rfl
@[simp] theorem State.dropJob_clock (s : State) (i : Nat) : (s.dropJob i).clock = s.clock := rfl
@[simp] theorem State.dropJob_streams (s : State) (i : Nat) : (s.dropJob i).streams = s.streams := rfl
@[simp] theorem State.dropJob_cat (s : State) (i : Nat) : (s.dropJob i).cat = s.cat := rfl
@[simp] theorem State.dropJob_engine (s : State) (i : Nat) : (s.dropJob i).engine = s.engine := rfl
@[simp] theorem State.dropJob_offers (s : State) (i : Nat) : (s.dropJob i).offers = s.offers := rfl
@[simp] theorem State.dropJob_drives (s : State) (i : Nat) : (s.dropJob i).drives = s.drives := rfl
@[simp] theorem State.dropJob_startQueue (s : State) (i : Nat) : (s.dropJob i).startQueue = s.startQueue := rfl
@[simp] theorem State.dropJob_repair (s : State) (i : Nat) : (s.dropJob i).repair = s.repair := rfl
@[simp] theorem State.dropJob_scrub (s : State) (i : Nat) : (s.dropJob i).scrub = s.scrub := rfl
@[simp] theorem State.dropJob_box (s : State) (i : Nat) : (s.dropJob i).box = s.box := rfl

/-! ## `leaveChain` -/

@[simp] theorem State.leaveChain_pending (s : State) (c : Fin 4) : (s.leaveChain c).pending = s.pending := rfl
@[simp] theorem State.leaveChain_out (s : State) (c : Fin 4) : (s.leaveChain c).out = s.out := rfl
@[simp] theorem State.leaveChain_powered (s : State) (c : Fin 4) : (s.leaveChain c).powered = s.powered := rfl
@[simp] theorem State.leaveChain_nextId (s : State) (c : Fin 4) : (s.leaveChain c).nextId = s.nextId := rfl
@[simp] theorem State.leaveChain_link (s : State) (c : Fin 4) : (s.leaveChain c).link = s.link := rfl
@[simp] theorem State.leaveChain_attn (s : State) (c : Fin 4) : (s.leaveChain c).attn = s.attn := rfl
@[simp] theorem State.leaveChain_attnEn (s : State) (c : Fin 4) : (s.leaveChain c).attnEn = s.attnEn := rfl
@[simp] theorem State.leaveChain_jobs (s : State) (c : Fin 4) : (s.leaveChain c).jobs = s.jobs := rfl
@[simp] theorem State.leaveChain_cfg (s : State) (c : Fin 4) : (s.leaveChain c).cfg = s.cfg := rfl
@[simp] theorem State.leaveChain_clock (s : State) (c : Fin 4) : (s.leaveChain c).clock = s.clock := rfl
@[simp] theorem State.leaveChain_streams (s : State) (c : Fin 4) : (s.leaveChain c).streams = s.streams := rfl
@[simp] theorem State.leaveChain_cat (s : State) (c : Fin 4) : (s.leaveChain c).cat = s.cat := rfl
@[simp] theorem State.leaveChain_engine (s : State) (c : Fin 4) : (s.leaveChain c).engine = s.engine := rfl
@[simp] theorem State.leaveChain_offers (s : State) (c : Fin 4) : (s.leaveChain c).offers = s.offers := rfl
@[simp] theorem State.leaveChain_drives (s : State) (c : Fin 4) : (s.leaveChain c).drives = s.drives := rfl
@[simp] theorem State.leaveChain_startQueue (s : State) (c : Fin 4) : (s.leaveChain c).startQueue = s.startQueue := rfl
@[simp] theorem State.leaveChain_repair (s : State) (c : Fin 4) : (s.leaveChain c).repair = s.repair := rfl
@[simp] theorem State.leaveChain_scrub (s : State) (c : Fin 4) : (s.leaveChain c).scrub = s.scrub := rfl
@[simp] theorem State.leaveChain_box (s : State) (c : Fin 4) : (s.leaveChain c).box = s.box := rfl

/-! ## `offer` -/

@[simp] theorem State.offer_pending (s : State) (d : Fin 4) (c : WorkClass) (k : OpKind) (a n : Nat) (o : Owner) (p : List Byte) : (s.offer d c k a n o p).pending = s.pending := rfl
@[simp] theorem State.offer_out (s : State) (d : Fin 4) (c : WorkClass) (k : OpKind) (a n : Nat) (o : Owner) (p : List Byte) : (s.offer d c k a n o p).out = s.out := rfl
@[simp] theorem State.offer_powered (s : State) (d : Fin 4) (c : WorkClass) (k : OpKind) (a n : Nat) (o : Owner) (p : List Byte) : (s.offer d c k a n o p).powered = s.powered := rfl
@[simp] theorem State.offer_link (s : State) (d : Fin 4) (c : WorkClass) (k : OpKind) (a n : Nat) (o : Owner) (p : List Byte) : (s.offer d c k a n o p).link = s.link := rfl
@[simp] theorem State.offer_chains (s : State) (d : Fin 4) (c : WorkClass) (k : OpKind) (a n : Nat) (o : Owner) (p : List Byte) : (s.offer d c k a n o p).chains = s.chains := rfl
@[simp] theorem State.offer_attn (s : State) (d : Fin 4) (c : WorkClass) (k : OpKind) (a n : Nat) (o : Owner) (p : List Byte) : (s.offer d c k a n o p).attn = s.attn := rfl
@[simp] theorem State.offer_attnEn (s : State) (d : Fin 4) (c : WorkClass) (k : OpKind) (a n : Nat) (o : Owner) (p : List Byte) : (s.offer d c k a n o p).attnEn = s.attnEn := rfl
@[simp] theorem State.offer_jobs (s : State) (d : Fin 4) (c : WorkClass) (k : OpKind) (a n : Nat) (o : Owner) (p : List Byte) : (s.offer d c k a n o p).jobs = s.jobs := rfl
@[simp] theorem State.offer_cfg (s : State) (d : Fin 4) (c : WorkClass) (k : OpKind) (a n : Nat) (o : Owner) (p : List Byte) : (s.offer d c k a n o p).cfg = s.cfg := rfl
@[simp] theorem State.offer_clock (s : State) (d : Fin 4) (c : WorkClass) (k : OpKind) (a n : Nat) (o : Owner) (p : List Byte) : (s.offer d c k a n o p).clock = s.clock := rfl
@[simp] theorem State.offer_streams (s : State) (d : Fin 4) (c : WorkClass) (k : OpKind) (a n : Nat) (o : Owner) (p : List Byte) : (s.offer d c k a n o p).streams = s.streams := rfl
@[simp] theorem State.offer_cat (s : State) (d : Fin 4) (c : WorkClass) (k : OpKind) (a n : Nat) (o : Owner) (p : List Byte) : (s.offer d c k a n o p).cat = s.cat := rfl
@[simp] theorem State.offer_engine (s : State) (d : Fin 4) (c : WorkClass) (k : OpKind) (a n : Nat) (o : Owner) (p : List Byte) : (s.offer d c k a n o p).engine = s.engine := rfl
@[simp] theorem State.offer_drives (s : State) (d : Fin 4) (c : WorkClass) (k : OpKind) (a n : Nat) (o : Owner) (p : List Byte) : (s.offer d c k a n o p).drives = s.drives := rfl
@[simp] theorem State.offer_startQueue (s : State) (d : Fin 4) (c : WorkClass) (k : OpKind) (a n : Nat) (o : Owner) (p : List Byte) : (s.offer d c k a n o p).startQueue = s.startQueue := rfl
@[simp] theorem State.offer_repair (s : State) (d : Fin 4) (c : WorkClass) (k : OpKind) (a n : Nat) (o : Owner) (p : List Byte) : (s.offer d c k a n o p).repair = s.repair := rfl
@[simp] theorem State.offer_scrub (s : State) (d : Fin 4) (c : WorkClass) (k : OpKind) (a n : Nat) (o : Owner) (p : List Byte) : (s.offer d c k a n o p).scrub = s.scrub := rfl
@[simp] theorem State.offer_box (s : State) (d : Fin 4) (c : WorkClass) (k : OpKind) (a n : Nat) (o : Owner) (p : List Byte) : (s.offer d c k a n o p).box = s.box := rfl

/-! ## `request` -/

@[simp] theorem State.request_pending (s : State) (q : CatReq) : (s.request q).pending = s.pending := rfl
@[simp] theorem State.request_out (s : State) (q : CatReq) : (s.request q).out = s.out := rfl
@[simp] theorem State.request_powered (s : State) (q : CatReq) : (s.request q).powered = s.powered := rfl
@[simp] theorem State.request_nextId (s : State) (q : CatReq) : (s.request q).nextId = s.nextId := rfl
@[simp] theorem State.request_link (s : State) (q : CatReq) : (s.request q).link = s.link := rfl
@[simp] theorem State.request_chains (s : State) (q : CatReq) : (s.request q).chains = s.chains := rfl
@[simp] theorem State.request_attn (s : State) (q : CatReq) : (s.request q).attn = s.attn := rfl
@[simp] theorem State.request_attnEn (s : State) (q : CatReq) : (s.request q).attnEn = s.attnEn := rfl
@[simp] theorem State.request_jobs (s : State) (q : CatReq) : (s.request q).jobs = s.jobs := rfl
@[simp] theorem State.request_cfg (s : State) (q : CatReq) : (s.request q).cfg = s.cfg := rfl
@[simp] theorem State.request_clock (s : State) (q : CatReq) : (s.request q).clock = s.clock := rfl
@[simp] theorem State.request_streams (s : State) (q : CatReq) : (s.request q).streams = s.streams := rfl
@[simp] theorem State.request_cat (s : State) (q : CatReq) : (s.request q).cat = s.cat := rfl
@[simp] theorem State.request_offers (s : State) (q : CatReq) : (s.request q).offers = s.offers := rfl
@[simp] theorem State.request_drives (s : State) (q : CatReq) : (s.request q).drives = s.drives := rfl
@[simp] theorem State.request_startQueue (s : State) (q : CatReq) : (s.request q).startQueue = s.startQueue := rfl
@[simp] theorem State.request_repair (s : State) (q : CatReq) : (s.request q).repair = s.repair := rfl
@[simp] theorem State.request_scrub (s : State) (q : CatReq) : (s.request q).scrub = s.scrub := rfl
@[simp] theorem State.request_box (s : State) (q : CatReq) : (s.request q).box = s.box := rfl

/-! ## `detachNow` -/

@[simp] theorem State.detachNow_pending (s : State) : (s.detachNow).pending = s.pending := rfl
@[simp] theorem State.detachNow_out (s : State) : (s.detachNow).out = s.out := rfl
@[simp] theorem State.detachNow_powered (s : State) : (s.detachNow).powered = s.powered := rfl
@[simp] theorem State.detachNow_nextId (s : State) : (s.detachNow).nextId = s.nextId := rfl
@[simp] theorem State.detachNow_attn (s : State) : (s.detachNow).attn = s.attn := rfl
@[simp] theorem State.detachNow_attnEn (s : State) : (s.detachNow).attnEn = s.attnEn := rfl
@[simp] theorem State.detachNow_jobs (s : State) : (s.detachNow).jobs = s.jobs := rfl
@[simp] theorem State.detachNow_cfg (s : State) : (s.detachNow).cfg = s.cfg := rfl
@[simp] theorem State.detachNow_clock (s : State) : (s.detachNow).clock = s.clock := rfl
@[simp] theorem State.detachNow_streams (s : State) : (s.detachNow).streams = s.streams := rfl
@[simp] theorem State.detachNow_cat (s : State) : (s.detachNow).cat = s.cat := rfl
@[simp] theorem State.detachNow_engine (s : State) : (s.detachNow).engine = s.engine := rfl
@[simp] theorem State.detachNow_offers (s : State) : (s.detachNow).offers = s.offers := rfl
@[simp] theorem State.detachNow_drives (s : State) : (s.detachNow).drives = s.drives := rfl
@[simp] theorem State.detachNow_startQueue (s : State) : (s.detachNow).startQueue = s.startQueue := rfl
@[simp] theorem State.detachNow_repair (s : State) : (s.detachNow).repair = s.repair := rfl
@[simp] theorem State.detachNow_scrub (s : State) : (s.detachNow).scrub = s.scrub := rfl
@[simp] theorem State.detachNow_box (s : State) : (s.detachNow).box = s.box := rfl

/-! ## `setCount` -/

@[simp] theorem State.setCount_pending (s : State) (v : BitVec 32) : (s.setCount v).pending = s.pending := rfl
@[simp] theorem State.setCount_out (s : State) (v : BitVec 32) : (s.setCount v).out = s.out := rfl
@[simp] theorem State.setCount_powered (s : State) (v : BitVec 32) : (s.setCount v).powered = s.powered := rfl
@[simp] theorem State.setCount_nextId (s : State) (v : BitVec 32) : (s.setCount v).nextId = s.nextId := rfl
@[simp] theorem State.setCount_link (s : State) (v : BitVec 32) : (s.setCount v).link = s.link := rfl
@[simp] theorem State.setCount_chains (s : State) (v : BitVec 32) : (s.setCount v).chains = s.chains := rfl
@[simp] theorem State.setCount_attn (s : State) (v : BitVec 32) : (s.setCount v).attn = s.attn := rfl
@[simp] theorem State.setCount_attnEn (s : State) (v : BitVec 32) : (s.setCount v).attnEn = s.attnEn := rfl
@[simp] theorem State.setCount_jobs (s : State) (v : BitVec 32) : (s.setCount v).jobs = s.jobs := rfl
@[simp] theorem State.setCount_cfg (s : State) (v : BitVec 32) : (s.setCount v).cfg = s.cfg := rfl
@[simp] theorem State.setCount_streams (s : State) (v : BitVec 32) : (s.setCount v).streams = s.streams := rfl
@[simp] theorem State.setCount_cat (s : State) (v : BitVec 32) : (s.setCount v).cat = s.cat := rfl
@[simp] theorem State.setCount_engine (s : State) (v : BitVec 32) : (s.setCount v).engine = s.engine := rfl
@[simp] theorem State.setCount_offers (s : State) (v : BitVec 32) : (s.setCount v).offers = s.offers := rfl
@[simp] theorem State.setCount_drives (s : State) (v : BitVec 32) : (s.setCount v).drives = s.drives := rfl
@[simp] theorem State.setCount_startQueue (s : State) (v : BitVec 32) : (s.setCount v).startQueue = s.startQueue := rfl
@[simp] theorem State.setCount_repair (s : State) (v : BitVec 32) : (s.setCount v).repair = s.repair := rfl
@[simp] theorem State.setCount_scrub (s : State) (v : BitVec 32) : (s.setCount v).scrub = s.scrub := rfl
@[simp] theorem State.setCount_box (s : State) (v : BitVec 32) : (s.setCount v).box = s.box := rfl

/-! ## `modScrub` -/

@[simp] theorem State.modScrub_pending (s : State) (f : ScrubCtx → ScrubCtx) : (s.modScrub f).pending = s.pending := rfl
@[simp] theorem State.modScrub_out (s : State) (f : ScrubCtx → ScrubCtx) : (s.modScrub f).out = s.out := rfl
@[simp] theorem State.modScrub_powered (s : State) (f : ScrubCtx → ScrubCtx) : (s.modScrub f).powered = s.powered := rfl
@[simp] theorem State.modScrub_nextId (s : State) (f : ScrubCtx → ScrubCtx) : (s.modScrub f).nextId = s.nextId := rfl
@[simp] theorem State.modScrub_link (s : State) (f : ScrubCtx → ScrubCtx) : (s.modScrub f).link = s.link := rfl
@[simp] theorem State.modScrub_chains (s : State) (f : ScrubCtx → ScrubCtx) : (s.modScrub f).chains = s.chains := rfl
@[simp] theorem State.modScrub_attn (s : State) (f : ScrubCtx → ScrubCtx) : (s.modScrub f).attn = s.attn := rfl
@[simp] theorem State.modScrub_attnEn (s : State) (f : ScrubCtx → ScrubCtx) : (s.modScrub f).attnEn = s.attnEn := rfl
@[simp] theorem State.modScrub_jobs (s : State) (f : ScrubCtx → ScrubCtx) : (s.modScrub f).jobs = s.jobs := rfl
@[simp] theorem State.modScrub_cfg (s : State) (f : ScrubCtx → ScrubCtx) : (s.modScrub f).cfg = s.cfg := rfl
@[simp] theorem State.modScrub_clock (s : State) (f : ScrubCtx → ScrubCtx) : (s.modScrub f).clock = s.clock := rfl
@[simp] theorem State.modScrub_streams (s : State) (f : ScrubCtx → ScrubCtx) : (s.modScrub f).streams = s.streams := rfl
@[simp] theorem State.modScrub_cat (s : State) (f : ScrubCtx → ScrubCtx) : (s.modScrub f).cat = s.cat := rfl
@[simp] theorem State.modScrub_engine (s : State) (f : ScrubCtx → ScrubCtx) : (s.modScrub f).engine = s.engine := rfl
@[simp] theorem State.modScrub_offers (s : State) (f : ScrubCtx → ScrubCtx) : (s.modScrub f).offers = s.offers := rfl
@[simp] theorem State.modScrub_drives (s : State) (f : ScrubCtx → ScrubCtx) : (s.modScrub f).drives = s.drives := rfl
@[simp] theorem State.modScrub_startQueue (s : State) (f : ScrubCtx → ScrubCtx) : (s.modScrub f).startQueue = s.startQueue := rfl
@[simp] theorem State.modScrub_repair (s : State) (f : ScrubCtx → ScrubCtx) : (s.modScrub f).repair = s.repair := rfl
@[simp] theorem State.modScrub_box (s : State) (f : ScrubCtx → ScrubCtx) : (s.modScrub f).box = s.box := rfl

/-! ## `setWorker` -/

@[simp] theorem State.setWorker_pending (s : State) (w : Worker) : (s.setWorker w).pending = s.pending := rfl
@[simp] theorem State.setWorker_out (s : State) (w : Worker) : (s.setWorker w).out = s.out := rfl
@[simp] theorem State.setWorker_powered (s : State) (w : Worker) : (s.setWorker w).powered = s.powered := rfl
@[simp] theorem State.setWorker_nextId (s : State) (w : Worker) : (s.setWorker w).nextId = s.nextId := rfl
@[simp] theorem State.setWorker_link (s : State) (w : Worker) : (s.setWorker w).link = s.link := rfl
@[simp] theorem State.setWorker_chains (s : State) (w : Worker) : (s.setWorker w).chains = s.chains := rfl
@[simp] theorem State.setWorker_attn (s : State) (w : Worker) : (s.setWorker w).attn = s.attn := rfl
@[simp] theorem State.setWorker_attnEn (s : State) (w : Worker) : (s.setWorker w).attnEn = s.attnEn := rfl
@[simp] theorem State.setWorker_jobs (s : State) (w : Worker) : (s.setWorker w).jobs = s.jobs := rfl
@[simp] theorem State.setWorker_cfg (s : State) (w : Worker) : (s.setWorker w).cfg = s.cfg := rfl
@[simp] theorem State.setWorker_clock (s : State) (w : Worker) : (s.setWorker w).clock = s.clock := rfl
@[simp] theorem State.setWorker_streams (s : State) (w : Worker) : (s.setWorker w).streams = s.streams := rfl
@[simp] theorem State.setWorker_cat (s : State) (w : Worker) : (s.setWorker w).cat = s.cat := rfl
@[simp] theorem State.setWorker_engine (s : State) (w : Worker) : (s.setWorker w).engine = s.engine := rfl
@[simp] theorem State.setWorker_offers (s : State) (w : Worker) : (s.setWorker w).offers = s.offers := rfl
@[simp] theorem State.setWorker_drives (s : State) (w : Worker) : (s.setWorker w).drives = s.drives := rfl
@[simp] theorem State.setWorker_startQueue (s : State) (w : Worker) : (s.setWorker w).startQueue = s.startQueue := rfl
@[simp] theorem State.setWorker_scrub (s : State) (w : Worker) : (s.setWorker w).scrub = s.scrub := rfl
@[simp] theorem State.setWorker_box (s : State) (w : Worker) : (s.setWorker w).box = s.box := rfl

/-! ## `askHold` -/

@[simp] theorem State.askHold_pending (s : State) (o : HoldOwner) : (s.askHold o).pending = s.pending := rfl
@[simp] theorem State.askHold_out (s : State) (o : HoldOwner) : (s.askHold o).out = s.out := rfl
@[simp] theorem State.askHold_powered (s : State) (o : HoldOwner) : (s.askHold o).powered = s.powered := rfl
@[simp] theorem State.askHold_nextId (s : State) (o : HoldOwner) : (s.askHold o).nextId = s.nextId := rfl
@[simp] theorem State.askHold_link (s : State) (o : HoldOwner) : (s.askHold o).link = s.link := rfl
@[simp] theorem State.askHold_chains (s : State) (o : HoldOwner) : (s.askHold o).chains = s.chains := rfl
@[simp] theorem State.askHold_attn (s : State) (o : HoldOwner) : (s.askHold o).attn = s.attn := rfl
@[simp] theorem State.askHold_attnEn (s : State) (o : HoldOwner) : (s.askHold o).attnEn = s.attnEn := rfl
@[simp] theorem State.askHold_jobs (s : State) (o : HoldOwner) : (s.askHold o).jobs = s.jobs := rfl
@[simp] theorem State.askHold_cfg (s : State) (o : HoldOwner) : (s.askHold o).cfg = s.cfg := rfl
@[simp] theorem State.askHold_clock (s : State) (o : HoldOwner) : (s.askHold o).clock = s.clock := rfl
@[simp] theorem State.askHold_streams (s : State) (o : HoldOwner) : (s.askHold o).streams = s.streams := rfl
@[simp] theorem State.askHold_cat (s : State) (o : HoldOwner) : (s.askHold o).cat = s.cat := rfl
@[simp] theorem State.askHold_offers (s : State) (o : HoldOwner) : (s.askHold o).offers = s.offers := rfl
@[simp] theorem State.askHold_drives (s : State) (o : HoldOwner) : (s.askHold o).drives = s.drives := rfl
@[simp] theorem State.askHold_startQueue (s : State) (o : HoldOwner) : (s.askHold o).startQueue = s.startQueue := rfl
@[simp] theorem State.askHold_repair (s : State) (o : HoldOwner) : (s.askHold o).repair = s.repair := rfl
@[simp] theorem State.askHold_scrub (s : State) (o : HoldOwner) : (s.askHold o).scrub = s.scrub := rfl
@[simp] theorem State.askHold_box (s : State) (o : HoldOwner) : (s.askHold o).box = s.box := rfl

/-! ## `note` -/

@[simp] theorem State.note_pending (s : State) : s.note.pending = s.pending := rfl
@[simp] theorem State.note_powered (s : State) : s.note.powered = s.powered := rfl
@[simp] theorem State.note_nextId (s : State) : s.note.nextId = s.nextId := rfl
@[simp] theorem State.note_link (s : State) : s.note.link = s.link := rfl
@[simp] theorem State.note_chains (s : State) : s.note.chains = s.chains := rfl
@[simp] theorem State.note_attn (s : State) : s.note.attn = s.attn := rfl
@[simp] theorem State.note_attnEn (s : State) : s.note.attnEn = s.attnEn := rfl
@[simp] theorem State.note_jobs (s : State) : s.note.jobs = s.jobs := rfl
@[simp] theorem State.note_cfg (s : State) : s.note.cfg = s.cfg := rfl
@[simp] theorem State.note_clock (s : State) : s.note.clock = s.clock := rfl
@[simp] theorem State.note_streams (s : State) : s.note.streams = s.streams := rfl
@[simp] theorem State.note_cat (s : State) : s.note.cat = s.cat := rfl
@[simp] theorem State.note_engine (s : State) : s.note.engine = s.engine := rfl
@[simp] theorem State.note_offers (s : State) : s.note.offers = s.offers := rfl
@[simp] theorem State.note_drives (s : State) : s.note.drives = s.drives := rfl
@[simp] theorem State.note_startQueue (s : State) : s.note.startQueue = s.startQueue := rfl
@[simp] theorem State.note_repair (s : State) : s.note.repair = s.repair := rfl
@[simp] theorem State.note_scrub (s : State) : s.note.scrub = s.scrub := rfl
@[simp] theorem State.note_box (s : State) : s.note.box = s.box := rfl

/-! ## What each update does to its own field -/

@[simp] theorem State.emit_out (s : State) (o : Out) : (s.emit o).out = { s.out with acts := s.out.acts ++ [o] } := rfl
@[simp] theorem State.emits_out (s : State) (l : List Out) : (s.emits l).out = { s.out with acts := s.out.acts ++ l } := rfl
@[simp] theorem State.setCause_attn (s : State) (c : Cause) : (s.setCause c).attn = withCause s.attn c := rfl
@[simp] theorem State.clearCause_attn (s : State) (c : Cause) : (s.clearCause c).attn = withoutCause s.attn c := rfl
@[simp] theorem State.modDrive_drives (s : State) (d : Fin 4) (f : Drive → Drive) :
    (s.modDrive d f).drives = s.drives.set d (f s.drives[d]) := rfl
@[simp] theorem State.modStream_streams (s : State) (n : Fin 8) (f : Stream → Stream) :
    (s.modStream n f).streams = s.streams.set n (f s.streams[n]) := rfl
@[simp] theorem State.modChain_chains (s : State) (c : Fin 4) (f : Chain → Chain) :
    (s.modChain c f).chains = s.chains.set c (f s.chains[c]) := rfl
@[simp] theorem State.modCat_cat (s : State) (f : Cat → Cat) : (s.modCat f).cat = f s.cat := rfl
@[simp] theorem State.modEngine_engine (s : State) (f : Engine → Engine) : (s.modEngine f).engine = f s.engine := rfl
@[simp] theorem State.modBox_box (s : State) (f : Box → Box) : (s.modBox f).box = f s.box := rfl
@[simp] theorem State.bump_nextId (s : State) : s.bump.nextId = s.nextId + 1 := rfl
@[simp] theorem State.setPhase_jobs (s : State) (i : Nat) (p : JobPhase) :
    (s.setPhase i p).jobs = s.jobs.map fun j => if j.id = i then { j with phase := p } else j := rfl
@[simp] theorem State.dropJob_jobs (s : State) (i : Nat) : (s.dropJob i).jobs = s.jobs.filter fun j => j.id != i := rfl
@[simp] theorem State.request_engine (s : State) (q : CatReq) :
    (s.request q).engine = { s.engine with requests := s.engine.requests ++ [q] } := rfl
@[simp] theorem State.offer_nextId (s : State) (d : Fin 4) (c : WorkClass) (k : OpKind) (a n : Nat) (o : Owner) (p : List Byte) :
    (s.offer d c k a n o p).nextId = s.nextId + 1 := rfl
@[simp] theorem State.offer_offers (s : State) (d : Fin 4) (c : WorkClass) (k : OpKind) (a n : Nat) (o : Owner) (p : List Byte) :
    (s.offer d c k a n o p).offers =
      s.offers ++ [{ drive := d, op := { id := s.nextId, cls := c, kind := k, first := a, count := n, owner := o, payload := p } }] :=
  rfl
@[simp] theorem State.modDrive_same (s : State) (d : Fin 4) (f : Drive → Drive) : (s.modDrive d f).drives[d] = f s.drives[d] := by
  simp [State.modDrive]
theorem State.modDrive_other (s : State) {d e : Fin 4} (h : d ≠ e) (f : Drive → Drive) :
    (s.modDrive d f).drives[e] = s.drives[e] := by
  have : d.val ≠ e.val := fun x => h (Fin.ext x)
  simp [State.modDrive, this]
@[simp] theorem State.modChain_same (s : State) (c : Fin 4) (f : Chain → Chain) : (s.modChain c f).chains[c] = f s.chains[c] := by
  simp [State.modChain]
@[simp] theorem State.modStream_same (s : State) (n : Fin 8) (f : Stream → Stream) : (s.modStream n f).streams[n] = f s.streams[n] := by
  simp [State.modStream]

end Sys2Proof.Machine
end

