-- ==== Sys2Proof/Laws/Drives.lean ====
section
/-! SUPPORT. What the Scheduler's and the Power Controller's shared operations can do, each said once. -/

namespace Sys2Proof.Machine

/-! ## Operation lists -/

/-- A placed operation is on the list with those that were there, and nothing else. -/
theorem mem_placeOp {l : List Op} {o p : Op} : p ∈ placeOp l o ↔ p = o ∨ p ∈ l := by
  induction l with
  | nil => simp [placeOp]
  | cons x l ih =>
    simp only [placeOp]
    split
    · simp
    · simp only [List.mem_cons, ih]
      tauto

theorem placeOp_length (l : List Op) (o : Op) : (placeOp l o).length = l.length + 1 := by
  induction l with
  | nil => rfl
  | cons x l ih =>
    simp only [placeOp]
    split <;> simp [ih]

/-- Operations of one class stay in the order in which they were placed (R124). -/
theorem placeOp_class (l : List Op) (o : Op) (k : WorkClass) (h : l.Pairwise fun x y => x.cls.rank ≤ y.cls.rank) :
    (placeOp l o).filter (fun p => p.cls == k) = l.filter (fun p => p.cls == k) ++ if o.cls == k then [o] else [] := by
  induction l with
  | nil => by_cases e : o.cls == k <;> simp [placeOp, e]
  | cons x l ih =>
    simp only [placeOp]
    split
    · rename_i lt
      by_cases e : o.cls == k
      · have none : ∀ p ∈ x :: l, (p.cls == k) = false := by
          intro p hp
          have hx : x.cls.rank ≤ p.cls.rank := by
            rcases List.mem_cons.mp hp with rfl | hp
            · exact Nat.le_refl _
            · exact (List.pairwise_cons.mp h).1 p hp
          by_contra q
          have a : p.cls = k := by simpa using q
          have b : o.cls = k := by simpa using e
          rw [a, ← b] at hx
          omega
        rw [List.filter_cons, if_pos e, List.filter_eq_nil_iff.mpr (by simpa using none)]
        simp [e]
      · rw [List.filter_cons, if_neg e]
        simp [e]
    · simp only [List.filter_cons, ih (List.pairwise_cons.mp h).2]
      split <;> simp

/-- Placing keeps the list in class order (R124). -/
theorem placeOp_sorted (l : List Op) (o : Op) (h : l.Pairwise fun x y => x.cls.rank ≤ y.cls.rank) :
    (placeOp l o).Pairwise fun x y => x.cls.rank ≤ y.cls.rank := by
  induction l with
  | nil => simp [placeOp]
  | cons x l ih =>
    have hc := List.pairwise_cons.mp h
    simp only [placeOp]
    split
    · rename_i lt
      refine List.pairwise_cons.mpr ⟨fun p hp => ?_, h⟩
      rcases List.mem_cons.mp hp with rfl | hp
      · omega
      · exact Nat.le_trans (Nat.le_of_lt lt) (hc.1 p hp)
    · rename_i lt
      refine List.pairwise_cons.mpr ⟨fun p hp => ?_, ih hc.2⟩
      rcases mem_placeOp.mp hp with rfl | hp
      · omega
      · exact hc.1 p hp

/-! ## The start queue -/

theorem mem_queueInsert {l : List StartReq} {r q : StartReq} : q ∈ queueInsert l r ↔ q = r ∨ q ∈ l := by
  induction l with
  | nil => simp [queueInsert]
  | cons x l ih =>
    simp only [queueInsert]
    split
    · simp
    · simp only [List.mem_cons, ih]
      tauto

/-- A grant loop over an empty queue does nothing. -/
theorem State.grantLoop_empty {s : State} (k : Nat) (h : s.startQueue = []) : s.grantLoop k = s := by
  cases k <;> simp [State.grantLoop, h]

/-- A head that does not fit holds the queue (R144). -/
theorem State.grantLoop_wait {s : State} {r : StartReq} {l : List StartReq} (k : Nat) (h : s.startQueue = r :: l)
    (hf : s.fits r.drive = false) : s.grantLoop k = s := by
  cases k <;> simp [State.grantLoop, h, hf]

/-! ## Ports -/

/-- A port with a command or a reset under way issues nothing. -/
theorem State.kickPort_busy {s : State} {d : Fin 4} (h : s.drives[d].port ≠ .idle) : s.kickPort d = s := by
  simp only [State.kickPort, h, ne_eq, not_false_eq_true, if_true]

/-! ## The credit and the emptying of lists -/

/-- Where the credit is not refilled nothing changes, and a refill is of an idle port with an empty list (R129). -/
theorem Drive.refilled_cases (x : Drive) (credit : Nat) :
    (x.port = .idle ∧ x.ops = [] ∧ x.refilled credit = { x with credit := credit })
      ∨ (¬(x.port = .idle ∧ x.ops = []) ∧ x.refilled credit = x) := by
  by_cases h : x.port = .idle ∧ x.ops = [] <;> simp [Drive.refilled, h]

/-- A list that is emptied holds exactly the operations that were to stay, and so do the places left waiting (R138). -/
theorem State.emptied_drive (s : State) (p : Op → Bool) (d : Fin 4) :
    (s.emptied p).drives[d] =
      { s.drives[d] with ops := s.drives[d].ops.filter fun o => !p o, room := s.drives[d].room.filter fun o => !p o } := by
  simp [State.emptied]

/-- The offers that stay are those of operations that stay. -/
theorem State.mem_emptied_offers (s : State) (p : Op → Bool) (f : Offer) :
    f ∈ (s.emptied p).offers ↔ f ∈ s.offers ∧ p f.op = false := by simp [State.emptied]

/-! ## Parking, and where a checkpoint starts -/

/-- A STANDBY request changes its drive and the notes of the page alone (R150, R17). -/
theorem State.makeStandby_eq (s : State) (d : Fin 4) :
    s.makeStandby d =
      { s with
        drives := s.drives.set d
          { s.drives[d] with power := .stopping, standbyAsked := true, idle := none, idleHeld := false }
        out := { s.out with notes := s.out.notes ++ s.stage } } := rfl

/-- How a STANDBY can end (R150, R152). -/
theorem State.standbyEnds_cases (s : State) (d : Fin 4) (e : Ending) :
    (e = .done ∧ s.standbyEnds d e = s.modDrive d fun x => { x with power := .parked })
      ∨ (e ≠ .done ∧ s.drives[d].park = none ∧ s.standbyEnds d e = s.powerOff d)
      ∨ (e ≠ .done ∧ s.drives[d].park.isSome = true ∧ s.standbyEnds d e = (s.powerOff d).parkSettled d) := by
  unfold State.standbyEnds
  generalize s.drives[d].park = p
  by_cases h : e = .done <;> cases p <;> simp [h]

/-- What a drive that latches FAILED does to the checkpoint in flight (R116): nothing, or its sequence has failed. -/
theorem State.ckptDriveFailed_cases (s : State) (d : Fin 4) :
    s.ckptDriveFailed d = s
      ∨ ∃ i c, catIndex d = some i ∧ s.engine.ckpt = some c ∧ ((c.at i).busy = true ∨ c.at i = .prepared)
        ∧ s.ckptDriveFailed d = (s.ckptFailDrive i).ckptCheck := by
  unfold State.ckptDriveFailed
  split
  · rename_i i c hi hc
    split
    · rename_i h
      exact .inr ⟨i, c, hi, hc, by simpa using h, rfl⟩
    · exact .inl rfl
  · exact .inl rfl

/-- Where a checkpoint starts on a drive (R109): a drive that is tried is READY, or is given a start, which in the power-down phase
only the shutdown's own checkpoint gets (R191). -/
theorem State.ckptStep_cases (s : State) (l : List CkptReq) (i : Fin 2) :
    (s.ckptTries l i = false ∧ s.ckptStep l i = .notTried)
      ∨ (s.ckptTries l i = true ∧ s.drives[catDrive i].power = .ready ∧ s.ckptStep l i = .prepared)
      ∨ (s.ckptTries l i = true ∧ s.drives[catDrive i].power ≠ .ready ∧ s.powerDown = true ∧ l.any CkptReq.isShutdown = false
          ∧ s.ckptStep l i = .notTried)
      ∨ (s.ckptTries l i = true ∧ s.drives[catDrive i].power ≠ .ready ∧ (s.powerDown = false ∨ l.any CkptReq.isShutdown = true)
          ∧ s.ckptStep l i = .starting) := by
  unfold State.ckptStep
  generalize s.drives[catDrive i].power = p
  cases s.ckptTries l i <;> cases s.powerDown <;> cases l.any CkptReq.isShutdown <;> cases p <;> simp

end Sys2Proof.Machine
end

