-- ==== Sys2Proof/Laws/Exec.lean ====
section
/-! SUPPORT. `exec` of each command is its meaning: one equation for each constructor, so that no proof unfolds the dispatch. -/

namespace Sys2Proof.Machine

@[simp] theorem exec_coldStart (present : BitVec 4) (mainsGood battLow : Bool) (s : State) :
    exec (.coldStart present mainsGood battLow) s = execColdStart present mainsGood battLow s := rfl
@[simp] theorem exec_setupAddrWrite (v : BitVec 64) (s : State) :
    exec (.setupAddrWrite v) s = execSetupAddrWrite v s := rfl
@[simp] theorem exec_setupBlockReadDone (r : Option (List Byte)) (s : State) :
    exec (.setupBlockReadDone r) s = execSetupBlockReadDone r s := rfl
@[simp] theorem exec_statusPageFullWriteDone (s : State) :
    exec (.statusPageFullWriteDone) s = execStatusPageFullWriteDone s := rfl
@[simp] theorem exec_nudge (v : BitVec 64) (s : State) :
    exec (.nudge v) s = execNudge v s := rfl
@[simp] theorem exec_anchorLinkReadDone (c : Fin 4) (r : Option (List Byte)) (s : State) :
    exec (.anchorLinkReadDone c r) s = execAnchorLinkReadDone c r s := rfl
@[simp] theorem exec_jobRecordReadDone (c : Fin 4) (r : Option (List Byte)) (s : State) :
    exec (.jobRecordReadDone c r) s = execJobRecordReadDone c r s := rfl
@[simp] theorem exec_takenWriteDone (c : Fin 4) (ok : Bool) (s : State) :
    exec (.takenWriteDone c ok) s = execTakenWriteDone c ok s := rfl
@[simp] theorem exec_chainPollTimerExpiry (c : Fin 4) (s : State) :
    exec (.chainPollTimerExpiry c) s = execChainPollTimerExpiry c s := rfl
@[simp] theorem exec_hostReadTimeout (r : HostRead) (s : State) :
    exec (.hostReadTimeout r) s = execHostReadTimeout r s := rfl
@[simp] theorem exec_completionWriteDelivered (job : Nat) (s : State) :
    exec (.completionWriteDelivered job) s = execCompletionWriteDelivered job s := rfl
@[simp] theorem exec_completionFault (job : Nat) (s : State) :
    exec (.completionFault job) s = execCompletionFault job s := rfl
@[simp] theorem exec_statusPageWriteError (s : State) :
    exec (.statusPageWriteError) s = execStatusPageWriteError s := rfl
@[simp] theorem exec_statusPageRewriteDone (allDelivered : Bool) (s : State) :
    exec (.statusPageRewriteDone allDelivered) s = execStatusPageRewriteDone allDelivered s := rfl
@[simp] theorem exec_detach (s : State) :
    exec (.detach) s = execDetach s := rfl
@[simp] theorem exec_engineReset (s : State) :
    exec (.engineReset) s = execEngineReset s := rfl
@[simp] theorem exec_powerConsent (s : State) :
    exec (.powerConsent) s = execPowerConsent s := rfl
@[simp] theorem exec_attnWrite (v : BitVec 64) (s : State) :
    exec (.attnWrite v) s = execAttnWrite v s := rfl
@[simp] theorem exec_attnEnWrite (v : BitVec 64) (s : State) :
    exec (.attnEnWrite v) s = execAttnEnWrite v s := rfl
@[simp] theorem exec_registerWriteIgnored (offset width : Nat) (v : BitVec 64) (s : State) :
    exec (.registerWriteIgnored offset width v) s = execRegisterWriteIgnored offset width v s := rfl
@[simp] theorem exec_configure (s : State) :
    exec (.configure) s = execConfigure s := rfl
@[simp] theorem exec_configBlockReadDone (r : Option (List Byte)) (s : State) :
    exec (.configBlockReadDone r) s = execConfigBlockReadDone r s := rfl
@[simp] theorem exec_clockTick (s : State) :
    exec (.clockTick) s = execClockTick s := rfl
@[simp] theorem exec_setClock (s : State) :
    exec (.setClock) s = execSetClock s := rfl
@[simp] theorem exec_setAlarm (s : State) :
    exec (.setAlarm) s = execSetAlarm s := rfl
@[simp] theorem exec_openStream (s : State) :
    exec (.openStream) s = execOpenStream s := rfl
@[simp] theorem exec_feed (s : State) :
    exec (.feed) s = execFeed s := rfl
@[simp] theorem exec_sourceReadDone (n : Fin 8) (bytes : List Byte) (s : State) :
    exec (.sourceReadDone n bytes) s = execSourceReadDone n bytes s := rfl
@[simp] theorem exec_sourceReadBusError (n : Fin 8) (s : State) :
    exec (.sourceReadBusError n) s = execSourceReadBusError n s := rfl
@[simp] theorem exec_closeStream (s : State) :
    exec (.closeStream) s = execCloseStream s := rfl
@[simp] theorem exec_resolution (s : State) :
    exec (.resolution) s = execResolution s := rfl
@[simp] theorem exec_referenceWriteDone (n : Fin 8) (ok : Bool) (s : State) :
    exec (.referenceWriteDone n ok) s = execReferenceWriteDone n ok s := rfl
@[simp] theorem exec_compareVerdict (s : State) :
    exec (.compareVerdict) s = execCompareVerdict s := rfl
@[simp] theorem exec_writeOutcome (s : State) :
    exec (.writeOutcome) s = execWriteOutcome s := rfl
@[simp] theorem exec_referenceRewriteDone (n : Fin 8) (chunk : Nat) (ok : Bool) (s : State) :
    exec (.referenceRewriteDone n chunk ok) s = execReferenceRewriteDone n chunk ok s := rfl
@[simp] theorem exec_retain (s : State) :
    exec (.retain) s = execRetain s := rfl
@[simp] theorem exec_release (s : State) :
    exec (.release) s = execRelease s := rfl
@[simp] theorem exec_referenceListReadDone (job : Nat) (r : Option (List Byte)) (s : State) :
    exec (.referenceListReadDone job r) s = execReferenceListReadDone job r s := rfl
@[simp] theorem exec_retainReference (s : State) :
    exec (.retainReference) s = execRetainReference s := rfl
@[simp] theorem exec_releaseReference (s : State) :
    exec (.releaseReference) s = execReleaseReference s := rfl
@[simp] theorem exec_checkpoint (s : State) :
    exec (.checkpoint) s = execCheckpoint s := rfl
@[simp] theorem exec_checkpointImageWriteBegin (s : State) :
    exec (.checkpointImageWriteBegin) s = execCheckpointImageWriteBegin s := rfl
@[simp] theorem exec_load (s : State) :
    exec (.load) s = execLoad s := rfl
@[simp] theorem exec_loadDrivesSettled (s : State) :
    exec (.loadDrivesSettled) s = execLoadDrivesSettled s := rfl
@[simp] theorem exec_loadHeadersRead (s : State) :
    exec (.loadHeadersRead) s = execLoadHeadersRead s := rfl
@[simp] theorem exec_loadImageReadDone (s : State) :
    exec (.loadImageReadDone) s = execLoadImageReadDone s := rfl
@[simp] theorem exec_format (s : State) :
    exec (.format) s = execFormat s := rfl
@[simp] theorem exec_formatDrivesSettled (s : State) :
    exec (.formatDrivesSettled) s = execFormatDrivesSettled s := rfl
@[simp] theorem exec_formatWritesDone (s : State) :
    exec (.formatWritesDone) s = execFormatWritesDone s := rfl
@[simp] theorem exec_driveControlStart (s : State) :
    exec (.driveControlStart) s = execDriveControlStart s := rfl
@[simp] theorem exec_driveControlPark (s : State) :
    exec (.driveControlPark) s = execDriveControlPark s := rfl
@[simp] theorem exec_driveControlPowerOff (s : State) :
    exec (.driveControlPowerOff) s = execDriveControlPowerOff s := rfl
@[simp] theorem exec_clearFault (s : State) :
    exec (.clearFault) s = execClearFault s := rfl
@[simp] theorem exec_adopt (s : State) :
    exec (.adopt) s = execAdopt s := rfl
@[simp] theorem exec_adoptAction (s : State) :
    exec (.adoptAction) s = execAdoptAction s := rfl
@[simp] theorem exec_resync (s : State) :
    exec (.resync) s = execResync s := rfl
@[simp] theorem exec_operationOffer (s : State) :
    exec (.operationOffer) s = execOperationOffer s := rfl
@[simp] theorem exec_commandAnswer (d : Fin 4) (a : Answer) (s : State) :
    exec (.commandAnswer d a) s = execCommandAnswer d a s := rfl
@[simp] theorem exec_commandTimeout (d : Fin 4) (s : State) :
    exec (.commandTimeout d) s = execCommandTimeout d s := rfl
@[simp] theorem exec_portResetAnswered (d : Fin 4) (s : State) :
    exec (.portResetAnswered d) s = execPortResetAnswered d s := rfl
@[simp] theorem exec_portResetTimeout (d : Fin 4) (s : State) :
    exec (.portResetTimeout d) s = execPortResetTimeout d s := rfl
@[simp] theorem exec_driveAnnounce (d : Fin 4) (s : State) :
    exec (.driveAnnounce d) s = execDriveAnnounce d s := rfl
@[simp] theorem exec_startTimeout (d : Fin 4) (s : State) :
    exec (.startTimeout d) s = execStartTimeout d s := rfl
@[simp] theorem exec_idleTimerExpiry (d : Fin 4) (s : State) :
    exec (.idleTimerExpiry d) s = execIdleTimerExpiry d s := rfl
@[simp] theorem exec_railSample (current : Vector Nat 4) (present : BitVec 4) (s : State) :
    exec (.railSample current present) s = execRailSample current present s := rfl
@[simp] theorem exec_railGraceExpiry (d : Fin 4) (s : State) :
    exec (.railGraceExpiry d) s = execRailGraceExpiry d s := rfl
@[simp] theorem exec_fetch (s : State) :
    exec (.fetch) s = execFetch s := rfl
@[simp] theorem exec_fetchListReadDone (job : Nat) (r : Option (List Byte)) (s : State) :
    exec (.fetchListReadDone job r) s = execFetchListReadDone job r s := rfl
@[simp] theorem exec_badReadReport (s : State) :
    exec (.badReadReport) s = execBadReadReport s := rfl
@[simp] theorem exec_destinationWriteDone (job ref : Nat) (ok : Bool) (s : State) :
    exec (.destinationWriteDone job ref ok) s = execDestinationWriteDone job ref ok s := rfl
@[simp] theorem exec_blockWrite (s : State) :
    exec (.blockWrite) s = execBlockWrite s := rfl
@[simp] theorem exec_blockSourceReadDone (job : Nat) (r : Option (List Byte)) (s : State) :
    exec (.blockSourceReadDone job r) s = execBlockSourceReadDone job r s := rfl
@[simp] theorem exec_blockRead (s : State) :
    exec (.blockRead) s = execBlockRead s := rfl
@[simp] theorem exec_repairTake (s : State) :
    exec (.repairTake) s = execRepairTake s := rfl
@[simp] theorem exec_repairPlacement (s : State) :
    exec (.repairPlacement) s = execRepairPlacement s := rfl
@[simp] theorem exec_repairUpdate (s : State) :
    exec (.repairUpdate) s = execRepairUpdate s := rfl
@[simp] theorem exec_scrub (s : State) :
    exec (.scrub) s = execScrub s := rfl
@[simp] theorem exec_scrubSlotStep (s : State) :
    exec (.scrubSlotStep) s = execScrubSlotStep s := rfl
@[simp] theorem exec_scrubPlan (s : State) :
    exec (.scrubPlan) s = execScrubPlan s := rfl
@[simp] theorem exec_scrubFinalUpdate (s : State) :
    exec (.scrubFinalUpdate) s = execScrubFinalUpdate s := rfl
@[simp] theorem exec_tempPollTimerExpiry (d : Fin 4) (s : State) :
    exec (.tempPollTimerExpiry d) s = execTempPollTimerExpiry d s := rfl
@[simp] theorem exec_hotGraceExpiry (d : Fin 4) (s : State) :
    exec (.hotGraceExpiry d) s = execHotGraceExpiry d s := rfl
@[simp] theorem exec_decayTimerExpiry (d : Fin 4) (s : State) :
    exec (.decayTimerExpiry d) s = execDecayTimerExpiry d s := rfl
@[simp] theorem exec_supplySwitchOver (good : Bool) (s : State) :
    exec (.supplySwitchOver good) s = execSupplySwitchOver good s := rfl
@[simp] theorem exec_batteryLowChange (low : Bool) (s : State) :
    exec (.batteryLowChange low) s = execBatteryLowChange low s := rfl
@[simp] theorem exec_holdTimerExpiry (s : State) :
    exec (.holdTimerExpiry) s = execHoldTimerExpiry s := rfl
@[simp] theorem exec_drainTimerExpiry (s : State) :
    exec (.drainTimerExpiry) s = execDrainTimerExpiry s := rfl
@[simp] theorem exec_shutdownPhaseStep (s : State) :
    exec (.shutdownPhaseStep) s = execShutdownPhaseStep s := rfl
@[simp] theorem exec_sleep (s : State) :
    exec (.sleep) s = execSleep s := rfl
@[simp] theorem exec_sleepSequenceStep (s : State) :
    exec (.sleepSequenceStep) s = execSleepSequenceStep s := rfl
@[simp] theorem exec_consentTimerExpiry (s : State) :
    exec (.consentTimerExpiry) s = execConsentTimerExpiry s := rfl
@[simp] theorem exec_networkWake (s : State) :
    exec (.networkWake) s = execNetworkWake s := rfl
@[simp] theorem exec_buttonPress (s : State) :
    exec (.buttonPress) s = execButtonPress s := rfl
@[simp] theorem exec_hostRailStep (s : State) :
    exec (.hostRailStep) s = execHostRailStep s := rfl
@[simp] theorem exec_lossOfPower (s : State) :
    exec (.lossOfPower) s = execLossOfPower s := rfl

/-! ## Every command but two runs in the frame -/

/-- COLD_START and LOSS_OF_POWER act on the power of the part itself; every other command runs in the frame `run`. -/
theorem exec_in_frame (c : Instr) :
    (∃ p m l, c = .coldStart p m l) ∨ c = .lossOfPower ∨ ∃ f, ∀ s, exec c s = run s f := by
  match c with
  | .coldStart p m l => exact .inl ⟨p, m, l, rfl⟩
  | .lossOfPower => exact .inr (.inl rfl)
  | .setupAddrWrite v => exact .inr (.inr ⟨_, fun s => by rw [exec_setupAddrWrite, execSetupAddrWrite]⟩)
  | .setupBlockReadDone r => exact .inr (.inr ⟨_, fun s => by rw [exec_setupBlockReadDone, execSetupBlockReadDone]⟩)
  | .statusPageFullWriteDone => exact .inr (.inr ⟨_, fun s => by rw [exec_statusPageFullWriteDone, execStatusPageFullWriteDone]⟩)
  | .nudge v => exact .inr (.inr ⟨_, fun s => by rw [exec_nudge, execNudge]⟩)
  | .anchorLinkReadDone c r => exact .inr (.inr ⟨_, fun s => by rw [exec_anchorLinkReadDone, execAnchorLinkReadDone]⟩)
  | .jobRecordReadDone c r => exact .inr (.inr ⟨_, fun s => by rw [exec_jobRecordReadDone, execJobRecordReadDone]⟩)
  | .takenWriteDone c ok => exact .inr (.inr ⟨_, fun s => by rw [exec_takenWriteDone, execTakenWriteDone]⟩)
  | .chainPollTimerExpiry c => exact .inr (.inr ⟨_, fun s => by rw [exec_chainPollTimerExpiry, execChainPollTimerExpiry]⟩)
  | .hostReadTimeout r => exact .inr (.inr ⟨_, fun s => by rw [exec_hostReadTimeout, execHostReadTimeout]⟩)
  | .completionWriteDelivered job => exact .inr (.inr ⟨_, fun s => by rw [exec_completionWriteDelivered, execCompletionWriteDelivered]⟩)
  | .completionFault job => exact .inr (.inr ⟨_, fun s => by rw [exec_completionFault, execCompletionFault]⟩)
  | .statusPageWriteError => exact .inr (.inr ⟨_, fun s => by rw [exec_statusPageWriteError, execStatusPageWriteError]⟩)
  | .statusPageRewriteDone allDelivered => exact .inr (.inr ⟨_, fun s => by rw [exec_statusPageRewriteDone, execStatusPageRewriteDone]⟩)
  | .detach => exact .inr (.inr ⟨_, fun s => by rw [exec_detach, execDetach]⟩)
  | .engineReset => exact .inr (.inr ⟨_, fun s => by rw [exec_engineReset, execEngineReset]⟩)
  | .powerConsent => exact .inr (.inr ⟨_, fun s => by rw [exec_powerConsent, execPowerConsent]⟩)
  | .attnWrite v => exact .inr (.inr ⟨_, fun s => by rw [exec_attnWrite, execAttnWrite]⟩)
  | .attnEnWrite v => exact .inr (.inr ⟨_, fun s => by rw [exec_attnEnWrite, execAttnEnWrite]⟩)
  | .registerWriteIgnored offset width v => exact .inr (.inr ⟨_, fun s => by rw [exec_registerWriteIgnored, execRegisterWriteIgnored]⟩)
  | .configure => exact .inr (.inr ⟨_, fun s => by rw [exec_configure, execConfigure]⟩)
  | .configBlockReadDone r => exact .inr (.inr ⟨_, fun s => by rw [exec_configBlockReadDone, execConfigBlockReadDone]⟩)
  | .clockTick => exact .inr (.inr ⟨_, fun s => by rw [exec_clockTick, execClockTick]⟩)
  | .setClock => exact .inr (.inr ⟨_, fun s => by rw [exec_setClock, execSetClock]⟩)
  | .setAlarm => exact .inr (.inr ⟨_, fun s => by rw [exec_setAlarm, execSetAlarm]⟩)
  | .openStream => exact .inr (.inr ⟨_, fun s => by rw [exec_openStream, execOpenStream]⟩)
  | .feed => exact .inr (.inr ⟨_, fun s => by rw [exec_feed, execFeed]⟩)
  | .sourceReadDone n bytes => exact .inr (.inr ⟨_, fun s => by rw [exec_sourceReadDone, execSourceReadDone]⟩)
  | .sourceReadBusError n => exact .inr (.inr ⟨_, fun s => by rw [exec_sourceReadBusError, execSourceReadBusError]⟩)
  | .closeStream => exact .inr (.inr ⟨_, fun s => by rw [exec_closeStream, execCloseStream]⟩)
  | .resolution => exact .inr (.inr ⟨_, fun s => by rw [exec_resolution, execResolution]⟩)
  | .referenceWriteDone n ok => exact .inr (.inr ⟨_, fun s => by rw [exec_referenceWriteDone, execReferenceWriteDone]⟩)
  | .compareVerdict => exact .inr (.inr ⟨_, fun s => by rw [exec_compareVerdict, execCompareVerdict]⟩)
  | .writeOutcome => exact .inr (.inr ⟨_, fun s => by rw [exec_writeOutcome, execWriteOutcome]⟩)
  | .referenceRewriteDone n chunk ok => exact .inr (.inr ⟨_, fun s => by rw [exec_referenceRewriteDone, execReferenceRewriteDone]⟩)
  | .retain => exact .inr (.inr ⟨_, fun s => by rw [exec_retain, execRetain]⟩)
  | .release => exact .inr (.inr ⟨_, fun s => by rw [exec_release, execRelease]⟩)
  | .referenceListReadDone job r => exact .inr (.inr ⟨_, fun s => by rw [exec_referenceListReadDone, execReferenceListReadDone]⟩)
  | .retainReference => exact .inr (.inr ⟨_, fun s => by rw [exec_retainReference, execRetainReference]⟩)
  | .releaseReference => exact .inr (.inr ⟨_, fun s => by rw [exec_releaseReference, execReleaseReference]⟩)
  | .checkpoint => exact .inr (.inr ⟨_, fun s => by rw [exec_checkpoint, execCheckpoint]⟩)
  | .checkpointImageWriteBegin => exact .inr (.inr ⟨_, fun s => by rw [exec_checkpointImageWriteBegin, execCheckpointImageWriteBegin]⟩)
  | .load => exact .inr (.inr ⟨_, fun s => by rw [exec_load, execLoad]⟩)
  | .loadDrivesSettled => exact .inr (.inr ⟨_, fun s => by rw [exec_loadDrivesSettled, execLoadDrivesSettled]⟩)
  | .loadHeadersRead => exact .inr (.inr ⟨_, fun s => by rw [exec_loadHeadersRead, execLoadHeadersRead]⟩)
  | .loadImageReadDone => exact .inr (.inr ⟨_, fun s => by rw [exec_loadImageReadDone, execLoadImageReadDone]⟩)
  | .format => exact .inr (.inr ⟨_, fun s => by rw [exec_format, execFormat]⟩)
  | .formatDrivesSettled => exact .inr (.inr ⟨_, fun s => by rw [exec_formatDrivesSettled, execFormatDrivesSettled]⟩)
  | .formatWritesDone => exact .inr (.inr ⟨_, fun s => by rw [exec_formatWritesDone, execFormatWritesDone]⟩)
  | .driveControlStart => exact .inr (.inr ⟨_, fun s => by rw [exec_driveControlStart, execDriveControlStart]⟩)
  | .driveControlPark => exact .inr (.inr ⟨_, fun s => by rw [exec_driveControlPark, execDriveControlPark]⟩)
  | .driveControlPowerOff => exact .inr (.inr ⟨_, fun s => by rw [exec_driveControlPowerOff, execDriveControlPowerOff]⟩)
  | .clearFault => exact .inr (.inr ⟨_, fun s => by rw [exec_clearFault, execClearFault]⟩)
  | .adopt => exact .inr (.inr ⟨_, fun s => by rw [exec_adopt, execAdopt]⟩)
  | .adoptAction => exact .inr (.inr ⟨_, fun s => by rw [exec_adoptAction, execAdoptAction]⟩)
  | .resync => exact .inr (.inr ⟨_, fun s => by rw [exec_resync, execResync]⟩)
  | .operationOffer => exact .inr (.inr ⟨_, fun s => by rw [exec_operationOffer, execOperationOffer]⟩)
  | .commandAnswer d a => exact .inr (.inr ⟨_, fun s => by rw [exec_commandAnswer, execCommandAnswer]⟩)
  | .commandTimeout d => exact .inr (.inr ⟨_, fun s => by rw [exec_commandTimeout, execCommandTimeout]⟩)
  | .portResetAnswered d => exact .inr (.inr ⟨_, fun s => by rw [exec_portResetAnswered, execPortResetAnswered]⟩)
  | .portResetTimeout d => exact .inr (.inr ⟨_, fun s => by rw [exec_portResetTimeout, execPortResetTimeout]⟩)
  | .driveAnnounce d => exact .inr (.inr ⟨_, fun s => by rw [exec_driveAnnounce, execDriveAnnounce]⟩)
  | .startTimeout d => exact .inr (.inr ⟨_, fun s => by rw [exec_startTimeout, execStartTimeout]⟩)
  | .idleTimerExpiry d => exact .inr (.inr ⟨_, fun s => by rw [exec_idleTimerExpiry, execIdleTimerExpiry]⟩)
  | .railSample current present => exact .inr (.inr ⟨_, fun s => by rw [exec_railSample, execRailSample]⟩)
  | .railGraceExpiry d => exact .inr (.inr ⟨_, fun s => by rw [exec_railGraceExpiry, execRailGraceExpiry]⟩)
  | .fetch => exact .inr (.inr ⟨_, fun s => by rw [exec_fetch, execFetch]⟩)
  | .fetchListReadDone job r => exact .inr (.inr ⟨_, fun s => by rw [exec_fetchListReadDone, execFetchListReadDone]⟩)
  | .badReadReport => exact .inr (.inr ⟨_, fun s => by rw [exec_badReadReport, execBadReadReport]⟩)
  | .destinationWriteDone job ref ok => exact .inr (.inr ⟨_, fun s => by rw [exec_destinationWriteDone, execDestinationWriteDone]⟩)
  | .blockWrite => exact .inr (.inr ⟨_, fun s => by rw [exec_blockWrite, execBlockWrite]⟩)
  | .blockSourceReadDone job r => exact .inr (.inr ⟨_, fun s => by rw [exec_blockSourceReadDone, execBlockSourceReadDone]⟩)
  | .blockRead => exact .inr (.inr ⟨_, fun s => by rw [exec_blockRead, execBlockRead]⟩)
  | .repairTake => exact .inr (.inr ⟨_, fun s => by rw [exec_repairTake, execRepairTake]⟩)
  | .repairPlacement => exact .inr (.inr ⟨_, fun s => by rw [exec_repairPlacement, execRepairPlacement]⟩)
  | .repairUpdate => exact .inr (.inr ⟨_, fun s => by rw [exec_repairUpdate, execRepairUpdate]⟩)
  | .scrub => exact .inr (.inr ⟨_, fun s => by rw [exec_scrub, execScrub]⟩)
  | .scrubSlotStep => exact .inr (.inr ⟨_, fun s => by rw [exec_scrubSlotStep, execScrubSlotStep]⟩)
  | .scrubPlan => exact .inr (.inr ⟨_, fun s => by rw [exec_scrubPlan, execScrubPlan]⟩)
  | .scrubFinalUpdate => exact .inr (.inr ⟨_, fun s => by rw [exec_scrubFinalUpdate, execScrubFinalUpdate]⟩)
  | .tempPollTimerExpiry d => exact .inr (.inr ⟨_, fun s => by rw [exec_tempPollTimerExpiry, execTempPollTimerExpiry]⟩)
  | .hotGraceExpiry d => exact .inr (.inr ⟨_, fun s => by rw [exec_hotGraceExpiry, execHotGraceExpiry]⟩)
  | .decayTimerExpiry d => exact .inr (.inr ⟨_, fun s => by rw [exec_decayTimerExpiry, execDecayTimerExpiry]⟩)
  | .supplySwitchOver good => exact .inr (.inr ⟨_, fun s => by rw [exec_supplySwitchOver, execSupplySwitchOver]⟩)
  | .batteryLowChange low => exact .inr (.inr ⟨_, fun s => by rw [exec_batteryLowChange, execBatteryLowChange]⟩)
  | .holdTimerExpiry => exact .inr (.inr ⟨_, fun s => by rw [exec_holdTimerExpiry, execHoldTimerExpiry]⟩)
  | .drainTimerExpiry => exact .inr (.inr ⟨_, fun s => by rw [exec_drainTimerExpiry, execDrainTimerExpiry]⟩)
  | .shutdownPhaseStep => exact .inr (.inr ⟨_, fun s => by rw [exec_shutdownPhaseStep, execShutdownPhaseStep]⟩)
  | .sleep => exact .inr (.inr ⟨_, fun s => by rw [exec_sleep, execSleep]⟩)
  | .sleepSequenceStep => exact .inr (.inr ⟨_, fun s => by rw [exec_sleepSequenceStep, execSleepSequenceStep]⟩)
  | .consentTimerExpiry => exact .inr (.inr ⟨_, fun s => by rw [exec_consentTimerExpiry, execConsentTimerExpiry]⟩)
  | .networkWake => exact .inr (.inr ⟨_, fun s => by rw [exec_networkWake, execNetworkWake]⟩)
  | .buttonPress => exact .inr (.inr ⟨_, fun s => by rw [exec_buttonPress, execButtonPress]⟩)
  | .hostRailStep => exact .inr (.inr ⟨_, fun s => by rw [exec_hostRailStep, execHostRailStep]⟩)

end Sys2Proof.Machine
end

