-- ==== Sys2Proof/Laws/Frame.lean ====
section
/-! SUPPORT. What the frame of every command does: `finish`, `run`, the status page's writes, and a job's report. -/

namespace Sys2Proof.Machine

/-! ## The status page -/

/-- What the writes of one stage leave in a field: its new value, when it has one that differs (R17). -/
theorem lastWrite_pageDiff (old new : List PageField) {o : Nat} (ho : o ∈ pageOffsets) (b : List Byte) :
    lastWrite (pageDiff old new) o b = if pageAt new o ≠ [] ∧ pageAt new o ≠ pageAt old o then pageAt new o else b := by
  have key : ∀ (l : List Nat) (b : List Byte),
      lastWrite ((l.filter fun o => pageAt new o != [] && pageAt new o != pageAt old o).map fun o => (o, pageAt new o)) o b
        = if o ∈ l ∧ pageAt new o ≠ [] ∧ pageAt new o ≠ pageAt old o then pageAt new o else b := by
    intro l
    induction l with
    | nil => simp [lastWrite]
    | cons x l ih =>
      intro b
      by_cases hq : (pageAt new x != [] && pageAt new x != pageAt old x) = true
      · rw [List.filter_cons, if_pos hq]
        change lastWrite _ o (if x = o then pageAt new x else b) = _
        rw [ih]
        by_cases hx : x = o
        · subst hx
          simp at hq
          simp [hq]
        · simp [hx, Ne.symm hx]
      · rw [List.filter_cons, if_neg hq, ih]
        by_cases hx : x = o
        · subst hx
          simp at hq
          by_cases h0 : pageAt new x = []
          · simp [h0]
          · simp [hq h0]
        · simp [Ne.symm hx]
  rw [pageDiff, key]
  simp [ho]

theorem lastWrite_append (l m : List PageField) (o : Nat) (b : List Byte) :
    lastWrite (l ++ m) o b = lastWrite m o (lastWrite l o b) := by simp [lastWrite]

/-- The writes through any stages leave in a field that the last of them holds its value there, over the bytes of the stage
they began from. -/
theorem lastWrite_pageWrites {o : Nat} (ho : o ∈ pageOffsets) (l : List (List PageField)) (old last : List PageField) (b : List Byte)
    (hl : (old :: l).getLast? = some last) (hn : pageAt last o ≠ []) (hb : pageAt old o = pageAt last o → b = pageAt last o) :
    lastWrite (pageWrites old l) o b = pageAt last o := by
  induction l generalizing old b with
  | nil =>
    simp at hl
    subst hl
    exact hb rfl
  | cons new l ih =>
    rw [pageWrites, lastWrite_append, lastWrite_pageDiff old new ho]
    refine ih new _ (by simpa using hl) fun e => ?_
    split
    · exact e
    · rename_i h
      simp [e, hn] at h
      exact hb h.symm

/-! ## The end of a step -/

theorem finish_inner (s₀ s : State) : (finish s₀ s).inner = s.inner := rfl

/-! ## `run` -/

theorem run_powered {s : State} (h : s.powered = true) (f : State → State) :
    run s f = .next { finish s (f s.mute) with pending := s.pending } := by
  simp [run, h, State.mute]

theorem run_dark {s : State} (h : s.powered = false) (f : State → State) : run s f = .next s.mute := by
  simp [run, h, State.mute]

/-- A command whose meaning runs `f` in the frame ends as `f` leaves the state. -/
theorem run_ends {s : State} {c : Instr} {f : State → State} (e : exec c s = run s f) (h : s.powered = true) :
    Ends s c (f s.mute) := ⟨_, e.trans (run_powered h f), rfl, rfl, rfl, rfl⟩

/-- A command's meaning ends in what its body makes of the state without outputs. -/
theorem run_ends_of {s u : State} {c : Instr} {f : State → State} (x : exec c s = run s f) (h : s.powered = true)
    (e : f s.mute = u) : Ends s c u := e ▸ run_ends x h

/-- The fields of the page are part of what the part holds. -/
theorem State.stage_inner {u v : State} (h : u.inner = v.inner) : u.stage = v.stage := by
  have k : ∀ w : State, w.stage = w.inner.stage := fun w => rfl
  rw [k u, k v, h]

/-- `Ends` looks at the queue in neither state, and at the page's record only of a part that is DETACHED. -/
theorem Ends.congr {s u v : State} {c : Instr} (h : Ends s c u) (hi : u.inner = v.inner) (ho : u.out = v.out)
    (hp : u.link.attach = .detached → u.link.page = v.link.page) : Ends s c v := by
  obtain ⟨t, h1, h2, h3, h4, h5⟩ := h
  have hs : u.stages = v.stages := by rw [State.stages, State.stages, ho, State.stage_inner hi]
  have hl : u.link.attach = v.link.attach := by
    have := congrArg (fun w : State => w.link.attach) hi
    exact this
  have hm : u.message s.irq = v.message s.irq := by
    have k : ∀ w : State, w.message s.irq = w.inner.message s.irq := fun w => rfl
    rw [k u, k v, hi]
  refine ⟨t, h1, h2.trans hi, h3, by rw [h4, ho, hs, hm], ?_⟩
  rw [h5, State.pageNow, State.pageNow, hs, ← hl]
  split
  · rename_i e
    exact hp e
  · rfl

/-! ## A job's report -/

theorem State.complete_eq {s : State} {j : Job} {id : Nat} (h : s.job id = some j) (r : Result) :
    s.complete id r = (s.setPhase id (.writingResults r)).emit (.hostWrite (j.record + 48) r.bytes) := by
  simp [State.complete, h]

/-- A job in flight that completes from a state without outputs reports. -/
theorem State.complete_reports {s : State} {j : Job} (h : s.job j.id = some j) (r : Result) :
    s.mute.complete j.id r = s.reports j r := by
  have hm : s.mute.job j.id = some j := h
  rw [State.complete_eq hm]
  rfl

end Sys2Proof.Machine
end

