-- ==== Sys2Proof/Laws/Jobs.lean ====
section
/-! SUPPORT. What the shared operations over jobs and chains can do, each said once. -/

namespace Sys2Proof.Machine

/-! ## Jobs -/

theorem State.job_id {s : State} {id : Nat} {j : Job} (h : s.job id = some j) : j.id = id := by
  simpa using List.find?_some h

theorem State.job_setPhase {s : State} {id : Nat} {j : Job} (h : s.job id = some j) (p : JobPhase) :
    (s.setPhase id p).job id = some { j with phase := p } := by
  simp only [State.job, State.setPhase] at *
  generalize s.jobs = l at *
  induction l with
  | nil => cases h
  | cons a l ih =>
    simp only [List.map_cons, List.find?_cons] at *
    by_cases e : a.id = id
    · simp only [e, if_true, beq_self_eq_true] at h ⊢
      cases h
      simp [e]
    · have e2 : (a.id == id) = false := by simp [e]
      simp only [e, if_false, e2] at h ⊢
      exact ih h

/-- The last progress said of a job stands. -/
theorem State.setPhase_setPhase (s : State) (id : Nat) (p q : JobPhase) : (s.setPhase id p).setPhase id q = s.setPhase id q := by
  simp only [State.setPhase, List.map_map]
  congr 2
  funext k
  simp only [Function.comp]
  split <;> simp_all

/-- A job that is not in the part reports nothing. -/
theorem State.complete_none {s : State} {id : Nat} (h : s.job id = none) (r : Result) : s.complete id r = s := by
  simp [State.complete, h]

/-- The job that a command of a chain carries out is one that waits for it. -/
theorem State.dispatched_phase {s : State} {c : Fin 4} {j : Job} (h : s.dispatched c = some j) :
    j.chain = c ∧ j.phase = .dispatched ∧ j ∈ s.jobs := by
  refine ⟨?_, ?_, List.mem_of_find?_eq_some h⟩ <;> have := List.find?_some h <;> simp at this
  · exact this.1
  · exact this.2

/-- The jobs that count a drive's start failures (R151). -/
theorem Job.powers_iff {j : Job} {d : Fin 4} :
    j.powers d = true ↔ j.req = .driveControl d.val 1 ∨ j.req = .driveControl d.val 2 ∨ j.req = .driveControl d.val 3 := by
  simp [Job.powers]

/-! ## Take attempts -/

/-- A take attempt at an anchor that R4 admits issues its link read. -/
theorem State.takeAttempt_good {s : State} {c : Fin 4} (h : goodAddr 64 s.chains[c].anchor = true) :
    s.takeAttempt c =
      (s.modChain c fun x => { x with take := .linkRead, poll := none, again := none, faultedMeanwhile := false }).emit
        (.hostRead s.chains[c].anchor 8) := by
  simp only [State.takeAttempt, h, if_true]

/-- Any other anchor makes the chain FAULTED. -/
theorem State.takeAttempt_bad {s : State} {c : Fin 4} (h : goodAddr 64 s.chains[c].anchor = false) :
    s.takeAttempt c = s.faultChain c := by
  simp only [State.takeAttempt, h, Bool.false_eq_true, if_false]

/-- All that `tryTake` does: a take attempt when the chain may make one, else nothing. -/
theorem State.tryTake_cases (s : State) (c : Fin 4) :
    (s.chains[c].st = .running ∧ s.chains[c].inFlight < chainLimit c ∧ s.chains[c].take = .idle ∧ s.tryTake c = s.takeAttempt c) ∨
      (¬(s.chains[c].st = .running ∧ s.chains[c].inFlight < chainLimit c ∧ s.chains[c].take = .idle) ∧ s.tryTake c = s) := by
  by_cases h : s.chains[c].st = .running ∧ s.chains[c].inFlight < chainLimit c ∧ s.chains[c].take = .idle
  · exact .inl ⟨h.1, h.2.1, h.2.2, if_pos h⟩
  · exact .inr ⟨h, if_neg h⟩

/-! ## Detaching -/

/-- All that `detachIfIdle` does: DETACHED once nothing is in flight, else nothing. -/
theorem State.detachIfIdle_cases (s : State) :
    (s.link.attach = .detaching ∧ s.noneInFlight = true ∧ s.detachIfIdle = s.note.detachNow) ∨
      (¬(s.link.attach = .detaching ∧ s.noneInFlight = true) ∧ s.detachIfIdle = s) := by
  by_cases h : s.link.attach = .detaching ∧ s.noneInFlight = true
  · exact .inl ⟨h.1, h.2, if_pos h⟩
  · exact .inr ⟨h, if_neg h⟩

/-- A part that is DETACHED stays as it is. -/
theorem State.detach_detached {s : State} (h : s.link.attach = .detached) : s.detach = s ∧ s.stop = s := by
  simp [State.detach, State.stop, h]

end Sys2Proof.Machine
end

