-- ==== Sys2Proof/Laws/PerInstr.lean ====
section
/-! SUPPORT. The family Shape: what a well-formed command carries in from outside has a bound, for each constructor. -/

namespace Sys2Proof

/-- The bytes that an answer delivers. -/
def Answer.size : Answer → Nat
  | .done data _ => data.length
  | .mediaError | .otherError => 0

/-- The bytes that a command carries in from outside. -/
def Instr.payload : Instr → Nat
  | .setupBlockReadDone r => (r.map List.length).getD 0
  | .jobRecordReadDone _ r => (r.map List.length).getD 0
  | .anchorLinkReadDone _ r => (r.map List.length).getD 0
  | .configBlockReadDone r => (r.map List.length).getD 0
  | .sourceReadDone _ bytes => bytes.length
  | .referenceListReadDone _ r => (r.map List.length).getD 0
  | .commandAnswer _ a => a.size
  | .fetchListReadDone _ r => (r.map List.length).getD 0
  | .blockSourceReadDone _ r => (r.map List.length).getD 0
  | .coldStart _ _ _ | .setupAddrWrite _ | .statusPageFullWriteDone | .nudge _
  | .takenWriteDone _ _ | .chainPollTimerExpiry _ | .hostReadTimeout _ | .completionWriteDelivered _ | .completionFault _
  | .statusPageWriteError | .statusPageRewriteDone _ | .detach | .engineReset | .powerConsent | .attnWrite _
  | .attnEnWrite _ | .registerWriteIgnored _ _ _ | .configure | .clockTick | .setClock | .setAlarm | .openStream | .feed
  | .sourceReadBusError _ | .closeStream | .resolution | .referenceWriteDone _ _ | .compareVerdict | .writeOutcome
  | .referenceRewriteDone _ _ _ | .retain | .release | .retainReference | .releaseReference | .checkpoint
  | .checkpointImageWriteBegin | .load | .loadDrivesSettled | .loadHeadersRead | .loadImageReadDone | .format
  | .formatDrivesSettled | .formatWritesDone | .driveControlStart | .driveControlPark | .driveControlPowerOff | .clearFault
  | .adopt | .adoptAction | .resync | .operationOffer | .commandTimeout _ | .portResetAnswered _ | .portResetTimeout _
  | .driveAnnounce _ | .startTimeout _ | .idleTimerExpiry _ | .railSample _ _ | .railGraceExpiry _ | .fetch | .badReadReport
  | .destinationWriteDone _ _ _ | .blockWrite | .blockRead | .repairTake | .repairPlacement | .repairUpdate | .scrub
  | .scrubSlotStep | .scrubPlan | .scrubFinalUpdate | .tempPollTimerExpiry _ | .hotGraceExpiry _ | .decayTimerExpiry _
  | .supplySwitchOver _ | .batteryLowChange _ | .holdTimerExpiry | .drainTimerExpiry | .shutdownPhaseStep | .sleep
  | .sleepSequenceStep | .consentTimerExpiry | .networkWake | .buttonPress | .hostRailStep | .lossOfPower => 0

theorem payload_of_length {n : Nat} {r : Option (List Byte)} (h : readOfLength n r = true) : (r.map List.length).getD 0 ≤ n := by
  cases r with
  | none => exact Nat.zero_le n
  | some b => simpa [readOfLength] using Nat.le_of_eq (by simpa [readOfLength] using h)

theorem Answer.size_of_fits {a : Answer} (h : answerFits a = true) : a.size ≤ 64 * 4096 := by
  cases a with
  | done data v => exact of_decide_eq_true h
  | mediaError => exact Nat.zero_le _
  | otherError => exact Nat.zero_le _

/-- A well-formed command carries no more bytes than the longest source buffer has (R50). -/
def Laws.Shape.Statement (i : Instr) : Prop := i.wf = true → i.payload ≤ 2147483647

theorem Laws.Shape.coldStart (present : BitVec 4) (mainsGood battLow : Bool) : Statement (.coldStart present mainsGood battLow) := fun _ => Nat.zero_le _
theorem Laws.Shape.setupAddrWrite (v : BitVec 64) : Statement (.setupAddrWrite v) := fun _ => Nat.zero_le _
theorem Laws.Shape.setupBlockReadDone (r : Option (List Byte)) : Statement (.setupBlockReadDone r) := fun h => Nat.le_trans (payload_of_length h) (by decide)
theorem Laws.Shape.statusPageFullWriteDone : Statement .statusPageFullWriteDone := fun _ => Nat.zero_le _
theorem Laws.Shape.nudge (v : BitVec 64) : Statement (.nudge v) := fun _ => Nat.zero_le _
theorem Laws.Shape.anchorLinkReadDone (c : Fin 4) (r : Option (List Byte)) : Statement (.anchorLinkReadDone c r) := fun h => Nat.le_trans (payload_of_length h) (by decide)
theorem Laws.Shape.jobRecordReadDone (c : Fin 4) (r : Option (List Byte)) : Statement (.jobRecordReadDone c r) := fun h => Nat.le_trans (payload_of_length h) (by decide)
theorem Laws.Shape.takenWriteDone (c : Fin 4) (ok : Bool) : Statement (.takenWriteDone c ok) := fun _ => Nat.zero_le _
theorem Laws.Shape.chainPollTimerExpiry (c : Fin 4) : Statement (.chainPollTimerExpiry c) := fun _ => Nat.zero_le _
theorem Laws.Shape.hostReadTimeout (r : HostRead) : Statement (.hostReadTimeout r) := fun _ => Nat.zero_le _
theorem Laws.Shape.completionWriteDelivered (job : Nat) : Statement (.completionWriteDelivered job) := fun _ => Nat.zero_le _
theorem Laws.Shape.completionFault (job : Nat) : Statement (.completionFault job) := fun _ => Nat.zero_le _
theorem Laws.Shape.statusPageWriteError : Statement .statusPageWriteError := fun _ => Nat.zero_le _
theorem Laws.Shape.statusPageRewriteDone (allDelivered : Bool) : Statement (.statusPageRewriteDone allDelivered) := fun _ => Nat.zero_le _
theorem Laws.Shape.detach : Statement .detach := fun _ => Nat.zero_le _
theorem Laws.Shape.engineReset : Statement .engineReset := fun _ => Nat.zero_le _
theorem Laws.Shape.powerConsent : Statement .powerConsent := fun _ => Nat.zero_le _
theorem Laws.Shape.attnWrite (v : BitVec 64) : Statement (.attnWrite v) := fun _ => Nat.zero_le _
theorem Laws.Shape.attnEnWrite (v : BitVec 64) : Statement (.attnEnWrite v) := fun _ => Nat.zero_le _
theorem Laws.Shape.registerWriteIgnored (offset width : Nat) (v : BitVec 64) : Statement (.registerWriteIgnored offset width v) := fun _ => Nat.zero_le _
theorem Laws.Shape.configure : Statement .configure := fun _ => Nat.zero_le _
theorem Laws.Shape.configBlockReadDone (r : Option (List Byte)) : Statement (.configBlockReadDone r) := fun h => Nat.le_trans (payload_of_length h) (by decide)
theorem Laws.Shape.clockTick : Statement .clockTick := fun _ => Nat.zero_le _
theorem Laws.Shape.setClock : Statement .setClock := fun _ => Nat.zero_le _
theorem Laws.Shape.setAlarm : Statement .setAlarm := fun _ => Nat.zero_le _
theorem Laws.Shape.openStream : Statement .openStream := fun _ => Nat.zero_le _
theorem Laws.Shape.feed : Statement .feed := fun _ => Nat.zero_le _
theorem Laws.Shape.sourceReadDone (n : Fin 8) (bytes : List Byte) : Statement (.sourceReadDone n bytes) := fun h => of_decide_eq_true h
theorem Laws.Shape.sourceReadBusError (n : Fin 8) : Statement (.sourceReadBusError n) := fun _ => Nat.zero_le _
theorem Laws.Shape.closeStream : Statement .closeStream := fun _ => Nat.zero_le _
theorem Laws.Shape.resolution : Statement .resolution := fun _ => Nat.zero_le _
theorem Laws.Shape.referenceWriteDone (n : Fin 8) (ok : Bool) : Statement (.referenceWriteDone n ok) := fun _ => Nat.zero_le _
theorem Laws.Shape.compareVerdict : Statement .compareVerdict := fun _ => Nat.zero_le _
theorem Laws.Shape.writeOutcome : Statement .writeOutcome := fun _ => Nat.zero_le _
theorem Laws.Shape.referenceRewriteDone (n : Fin 8) (chunk : Nat) (ok : Bool) : Statement (.referenceRewriteDone n chunk ok) := fun _ => Nat.zero_le _
theorem Laws.Shape.retain : Statement .retain := fun _ => Nat.zero_le _
theorem Laws.Shape.release : Statement .release := fun _ => Nat.zero_le _
theorem Laws.Shape.referenceListReadDone (job : Nat) (r : Option (List Byte)) : Statement (.referenceListReadDone job r) := by
  intro h
  cases r with
  | none => exact Nat.zero_le _
  | some b =>
    simp only [Instr.wf, Bool.and_eq_true, decide_eq_true_iff] at h
    exact Nat.le_trans h.2 (by decide)
theorem Laws.Shape.retainReference : Statement .retainReference := fun _ => Nat.zero_le _
theorem Laws.Shape.releaseReference : Statement .releaseReference := fun _ => Nat.zero_le _
theorem Laws.Shape.checkpoint : Statement .checkpoint := fun _ => Nat.zero_le _
theorem Laws.Shape.checkpointImageWriteBegin : Statement .checkpointImageWriteBegin := fun _ => Nat.zero_le _
theorem Laws.Shape.load : Statement .load := fun _ => Nat.zero_le _
theorem Laws.Shape.loadDrivesSettled : Statement .loadDrivesSettled := fun _ => Nat.zero_le _
theorem Laws.Shape.loadHeadersRead : Statement .loadHeadersRead := fun _ => Nat.zero_le _
theorem Laws.Shape.loadImageReadDone : Statement .loadImageReadDone := fun _ => Nat.zero_le _
theorem Laws.Shape.format : Statement .format := fun _ => Nat.zero_le _
theorem Laws.Shape.formatDrivesSettled : Statement .formatDrivesSettled := fun _ => Nat.zero_le _
theorem Laws.Shape.formatWritesDone : Statement .formatWritesDone := fun _ => Nat.zero_le _
theorem Laws.Shape.driveControlStart : Statement .driveControlStart := fun _ => Nat.zero_le _
theorem Laws.Shape.driveControlPark : Statement .driveControlPark := fun _ => Nat.zero_le _
theorem Laws.Shape.driveControlPowerOff : Statement .driveControlPowerOff := fun _ => Nat.zero_le _
theorem Laws.Shape.clearFault : Statement .clearFault := fun _ => Nat.zero_le _
theorem Laws.Shape.adopt : Statement .adopt := fun _ => Nat.zero_le _
theorem Laws.Shape.adoptAction : Statement .adoptAction := fun _ => Nat.zero_le _
theorem Laws.Shape.resync : Statement .resync := fun _ => Nat.zero_le _
theorem Laws.Shape.operationOffer : Statement .operationOffer := fun _ => Nat.zero_le _
theorem Laws.Shape.commandAnswer (d : Fin 4) (a : Answer) : Statement (.commandAnswer d a) := fun h => Nat.le_trans (Answer.size_of_fits h) (by decide)
theorem Laws.Shape.commandTimeout (d : Fin 4) : Statement (.commandTimeout d) := fun _ => Nat.zero_le _
theorem Laws.Shape.portResetAnswered (d : Fin 4) : Statement (.portResetAnswered d) := fun _ => Nat.zero_le _
theorem Laws.Shape.portResetTimeout (d : Fin 4) : Statement (.portResetTimeout d) := fun _ => Nat.zero_le _
theorem Laws.Shape.driveAnnounce (d : Fin 4) : Statement (.driveAnnounce d) := fun _ => Nat.zero_le _
theorem Laws.Shape.startTimeout (d : Fin 4) : Statement (.startTimeout d) := fun _ => Nat.zero_le _
theorem Laws.Shape.idleTimerExpiry (d : Fin 4) : Statement (.idleTimerExpiry d) := fun _ => Nat.zero_le _
theorem Laws.Shape.railSample (current : Vector Nat 4) (present : BitVec 4) : Statement (.railSample current present) := fun _ => Nat.zero_le _
theorem Laws.Shape.railGraceExpiry (d : Fin 4) : Statement (.railGraceExpiry d) := fun _ => Nat.zero_le _
theorem Laws.Shape.fetch : Statement .fetch := fun _ => Nat.zero_le _
theorem Laws.Shape.fetchListReadDone (job : Nat) (r : Option (List Byte)) : Statement (.fetchListReadDone job r) := by
  intro h
  cases r with
  | none => exact Nat.zero_le _
  | some b =>
    simp only [Instr.wf, Bool.and_eq_true, decide_eq_true_iff] at h
    exact Nat.le_trans h.2 (by decide)
theorem Laws.Shape.badReadReport : Statement .badReadReport := fun _ => Nat.zero_le _
theorem Laws.Shape.destinationWriteDone (job ref : Nat) (ok : Bool) : Statement (.destinationWriteDone job ref ok) := fun _ => Nat.zero_le _
theorem Laws.Shape.blockWrite : Statement .blockWrite := fun _ => Nat.zero_le _
theorem Laws.Shape.blockSourceReadDone (job : Nat) (r : Option (List Byte)) : Statement (.blockSourceReadDone job r) := by
  intro h
  cases r with
  | none => exact Nat.zero_le _
  | some b =>
    simp only [Instr.wf, Bool.and_eq_true, decide_eq_true_iff] at h
    exact Nat.le_trans h.2 (by decide)
theorem Laws.Shape.blockRead : Statement .blockRead := fun _ => Nat.zero_le _
theorem Laws.Shape.repairTake : Statement .repairTake := fun _ => Nat.zero_le _
theorem Laws.Shape.repairPlacement : Statement .repairPlacement := fun _ => Nat.zero_le _
theorem Laws.Shape.repairUpdate : Statement .repairUpdate := fun _ => Nat.zero_le _
theorem Laws.Shape.scrub : Statement .scrub := fun _ => Nat.zero_le _
theorem Laws.Shape.scrubSlotStep : Statement .scrubSlotStep := fun _ => Nat.zero_le _
theorem Laws.Shape.scrubPlan : Statement .scrubPlan := fun _ => Nat.zero_le _
theorem Laws.Shape.scrubFinalUpdate : Statement .scrubFinalUpdate := fun _ => Nat.zero_le _
theorem Laws.Shape.tempPollTimerExpiry (d : Fin 4) : Statement (.tempPollTimerExpiry d) := fun _ => Nat.zero_le _
theorem Laws.Shape.hotGraceExpiry (d : Fin 4) : Statement (.hotGraceExpiry d) := fun _ => Nat.zero_le _
theorem Laws.Shape.decayTimerExpiry (d : Fin 4) : Statement (.decayTimerExpiry d) := fun _ => Nat.zero_le _
theorem Laws.Shape.supplySwitchOver (good : Bool) : Statement (.supplySwitchOver good) := fun _ => Nat.zero_le _
theorem Laws.Shape.batteryLowChange (low : Bool) : Statement (.batteryLowChange low) := fun _ => Nat.zero_le _
theorem Laws.Shape.holdTimerExpiry : Statement .holdTimerExpiry := fun _ => Nat.zero_le _
theorem Laws.Shape.drainTimerExpiry : Statement .drainTimerExpiry := fun _ => Nat.zero_le _
theorem Laws.Shape.shutdownPhaseStep : Statement .shutdownPhaseStep := fun _ => Nat.zero_le _
theorem Laws.Shape.sleep : Statement .sleep := fun _ => Nat.zero_le _
theorem Laws.Shape.sleepSequenceStep : Statement .sleepSequenceStep := fun _ => Nat.zero_le _
theorem Laws.Shape.consentTimerExpiry : Statement .consentTimerExpiry := fun _ => Nat.zero_le _
theorem Laws.Shape.networkWake : Statement .networkWake := fun _ => Nat.zero_le _
theorem Laws.Shape.buttonPress : Statement .buttonPress := fun _ => Nat.zero_le _
theorem Laws.Shape.hostRailStep : Statement .hostRailStep := fun _ => Nat.zero_le _
theorem Laws.Shape.lossOfPower : Statement .lossOfPower := fun _ => Nat.zero_le _

end Sys2Proof
end

