-- ==== Sys2Proof/Laws/Requests.lean ====
section
/-! SUPPORT. What the Catalogue Engine's and the Chunker's shared operations can do, each said once. -/

namespace Sys2Proof.Machine

/-! ## Requests -/

theorem State.afterCkpt_same {u s : State} (h : u.engine.ckpt = s.engine.ckpt) : u.afterCkpt s = u := by
  simp only [State.afterCkpt, h]
  split
  · rename_i q
    simp [Option.isNone_iff_eq_none.mp q.2] at q
  · rfl

theorem State.afterCkpt_congr {u s t : State} (h : s.engine.ckpt = t.engine.ckpt) : u.afterCkpt s = u.afterCkpt t := by
  simp only [State.afterCkpt, h]

/-- With no hold, a row whose request is the oldest takes it (R80). -/
theorem State.takeIf_oldest {s : State} {q : CatReq} {l : List CatReq} {p : CatReq → Bool} (h : s.engine.requests = q :: l)
    (hp : p q = true) (hh : s.engine.hold = none) :
    s.mute.takeIf p = (State.takeRequest { s with engine := { s.engine with requests := l }, out := {} } q).afterCkpt s := by
  simp [State.takeIf, h, hp, State.takeHead, State.modEngine, hh]
  exact State.afterCkpt_congr rfl

/-- While a hold stands, the request joins the held list (R87). -/
theorem State.takeIf_held {s : State} {q : CatReq} {l : List CatReq} {p : CatReq → Bool} (h : s.engine.requests = q :: l)
    (hp : p q = true) (hh : s.engine.hold.isSome = true) :
    s.mute.takeIf p = { s with engine := { s.engine with requests := l, held := s.engine.held ++ [q] }, out := {} } := by
  simp [State.takeIf, h, hp, State.takeHead, State.modEngine, hh]
  exact State.afterCkpt_same rfl

/-- A row whose request is not the oldest does nothing. -/
theorem State.takeIf_other {s : State} {p : CatReq → Bool} (h : ∀ q l, s.engine.requests = q :: l → p q = false) : s.takeIf p = s := by
  simp only [State.takeIf]
  split
  · rename_i q l e
    simp [h q l e]
  · rfl

/-! ## Chunks -/

theorem State.chunk_modChunk {s : State} {n : Fin 8} {id : Nat} {c : Chunk} (h : s.chunk n id = some c) (f : Chunk → Chunk)
    (hf : ∀ x, (f x).id = x.id) : (s.modChunk n id f).chunk n id = some (f c) := by
  simp only [State.chunk, State.modChunk, State.modStream, Fin.getElem_fin, Vector.getElem_set_self] at *
  generalize s.streams[n.val].window = l at *
  induction l with
  | nil => cases h
  | cons a l ih =>
    simp only [List.map_cons, List.find?_cons] at *
    by_cases e : a.id = id
    · simp only [e, if_true, beq_self_eq_true] at h ⊢
      cases h
      simp [e, hf]
    · have e2 : (a.id == id) = false := by simp [e]
      simp only [e, if_false, e2] at h ⊢
      exact ih h

theorem State.modChunk_modChunk {s : State} {n : Fin 8} {id : Nat} {f g : Chunk → Chunk} (hf : ∀ x, (f x).id = x.id) :
    (s.modChunk n id f).modChunk n id g = s.modChunk n id fun c => g (f c) := by
  simp only [State.modChunk, State.modStream]
  simp [List.map_map]
  congr 2
  congr 1
  funext c
  simp only [Function.comp]
  split <;> simp_all

/-! ## Repair writes -/

/-- A repair write is a sleep's end exactly when it ends NOT_READY in a box sequence or in SLEEP (R167). -/
theorem State.repairWritten_asleep {s : State} {r : OpOutcome} :
    s.repairWritten r = .asleep ↔ r = .notReady ∧ (s.box.seq.isSome = true ∨ s.box.st = .sleep) := by
  unfold State.repairWritten
  split
  · rename_i h
    exact iff_of_true rfl h
  · rename_i h
    exact iff_of_false (by cases r <;> simp [OpOutcome.write]; split <;> simp) h

/-- The slot holds the key and the copy at the location (R80). -/
theorem Cat.holdsCopy_iff {c : Cat} {slot : Nat} {k : Key} {n : CopyName} {l : Loc} :
    c.holdsCopy slot k n l = true
      ↔ ∃ e x, c.entry slot = some e ∧ e.key = k ∧ e.copy n = some x ∧ x.loc = l ∧ x.st ≠ .absent := by
  unfold Cat.holdsCopy
  cases c.entry slot with
  | none => simp
  | some e => cases h : e.copy n <;> simp [h]

/-- All that the check of a repair update asks (R167, R94): the copy stands, and the copies kept are on other drives. -/
theorem Cat.checkRepair_iff {c : Cat} {e : RepairEntry} {l : Loc} {x : Entry} :
    c.checkRepair e l = some x ↔ c.standing e.slot e.key e.copy e.loc = some x ∧ l.drive ∉ x.keptDrives e.copy := by
  simp only [Cat.checkRepair, Option.filter_eq_some_iff]
  simp

/-- The drive of the other copy is the one that an entry keeps beside copy `k`. -/
theorem Entry.mem_keptDrives {e : Entry} {k : CopyName} {d : Fin 4} :
    d ∈ e.keptDrives k ↔ ∃ x, e.copy k.other = some x ∧ x.loc.drive = d := by
  cases k <;> rcases e with ⟨_, _, _, _, a, b, _⟩ <;> cases b <;>
    simp [Entry.keptDrives, Entry.copies, Entry.copy, CopyName.other, eq_comm (a := d)]

/-- No copy that a scrub step found has moved (R173). -/
theorem ScrubStep.unmoved_iff {p : ScrubStep} {e : Entry} :
    p.unmoved e = true ↔ ∀ x ∈ p.copies, ∃ y, e.copy x.copy = some y ∧ y.loc = x.loc := by
  simp [ScrubStep.unmoved, Option.any_eq_true]

/-! ## The hold -/

/-- All that becomes of a hold that may be nobody's: it stays or ends, and while none stands a RESYNC that waits first begins. -/
theorem State.dropStaleHold_cases (s : State) :
    s.dropStaleHold = s
      ∨ ((s.engine.hold = some .checkpoint ∨ s.engine.hold = some .adopt) ∧ s.dropStaleHold = s.releaseHold)
      ∨ (s.engine.hold = none ∧ s.engine.holdQueue.head? = some .resync ∧ s.dropStaleHold = s.beginResync) := by
  unfold State.dropStaleHold
  split
  · rename_i h
    split
    · exact .inr (.inl ⟨.inl h, rfl⟩)
    · exact .inl rfl
  · rename_i h
    split
    · exact .inl rfl
    · exact .inr (.inl ⟨.inr h, rfl⟩)
  · exact .inl rfl
  · rename_i h
    split
    · rename_i m
      exact .inr (.inr ⟨h, by simpa [State.mayHold, h] using m, rfl⟩)
    · exact .inl rfl

/-! ## Settling a stream -/

/-- A stream's list with nothing to advance ends the settling. -/
theorem State.settleLoop_stop {k : Nat} {n : Fin 8} {s : State} (h : (s.streamWork n).listAdvance n = none) :
    s.settleLoop (k + 1) n = s.streamWork n := by
  simp only [State.settleLoop, h]

/-- One advance of a stream's list, and the settling goes on. -/
theorem State.settleLoop_go {k : Nat} {n : Fin 8} {s u : State} (h : (s.streamWork n).listAdvance n = some u) :
    s.settleLoop (k + 1) n = u.settleLoop k n := by
  simp only [State.settleLoop, h]

end Sys2Proof.Machine
end

