-- ==== Sys2Proof/Laws/Tables.lean ====
section
/-! SUPPORT. Sparse tables: reads after writes, and the writes keep the numbers strictly rising. -/

namespace Sys2Proof.Machine

variable {α : Type}

/-- Every number of a table lies above `k`. -/
def tabAbove (k : Nat) (l : List (Nat × α)) : Prop := ∀ p ∈ l, k < p.1

theorem tabSorted_cons (i : Nat) (v : α) (l : List (Nat × α)) :
    tabSorted ((i, v) :: l) = true ↔ tabAbove i l ∧ tabSorted l = true := by
  induction l generalizing i v with
  | nil => simp [tabSorted, tabAbove]
  | cons p l ih =>
    obtain ⟨j, w⟩ := p
    rw [tabSorted, Bool.and_eq_true, decide_eq_true_iff, ih]
    constructor
    · rintro ⟨h, ha, hs⟩
      refine ⟨fun p hp => ?_, ha, hs⟩
      rcases List.mem_cons.mp hp with rfl | hp
      · exact h
      · exact Nat.lt_trans h (ha p hp)
    · rintro ⟨h, ha, hs⟩
      exact ⟨h _ (List.mem_cons_self ..), ha, hs⟩

/-! ## Reads after writes -/

theorem tabGet_put (l : List (Nat × α)) (k i : Nat) (v : α) (h : tabSorted l = true) :
    tabGet (tabPut l k v) i = if i = k then some v else tabGet l i := by
  induction l with
  | nil => simp only [tabPut, tabGet, eq_comm]
  | cons p l ih =>
    obtain ⟨j, w⟩ := p
    have hs := ((tabSorted_cons j w l).mp h).2
    simp only [tabPut]
    split
    · simp only [tabGet, eq_comm]
    · split
      · rename_i hk
        subst hk
        simp only [tabGet]
        by_cases e : k = i
        · simp [e]
        · simp [e, Ne.symm e]
      · rename_i h1 h2
        simp only [tabGet, ih hs]
        by_cases e : j = i
        · subst e
          simp [Ne.symm h2]
        · simp [e]

theorem tabGet_erase (l : List (Nat × α)) (k i : Nat) : tabGet (tabErase l k) i = if i = k then none else tabGet l i := by
  induction l with
  | nil => simp [tabErase, tabGet]
  | cons p l ih =>
    obtain ⟨j, w⟩ := p
    simp only [tabErase]
    split
    · rename_i e
      subst e
      rw [ih]
      simp only [tabGet]
      by_cases e : i = j
      · simp [e]
      · simp [e, Ne.symm e]
    · rename_i e
      simp only [tabGet, ih]
      by_cases e2 : j = i
      · subst e2
        simp [e]
      · simp [e2]

/-! ## The canonical order -/

theorem tabAbove_put {l : List (Nat × α)} {i k : Nat} {v : α} (h : tabAbove i l) (hk : i < k) : tabAbove i (tabPut l k v) := by
  induction l with
  | nil => intro p hp; simp only [tabPut, List.mem_singleton] at hp; subst hp; exact hk
  | cons q l ih =>
    obtain ⟨j, w⟩ := q
    have hj : i < j := h _ (List.mem_cons_self ..)
    have hl : tabAbove i l := fun p hp => h p (List.mem_cons_of_mem _ hp)
    intro p hp
    simp only [tabPut] at hp
    split at hp
    · rcases List.mem_cons.mp hp with rfl | hp
      · exact hk
      · exact h p hp
    · split at hp
      · rcases List.mem_cons.mp hp with rfl | hp
        · exact hk
        · exact hl p hp
      · rcases List.mem_cons.mp hp with rfl | hp
        · exact hj
        · exact ih hl p hp

theorem tabSorted_put (l : List (Nat × α)) (k : Nat) (v : α) (h : tabSorted l = true) : tabSorted (tabPut l k v) = true := by
  induction l with
  | nil => rfl
  | cons p l ih =>
    obtain ⟨j, w⟩ := p
    have hc := (tabSorted_cons j w l).mp h
    simp only [tabPut]
    split
    · rename_i hk
      refine (tabSorted_cons ..).mpr ⟨fun p hp => ?_, h⟩
      rcases List.mem_cons.mp hp with rfl | hp
      · exact hk
      · exact Nat.lt_trans hk (hc.1 p hp)
    · split
      · rename_i hk
        subst hk
        exact (tabSorted_cons ..).mpr hc
      · exact (tabSorted_cons ..).mpr ⟨tabAbove_put hc.1 (by omega), ih hc.2⟩

/-- What an erasure leaves was there, under another number. -/
theorem mem_tabErase {l : List (Nat × α)} {k : Nat} {p : Nat × α} (h : p ∈ tabErase l k) : p ∈ l ∧ p.1 ≠ k := by
  induction l with
  | nil => cases h
  | cons q l ih =>
    obtain ⟨j, w⟩ := q
    simp only [tabErase] at h
    split at h
    · exact ⟨List.mem_cons_of_mem _ (ih h).1, (ih h).2⟩
    · rename_i e
      rcases List.mem_cons.mp h with rfl | h
      · exact ⟨List.mem_cons_self .., e⟩
      · exact ⟨List.mem_cons_of_mem _ (ih h).1, (ih h).2⟩

/-- What an entry put leaves was there, or is the entry put. -/
theorem mem_tabPut {l : List (Nat × α)} {k : Nat} {v : α} {p : Nat × α} (h : p ∈ tabPut l k v) : p = (k, v) ∨ p ∈ l := by
  induction l with
  | nil => simp only [tabPut, List.mem_singleton] at h; exact Or.inl h
  | cons q l ih =>
    obtain ⟨j, w⟩ := q
    simp only [tabPut] at h
    split at h
    · exact List.mem_cons.mp h
    · split at h
      · rcases List.mem_cons.mp h with h | h
        · exact Or.inl h
        · exact Or.inr (List.mem_cons_of_mem _ h)
      · rcases List.mem_cons.mp h with rfl | h
        · exact Or.inr (List.mem_cons_self ..)
        · exact (ih h).imp id (List.mem_cons_of_mem _)

theorem tabSorted_erase (l : List (Nat × α)) (k : Nat) (h : tabSorted l = true) : tabSorted (tabErase l k) = true := by
  induction l with
  | nil => rfl
  | cons p l ih =>
    obtain ⟨j, w⟩ := p
    have hc := (tabSorted_cons j w l).mp h
    simp only [tabErase]
    split
    · exact ih hc.2
    · exact (tabSorted_cons ..).mpr ⟨fun p hp => hc.1 p (mem_tabErase hp).1, ih hc.2⟩

end Sys2Proof.Machine
end

