-- ==== Sys2Proof/Tests/Slice0.lean ====
section
/-! SUPPORT. The model's own tests: checks of operands, values that the manual states, one step of a command on a small state,
and, for each statement with hypotheses, concrete states and operands that meet them. -/

set_option maxRecDepth 20000

namespace Sys2Proof.Tests

open Sys2Proof.Machine

/-! ## Well-formed commands: each check refuses an ill-formed one -/

theorem test_wf_setup_block : (Instr.setupBlockReadDone (some (zeros 63))).wf = false := by decide
theorem test_wf_anchor_link : (Instr.anchorLinkReadDone 0 (some (zeros 7))).wf = false := by decide
theorem test_wf_job_record : (Instr.jobRecordReadDone 0 (some (zeros 65))).wf = false := by decide
theorem test_wf_config_block : (Instr.configBlockReadDone (some (zeros 511))).wf = false := by decide
theorem test_wf_reference_list : (Instr.referenceListReadDone 0 (some (zeros 33))).wf = false := by decide
theorem test_wf_fetch_list : (Instr.fetchListReadDone 0 (some (zeros 31))).wf = false := by decide
theorem test_wf_list_length : (Instr.fetchListReadDone 0 (some (zeros 131104))).wf = false := by
  simp only [Instr.wf, zeros_length]; decide
theorem test_wf_block_source : (Instr.blockSourceReadDone 0 (some (zeros 4095))).wf = false := by
  simp only [Instr.wf, zeros_length]; decide
theorem test_wf_block_length : (Instr.blockSourceReadDone 0 (some (zeros 1052672))).wf = false := by
  simp only [Instr.wf, zeros_length]; decide
theorem test_wf_outside_window : (Instr.registerWriteIgnored 0x40 8 0).wf = false := by decide
theorem test_wf_misaligned : (Instr.registerWriteIgnored 0x04 8 0).wf = false := by decide
theorem test_wf_command_taken : (Instr.registerWriteIgnored 0x30 8 1).wf = false := by decide
theorem test_wf_answer : (Instr.commandAnswer 0 (.done (zeros 262145) 0)).wf = false := by
  simp only [Instr.wf, answerFits, zeros_length]; decide
theorem test_wf_piece : (Instr.sourceReadDone 0 (zeros 2147483648)).wf = false := by
  simp only [Instr.wf, pieceFits, zeros_length]; decide

/-! ## Values that the manual states -/

/-- R43's check value over "123456789". -/
theorem test_crc64 : fingerprint [0x31, 0x32, 0x33, 0x34, 0x35, 0x36, 0x37, 0x38, 0x39] = 0x62EC59E3F1A4F00A := by decide

/-- R45's check value over "123456789". -/
theorem test_crc32 : crc32 [0x31, 0x32, 0x33, 0x34, 0x35, 0x36, 0x37, 0x38, 0x39] = 0xCBF43926 := by decide

/-- G(b) as R35's table gives it. -/
theorem test_hash_terms : [0x00, 0x01, 0x02, 0xFF].map hashTerm = [2654435761, 1013904226, 3668339987, 930722048] := by decide

/-- R22's two examples: the hot threshold is clamped first, then the recover threshold below it. -/
theorem test_recover_follows_hot :
    let c := fun (hot recover : Byte) => (readCfg (((zeros 512).set 15 hot).set 16 recover)).1
    (c 90 75).hot = 80 ∧ (c 90 75).recover = 75 ∧ (c 40 45).hot = 40 ∧ (c 40 45).recover = 39 := by decide

/-- The worked case of 03: the hash after each of three bytes. -/
theorem test_hash_worked :
    [hashStep 0 0x00, hashStep 2654435761 0x01, hashStep 2027808452 0x02] = [2654435761, 2027808452, 3428989595] := by decide

/-- The worked case of 06: e = 20 over two drives of 953,861 AUs and two of 1,907,723. -/
theorem test_geometry_worked :
    let au : Vector Nat 4 := #v[953861, 953861, 1907723, 1907723]
    imageSectors 20 au = 19372 ∧ slotAus 20 au = 19 := by decide

/-- The block has no words: none spells a command. -/
theorem test_no_words : decodeTableWord 32 0 = none := by decide

/-- Reset is the cold start with a drive in every bay, the mains good and the battery not low (notes/assumptions/4.md). -/
theorem test_reset_is_cold_state : State.reset = coldState 0xF true false := by decide

/-! ## States -/

/-- A job that a command of its chain carries out, or that has gone on to `p`. -/
def job (c : Fin 4) (q : JobReq) (p : JobPhase) : Job := { id := 7, chain := c, record := 0x2000, notify := true, req := q, phase := p }

/-- A geometry. -/
def geo : Geometry := { e := 16, h := 3, au := #v[200, 200, 100, 100], c := 5 }

/-- The worked case of 05: the window of a key whose home bucket is 8,190 goes round to buckets 0 and 1. -/
theorem test_window_worked :
    geo.window 0x1FFE = (List.range 16).map (65520 + ·) ++ List.range 16 := by decide

/-- A member drive in READY. -/
def drive (d : Fin 4) : Drive :=
  { present := true, power := .ready, rail := true, identified := true, capacity := 204800,
    label := some { boxId := 77, slot := d.val, auCount := geo.au[d] } }

/-- An attached part in RUN with a READY catalogue and four READY members. -/
def ready : State :=
  { link := { attach := .attached, pageAddr := 0x10000 }
    chains := Vector.replicate 4 { st := .running, anchor := 0x1000, inFlight := 1 }
    attn := 0, nextId := 50
    clock := { count := 5000000, valid := true }
    cat := { st := .ready, boxId := 77, geo := geo, genA := 5, genB := 4 }
    drives := Vector.ofFn drive
    box := { st := .run, rail1 := true, rail2 := true } }

/-- `ready` with a job. -/
def withJob (j : Job) : State := { ready with jobs := [j] }

/-- `ready` with drive `d` changed. -/
def withDrive (d : Fin 4) (f : Drive → Drive) : State := ready.modDrive d f

/-- `ready` without a catalogue. -/
def unloaded : State := { ready with cat := {} }

/-- A stream's working state, used by several tests. -/
def open3 : Machine.Stream := { st := .opened, k := 16, minLen := 512, maxLen := 99999, copies := 1 }

/-! ## Witnesses: the machine, the chains, the status page -/

theorem test_witness_steps :
    ({ ready with pending := [.detach, .feed] }).pending = .detach :: [.feed] ∧ ready.pending = []
    ∧ (∃ t, exec .detach ready = .next t) := ⟨rfl, rfl, _, rfl⟩

theorem test_witness_no_power : ({ ready with powered := false }).powered = false
    ∧ (∀ p m l, Instr.feed ≠ .coldStart p m l) ∧ Instr.feed ≠ .lossOfPower := ⟨rfl, nofun, nofun⟩

theorem test_witness_page_current :
    let s := { ready with link := { ready.link with page := ready.pageFields }, pending := [.buttonPress] }
    PageCurrent s ∧ s.link.attach = .attached ∧ ∃ t, step s = .next t := ⟨fun _ => rfl, rfl, _, rfl⟩

theorem test_witness_interrupt_rises :
    let s := { ready with attn := 1 }
    s.powered = true ∧ s.attn &&& s.attnEn = 0 ∧ ∃ t, exec (.attnEnWrite 1) s = .next t ∧ t.attn &&& t.attnEn ≠ 0 :=
  ⟨rfl, by decide, _, rfl, by decide⟩

theorem test_witness_interrupt_falls :
    let s := { ready with attn := 1, attnEn := 1 }
    s.powered = true ∧ s.attn &&& s.attnEn ≠ 0 ∧ ∃ t, exec (.attnWrite 1) s = .next t ∧ t.attn &&& t.attnEn = 0 :=
  ⟨rfl, by decide, _, rfl, by decide⟩

/-- A setup block with the lowest good addresses, but for chain 3's root, which is 0. -/
def setupBlock : List Byte := padTo 64 (leBytes 8 4096 ++ leBytes 8 64 ++ leBytes 8 128 ++ leBytes 8 192)

theorem test_witness_setup_addr :
    let s := { ready with link := {} }
    s.powered = true ∧ s.link.attach = .detached ∧ s.box.st = .run
    ∧ (64 : BitVec 64) ≠ 0 ∧ (64 : BitVec 64).toNat % 64 = 0 ∧ (65 : BitVec 64).toNat % 64 ≠ 0
    ∧ ready.link.attach ≠ .detached ∧ State.reset.box.st ≠ .run := by decide

theorem test_witness_setup_block :
    let s := { ready with link := { attach := .attaching, stage := .readingSetup, setupAddr := 64 } }
    s.powered = true ∧ s.link.attach = .attaching ∧ s.link.stage = .readingSetup
    ∧ goodAddr 4096 (setupPage setupBlock) = true ∧ goodAddr 64 (setupRoot setupBlock 0) = true
    ∧ goodAddr 64 (setupRoot setupBlock 3) = false ∧ goodAddr 4096 (setupPage (zeros 64)) = false := by decide

theorem test_witness_attached :
    let s := { ready with
      link := { attach := .attaching, stage := .writingPage, setupAddr := 64 }
      chains := (Vector.replicate 4 { anchor := 64, st := .running } : Vector Chain 4).set 3 { anchor := 1, st := .faulted } }
    s.powered = true ∧ s.link.attach = .attaching ∧ s.link.stage = .writingPage ∧ s.chains[(3 : Fin 4)].st = .faulted
    ∧ ∀ c : Fin 4, s.chains[c].st = .faulted ∨ s.chains[c].st = .running ∧ s.chains[c].inFlight = 0 ∧ s.chains[c].take = .idle
      ∧ goodAddr 64 s.chains[c].anchor = true := by decide

/-- `ready` with chain 1 in another context. -/
def chain1 (x : Chain) : State := { ready with chains := ready.chains.set 1 x }

/-- A NUDGE of all four chains: STALLED with a good anchor, FAULTED with the anchors 0 and 65, and STALLED with an attempt under way;
no page error, a page error, and one whose rewrite is in progress; the mask 0 beside them. -/
theorem test_witness_nudge :
    let s := fun (e r : Bool) => { ready with
      link := { ready.link with pageError := e, rewriting := r }
      chains := #v[{ st := .stalled, anchor := 64 }, { st := .faulted, anchor := 0 }, { st := .faulted, anchor := 65 }, { st := .stalled, anchor := 64, take := .linkRead }] }
    let hit := fun (v : BitVec 64) (c : Fin 4) => v.getLsbD c.val && ((s true false).chains[c].st == .stalled || (s true false).chains[c].st == .faulted)
    (∀ e r, (s e r).powered = true ∧ (s e r).link.attach = .attached ∧ (s e r).link.pageError = e ∧ (s e r).link.rewriting = r)
    ∧ chains4.filter (hit 15) = [0, 1, 2, 3] ∧ chains4.filter (hit 0) = []
    ∧ goodAddr 64 (s true false).chains[(0 : Fin 4)].anchor = true ∧ goodAddr 64 (s true false).chains[(1 : Fin 4)].anchor = false
    ∧ goodAddr 64 (s true false).chains[(2 : Fin 4)].anchor = false ∧ (s true false).chains[(3 : Fin 4)].take ≠ .idle
    ∧ State.reset.link.attach ≠ .attached := by decide

/-- The poll timer of a STALLED chain, with no attempt and with one under way, and of a FAULTED chain. -/
theorem test_witness_poll :
    let s := chain1 { st := .stalled, anchor := 64, poll := some 10 }
    let t := chain1 { st := .stalled, anchor := 64, take := .linkRead }
    s.powered = true ∧ s.chains[(1 : Fin 4)].st = .stalled ∧ s.chains[(1 : Fin 4)].take = .idle ∧ s.chains[(1 : Fin 4)].poll.isSome = true
    ∧ t.powered = true ∧ t.chains[(1 : Fin 4)].st = .stalled ∧ t.chains[(1 : Fin 4)].take ≠ .idle ∧ t.cfg.poll ≠ 0
    ∧ t.chains[(1 : Fin 4)].again = none ∧ (chain1 { st := .faulted }).chains[(1 : Fin 4)].st ≠ .stalled := by decide

theorem test_witness_link_read :
    let s := chain1 { st := .running, anchor := 64, take := .linkRead }
    s.powered = true ∧ s.chains[(1 : Fin 4)].take = .linkRead ∧ s.chains[(1 : Fin 4)].again = none
    ∧ s.chains[(1 : Fin 4)].faultedMeanwhile = false
    ∧ (BitVec.ofNat 64 (field (zeros 8) 0 8) : Addr) = 0
    ∧ (BitVec.ofNat 64 (field [64, 1, 0, 0, 0, 0, 0, 128] 0 8) : Addr) = 0x8000000000000140
    ∧ (0x8000000000000140 : Addr) ≠ 0 ∧ (0x8000000000000140 : Addr).toNat % 64 = 0
    ∧ (BitVec.ofNat 64 (field [65, 0, 0, 0, 0, 0, 0, 0] 0 8) : Addr).toNat % 64 ≠ 0 := by decide

/-- The link's bytes are little-endian (R195): the record at 0x140 is read. -/
theorem test_link_bytes :
    let s := chain1 { st := .running, anchor := 64, take := .linkRead }
    ∃ t, exec (.anchorLinkReadDone 1 (some [0x40, 1, 0, 0, 0, 0, 0, 0])) s = .next t ∧ t.out.acts = [.hostRead 0x140 64] :=
  ⟨_, rfl, by decide⟩

/-- A POSTED record of a kind with its parameters zero. -/
def posted (kind : Byte) : List Byte := padTo 64 (zeros 8 ++ [kind, 1])

/-- A record of each kind, and one whose code is no kind. -/
theorem test_witness_kinds :
    (∀ k ∈ [1, 2, 3, 4, 5, 6, 7, 8, 0x10, 0x11, 0x20, 0x21, 0x22, 0x23, 0x24, 0x25, 0x30], field (posted (BitVec.ofNat 8 k)) 8 1 = k)
    ∧ field (posted 9) 8 1 ∉ [1, 2, 3, 4, 5, 6, 7, 8, 0x10, 0x11, 0x20, 0x21, 0x22, 0x23, 0x24, 0x25, 0x30] := by decide

theorem test_witness_record_read :
    let s := chain1 { st := .running, anchor := 64, take := .recordRead 128 }
    s.powered = true ∧ s.chains[(1 : Fin 4)].take = .recordRead 128 ∧ s.chains[(1 : Fin 4)].again = none
    ∧ s.chains[(1 : Fin 4)].faultedMeanwhile = false ∧ (posted 0x10).getD 9 0 = 1 ∧ (zeros 64).getD 9 0 ≠ 1 := by decide

theorem test_witness_taken :
    let s := chain1 { st := .running, anchor := 64, take := .takenWrite 128 (posted 0x10), inFlight := 7 }
    s.powered = true ∧ s.chains[(1 : Fin 4)].take = .takenWrite 128 (posted 0x10) ∧ s.chains[(1 : Fin 4)].again = none
    ∧ s.chains[(1 : Fin 4)].faultedMeanwhile = false ∧ s.chains[(1 : Fin 4)].inFlight + 1 = chainLimit 1
    ∧ (∀ j ∈ s.jobs, j.id ≠ s.nextId) := by decide

/-- One job below the limit of chain 1. -/
theorem test_witness_taken_on :
    let s := chain1 { st := .running, anchor := 64, take := .takenWrite 128 (posted 0x10), inFlight := 6 }
    s.powered = true ∧ s.chains[(1 : Fin 4)].take = .takenWrite 128 (posted 0x10) ∧ s.chains[(1 : Fin 4)].again = none
    ∧ s.chains[(1 : Fin 4)].faultedMeanwhile = false ∧ s.chains[(1 : Fin 4)].inFlight + 1 < chainLimit 1
    ∧ goodAddr 64 (128 : Addr) = true := by decide

theorem test_witness_kind_taken : ∀ q : JobReq, parseJob (posted 0x10) = some q → q.chain = 1 ∧ (∀ d a, q = .driveControl d a → 1 ≤ a ∧ a ≤ 6) := by
  intro q h
  rw [show parseJob (posted 0x10) = some (.fetch 0 0 0 0) by decide] at h
  cases h
  exact ⟨rfl, nofun⟩

theorem test_witness_kind_refused : ∀ q : JobReq, parseJob (posted 0x03) = some q → q.chain ≠ 1 := by
  intro q h
  rw [show parseJob (posted 0x03) = some .load by decide] at h
  cases h
  decide

theorem test_witness_completion :
    let j := job 1 .load (.writingResults {})
    let k := job 1 .load (.writingDone {})
    let s := fun (i : Job) (st : ChainState) => { withJob i with chains := ready.chains.set 1 { st := st, inFlight := 1 } }
    (s j .running).holds j ∧ (s k .stalled).holds k
    ∧ (s k .stalled).chains[(1 : Fin 4)].st ≠ .running ∧ (s k .stalled).chains[(1 : Fin 4)].take = .idle
    ∧ (s k .stalled).link.attach = .attached ∧ (s k .stalled).box.drain = false := ⟨⟨rfl, rfl⟩, ⟨rfl, rfl⟩, by decide⟩

/-- The last job of a chain that is RUNNING, and of a part that is DETACHING. -/
theorem test_witness_completion_on :
    let j := job 1 .load (.writingDone {})
    let s := { withJob j with chains := ready.chains.set 1 { st := .running, anchor := 64, inFlight := 1 } }
    let t := { withJob j with
      link := { ready.link with attach := .detaching }
      chains := (Vector.replicate 4 { st := .stopped } : Vector Chain 4).set 1 { st := .stopped, inFlight := 1 } }
    s.holds j ∧ t.holds j ∧ s.box.drain = false ∧ s.link.attach = .attached ∧ s.chains[(1 : Fin 4)].st = .running
    ∧ s.chains[(1 : Fin 4)].inFlight - 1 < chainLimit 1 ∧ s.chains[(1 : Fin 4)].take = .idle ∧ goodAddr 64 s.chains[(1 : Fin 4)].anchor = true
    ∧ t.box.drain = false ∧ t.link.attach = .detaching ∧ t.chains[(1 : Fin 4)].st = .stopped ∧ t.chains[(1 : Fin 4)].inFlight = 1
    ∧ ∀ c : Fin 4, c ≠ 1 → t.chains[c].inFlight = 0 := ⟨⟨rfl, rfl⟩, ⟨rfl, rfl⟩, by decide⟩

theorem test_witness_page_errors :
    let s := { ready with link := { attach := .attaching, stage := .writingPage } }
    ready.link.attach = .attached ∧ ({ ready with link := { ready.link with rewriting := true } }).link.rewriting = true
    ∧ s.powered = true ∧ s.link.attach = .attaching ∧ s.link.stage = .writingPage ∧ State.reset.link.attach = .detached := by decide

theorem test_witness_detach :
    let idle := { ready with chains := Vector.replicate 4 {} }
    let going := { ready with link := { ready.link with attach := .detaching } }
    ready.powered = true ∧ ready.scrub = none ∧ ready.noneInFlight = false ∧ ready.link.attach = .attached
    ∧ idle.noneInFlight = true ∧ idle.link.attach = .attached
    ∧ going.link.attach = .detaching ∧ going.noneInFlight = false
    ∧ ({ ready with link := { attach := .attaching } }).link.attach = .attaching := by decide

theorem test_witness_window : inWindow 0x30 8 = true ∧ inWindow 0x3F 1 = true
    ∧ registerWrite 0x30 8 4 = .registerWriteIgnored 0x30 8 4 ∧ registerWrite 0x30 4 1 = .registerWriteIgnored 0x30 4 1
    ∧ ready.readRegister 0x20 4 = 0 ∧ ready.readRegister 0x00 8 = 0x14410 := by decide

theorem test_witness_power_consent :
    let s := { ready with box := { ready.box with st := .sleepPrep, seq := some { step := .complete }, consentWait := true } }
    s.box.seq = some { step := .complete } ∧ SeqStep.complete ≠ .consent ∧ s.box.consentWait = true ∧ ready.box.seq = none := by decide

/-! ## Witnesses: configuration and clock -/

theorem test_witness_configure :
    let j := job 0 (.configure 1) .dispatched
    let k := job 0 (.configure 1) .configRead
    (withJob j).carries 0 j ∧ (withJob k).holds k ∧ (withJob k).configJob = some k.id
    ∧ ∀ d : Fin 4, (withJob k).drives[d].score < (readCfg (zeros 512)).1.mediaLimit := ⟨⟨rfl, rfl, rfl⟩, ⟨rfl, rfl⟩, by decide⟩

/-- `ready` with alarm slot 2. -/
def alarm2 (a : Alarm) : State := { ready with clock := { ready.clock with alarms := ready.clock.alarms.set 2 a } }

theorem test_witness_tick :
    let s := alarm2 { time := 5000001, attention := true, enable := true }
    let next : Clock := { s.clock with count := s.clock.count + 1 }
    (∀ n : Fin 4, ready.clock.alarms[n].due { ready.clock with count := ready.clock.count + 1 } = false)
    ∧ s.box.st = .run ∧ s.clock.alarms[(2 : Fin 4)].due next = true ∧ s.clock.alarms[(2 : Fin 4)].period = 0
    ∧ s.clock.alarms[(2 : Fin 4)].attention = true ∧ s.clock.alarms[(2 : Fin 4)].wake = false
    ∧ s.clock.alarms[(2 : Fin 4)].prestart = false ∧ ∀ m : Fin 4, m ≠ 2 → s.clock.alarms[m].due next = false := by decide

/-- A slot that fires with PRESTART in RUN, one with WAKE and PRESTART in SLEEP, and one with a low battery. -/
theorem test_witness_tick_actions :
    let a : Alarm := { time := 5000001, wake := true, prestart := true, attention := true, mask := 15, enable := true }
    let s := fun b : Box => { alarm2 a with box := b }
    let next : Clock := { (alarm2 a).clock with count := (alarm2 a).clock.count + 1 }
    (alarm2 a).clock.alarms[(2 : Fin 4)].due next = true ∧ a.period = 0 ∧ (∀ m : Fin 4, m ≠ 2 → (alarm2 a).clock.alarms[m].due next = false)
    ∧ (s { st := .run }).box.st = .run ∧ a.prestart = true ∧ a.mask ≠ 0 ∧ (s { st := .sleep }).box.st = .sleep ∧ a.wake = true
    ∧ (s { st := .sleep }).cfg.wakeAlarm = true ∧ (s { st := .sleep }).box.battLow = false
    ∧ (s { st := .sleep, battLow := true }).box.battLow = true := by decide

/-- A slot that stays enabled at the top of the counter's range, and one that does not. -/
theorem test_witness_alarm_repeats :
    let a : Alarm := { time := 0, period := 60, enable := true }
    0 < a.period ∧ a.enable = true ∧ a.time.toNat ≤ (4294967279 : BitVec 32).toNat
    ∧ (a.afterFire 4294967219).enable = true ∧ (a.afterFire 4294967280).enable = false := by decide

theorem test_witness_set_clock :
    let j := job 0 (.setClock 4294967295) .dispatched
    (withJob j).carries 0 j
    ∧ ∀ n : Fin 4, (withJob j).clock.alarms[n].due { (withJob j).clock with count := 4294967295, valid := true } = false :=
  ⟨⟨rfl, rfl, rfl⟩, by decide⟩

theorem test_witness_set_alarm :
    let j := job 0 (.setAlarm 3 7 15 true 5000001 59) .dispatched
    let k := job 0 (.setAlarm 4 7 15 true 5000001 59) .dispatched
    (withJob j).carries 0 j ∧ (withJob k).carries 0 k ∧ (3 : Fin 4).val = 3
    ∧ ({ time := 5000001, wake := true, prestart := true, attention := true, mask := 15, enable := true, period := 60 } : Alarm).due
      (withJob j).clock = false := ⟨⟨rfl, rfl, rfl⟩, ⟨rfl, rfl, rfl⟩, rfl, by decide⟩

/-! ## Witnesses: streams and the catalogue -/

/-- A job with stream 3 as given. -/
def withStream (j : Job) (x : Machine.Stream) : State := { withJob j with streams := ready.streams.set 3 x }

theorem test_witness_open_stream :
    let j := job 2 (.openStream 3 11 1 1 512 4096) .dispatched
    let k := job 2 (.openStream 8 11 1 1 512 4096) .dispatched
    (withJob j).carries 2 j ∧ (withJob k).carries 2 k ∧ (withJob j).streams[(3 : Fin 8)] = {} ∧ (withJob j).cat.st = .ready
    ∧ ({ withJob j with cat := {} } : State).cat.st ≠ .ready :=
  ⟨⟨rfl, rfl, rfl⟩, ⟨rfl, rfl, rfl⟩, rfl, rfl, by decide⟩

theorem test_witness_feed :
    let j := job 2 (.feed 3 2147483647 1 32 1) .dispatched
    let k := job 2 (.feed 8 2147483647 1 32 1) .dispatched
    let s := withStream j open3
    s.carries 2 j ∧ (withStream k open3).carries 2 k ∧ goodAddr 32 (32 : Addr) = true ∧ goodAddr 32 (33 : Addr) = false ∧ (1 : Addr) ≠ 0
    ∧ s.streams[(3 : Fin 8)].st = .opened ∧ s.streams[(3 : Fin 8)].list = [] ∧ s.streams[(3 : Fin 8)].window = []
    ∧ s.streams[(3 : Fin 8)].held = false := ⟨⟨rfl, rfl, rfl⟩, ⟨rfl, rfl, rfl⟩, by decide⟩

/-- A byte that reaches MAXLEN, one that stays below MINLEN, and one after which h is 0 at MINLEN. -/
theorem test_witness_cut :
    let cut := ({ open3 with maxLen := 1 } : Machine.Stream).takeByte 5
    let on := ({ open3 with minLen := 2 } : Machine.Stream).takeByte 5
    let low := ({ open3 with minLen := 1, h := 1640531535 } : Machine.Stream).takeByte 1
    low.minLen ≤ low.cur.length ∧ low.h.toNat < 2 ^ (32 - low.k) ∧ open3.held = false ∧ open3.crc = open3.cur.foldl crc64Byte (BitVec.allOnes 64)
    ∧ cut.cur.length = cut.maxLen ∧ on.cur.length ≠ on.maxLen ∧ on.cur.length < on.minLen ∧ open3.cur.length < on.maxLen := by decide

/-- A FEED's progress, its job and its stream. -/
def feedWork : StreamWork := { stream := 3, recipe := 32, capacity := 9, src := 1, left := 500, active := true, written := 2 }
def feedJob : Job := job 2 (.feed 3 700 1 32 9) (.stream feedWork)
def feeding (l : List Chunk) : State := withStream feedJob { open3 with st := .feeding, list := [7], window := l }

theorem test_witness_source_reads :
    (feeding []).holds feedJob ∧ (feeding []).activeFeed 3 = some (feedJob.id, feedWork) ∧ feedWork.buf = []
    ∧ (feeding []).streams[(3 : Fin 8)].held = false ∧ (feeding []).streams[(3 : Fin 8)].window = []
    ∧ (feeding []).streams[(3 : Fin 8)].list = [feedJob.id] ∧ feedWork.stream = 3
    ∧ (zeros 499).length < feedWork.left
    ∧ (feeding []).streams[(3 : Fin 8)].cur.length + (zeros 499).length < (feeding []).streams[(3 : Fin 8)].minLen
    ∧ (feeding []).streams[(3 : Fin 8)].cur.length + (zeros 499).length < (feeding []).streams[(3 : Fin 8)].maxLen :=
  ⟨⟨rfl, rfl⟩, by decide⟩

theorem test_witness_close_stream :
    let j := job 2 (.closeStream 3 32 1 false false) .dispatched
    let s := withStream j { open3 with finished := 4294967296 }
    s.carries 2 j ∧ s.streams[(3 : Fin 8)].st = .opened ∧ s.streams[(3 : Fin 8)].list = [] ∧ s.streams[(3 : Fin 8)].window = []
    ∧ s.streams[(3 : Fin 8)].held = false ∧ s.streams[(3 : Fin 8)].cur = [] ∧ s.streams[(3 : Fin 8)].internal = false :=
  ⟨⟨rfl, rfl, rfl⟩, by decide⟩

/-- A chunk of the FEED of 600 bytes in phase `p`. -/
def chunk (p : ChunkPhase) : Chunk := { id := 12, key := { fp := 99, len := 600 }, own := 600, owner := some 7, phase := p }

/-- A cut is made with two chunks in the window and held with three, and a held cut is made with two. -/
theorem test_witness_cut_held :
    let x : Machine.Stream := { open3 with maxLen := 1 }
    let s := fun (l : List Chunk) (h : Bool) => { ready with streams := ready.streams.set 3 { x with window := l, held := h } }
    let c := chunk .waiting
    ((s [c, c] false).streams[(3 : Fin 8)].takeByte 5).window.length < 3 ∧ 3 ≤ ((s [c, c, c] false).streams[(3 : Fin 8)].takeByte 5).window.length
    ∧ ((s [c, c, c] false).streams[(3 : Fin 8)].takeByte 5).cur.length = x.maxLen ∧ (s [c, c] true).streams[(3 : Fin 8)].held = true
    ∧ (s [c, c, c] true).streams[(3 : Fin 8)].held = true ∧ x.crc = x.cur.foldl crc64Byte (BitVec.allOnes 64) := by decide

/-- CLOSE_STREAM with DISCARD and bytes in staging. -/
theorem test_witness_close_discard :
    let n : Fin 8 := 3
    let recipe : Addr := 32
    let cap := 1
    let discard := true
    let withSeal := false
    let j := job 2 (.closeStream n.val recipe cap discard withSeal) .dispatched
    let s := withStream j { open3 with finished := 4294967296, cur := [1, 2], h := 5, curOwn := 2 }
    s.carries 2 j ∧ goodAddr 32 recipe = true ∧ cap ≠ 0 ∧ s.streams[n].st = .opened ∧ s.streams[n].list = []
    ∧ s.streams[n].internal = false ∧ s.streams[n].window = [] ∧ s.streams[n].held = false
    ∧ (s.streams[n].cur = [] ∨ discard = true) ∧ withSeal = false :=
  ⟨⟨rfl, rfl, rfl⟩, by decide⟩

/-- CLOSE_STREAM that cuts the current chunk. -/
theorem test_witness_close_cuts :
    let n : Fin 8 := 3
    let recipe : Addr := 32
    let cap := 1
    let discard := false
    let withSeal := true
    let j := job 2 (.closeStream n.val recipe cap discard withSeal) .dispatched
    let s := withStream j { open3 with cur := [1, 2], curOwn := 1, h := 7 }
    s.carries 2 j ∧ goodAddr 32 recipe = true ∧ cap ≠ 0 ∧ s.streams[n].st = .opened ∧ s.streams[n].list = []
    ∧ s.streams[n].internal = false ∧ s.streams[n].window = [] ∧ s.streams[n].held = false ∧ s.streams[n].cur ≠ []
    ∧ discard = false :=
  ⟨⟨rfl, rfl, rfl⟩, by decide⟩

/-- CLOSE_STREAM with SEAL of a stream with nothing in it. -/
theorem test_witness_close_seals :
    let n : Fin 8 := 3
    let recipe : Addr := 32
    let cap := 1
    let discard := false
    let withSeal := true
    let j := job 2 (.closeStream n.val recipe cap discard withSeal) .dispatched
    let s := withStream j { open3 with new := 9 }
    s.carries 2 j ∧ goodAddr 32 recipe = true ∧ cap ≠ 0 ∧ s.streams[n].st = .opened ∧ s.streams[n].list = []
    ∧ s.streams[n].internal = false ∧ s.streams[n].window = [] ∧ s.streams[n].held = false
    ∧ (s.streams[n].cur = [] ∨ discard = true) ∧ withSeal = true ∧ s.cat.st = .ready ∧ s.engine.ckpt = none
    ∧ s.engine.queued = none
    ∧ ∀ i : Fin 2, s.member (catDrive i) = true ∧ s.drives[catDrive i].usable = true ∧ s.drives[catDrive i].power = .ready :=
  ⟨⟨rfl, rfl, rfl⟩, by decide⟩

/-- CLOSE_STREAM with DISCARD and a chunk whose reference is being written. -/
theorem test_witness_close_unfinished :
    let n : Fin 8 := 3
    let recipe : Addr := 32
    let cap := 1
    let discard := true
    let withSeal := true
    let j := job 2 (.closeStream n.val recipe cap discard withSeal) .dispatched
    let s := withStream j { open3 with cur := [1, 2], window := [chunk .referencing] }
    let c := chunk .referencing
    s.carries 2 j ∧ goodAddr 32 recipe = true ∧ cap ≠ 0 ∧ s.streams[n].st = .opened ∧ s.streams[n].list = []
    ∧ s.streams[n].internal = false ∧ s.streams[n].window = [c] ∧ c.phase.resolvingNow = true ∧ discard = true :=
  ⟨⟨rfl, rfl, rfl⟩, by decide⟩

theorem test_witness_reference_writes :
    let c := { chunk .referencing with slot := some 2 }
    let d := { chunk .rewriting with outcome := some .new }
    (feeding [c]).holds feedJob ∧ feedJob.phase = .stream feedWork ∧ c.owner = some feedJob.id
    ∧ (feeding [c]).referencing 3 = some c ∧ (feeding [c]).chunk 3 c.id = some c ∧ c.outcome = none
    ∧ feedWork.written + 1 ≠ feedWork.capacity
    ∧ (feeding [d]).holds feedJob ∧ (feeding [d]).chunkIn 3 d.id .rewriting = some d ∧ feedWork.ended = false :=
  ⟨⟨rfl, rfl⟩, rfl, rfl, rfl, rfl, rfl, by decide, ⟨rfl, rfl⟩, rfl, rfl⟩

/-- A reference into the last slot of a FEED with more bytes to come, with a later chunk, and with no byte left. -/
theorem test_witness_recipe_full :
    let c := chunk .referencing
    let later := { chunk .waiting with id := 13 }
    let w : StreamWork := { feedWork with capacity := 3 }
    let all : StreamWork := { w with left := 0, stopped := true }
    let s := fun (v : StreamWork) (l : List Chunk) => withStream (job 2 (.feed 3 700 1 32 3) (.stream v)) { open3 with st := .feeding, list := [7], window := l }
    let before := fun (l : List Chunk) => l.takeWhile fun x => x.id != c.id
    (∀ v ∈ [w, all], ∀ l ∈ [[c], [c, later]], (s v l).holds (job 2 (.feed 3 700 1 32 3) (.stream v)) ∧ (s v l).referencing 3 = some c
      ∧ (s v l).chunk 3 c.id = some c) ∧ c.outcome = none ∧ w.written + 1 = w.capacity ∧ w.left ≠ 0 ∧ all.left = 0
    ∧ [c, later] ≠ before [c, later] ++ [c] ∧ [c] = before [c] ++ [c] ∧ (s all [c]).streams[(3 : Fin 8)].cur = [] := by
  refine ⟨?_, by decide⟩
  simp only [List.forall_mem_cons, List.not_mem_nil, false_implies, implies_true, and_true]
  exact ⟨⟨⟨⟨rfl, rfl⟩, rfl, rfl⟩, ⟨rfl, rfl⟩, rfl, rfl⟩, ⟨⟨rfl, rfl⟩, rfl, rfl⟩, ⟨rfl, rfl⟩, rfl, rfl⟩

theorem test_witness_requests :
    let s := { ready with engine := { requests := [.scrubPlan, .repairUpdate], hold := some .checkpoint } }
    let t := { ready with engine := { requests := [.scrubPlan, .repairUpdate] } }
    s.engine.requests = .scrubPlan :: [.repairUpdate] ∧ s.engine.hold.isSome = true
    ∧ t.engine.requests = .scrubPlan :: [.repairUpdate] ∧ t.engine.hold = none := by decide

theorem test_witness_reference_lists :
    let j := job 2 (.retain 32 4096) .dispatched
    let k := job 2 (.release 32 4096) .refList
    (withJob j).carries 2 j ∧ goodAddr 32 (32 : Addr) = true ∧ (withJob j).cat.st = .ready ∧ (withJob k).holds k :=
  ⟨⟨rfl, rfl, rfl⟩, by decide, rfl, ⟨rfl, rfl⟩⟩

/-- An entry of the chunk of 600 bytes, in the last slot of its home bucket. -/
def entry (n : Nat) : Entry := { key := { fp := 99, len := 600 }, st := .live, refcount := n, a := { loc := ⟨2, 30000⟩ } }
def holding (s : State) (e : Entry) : State := { s with cat := { s.cat with index := [(799, e)] } }

theorem test_witness_counts :
    let w : RefWork := { refs := [{ key := { fp := 99, len := 600 } }] }
    let j := job 2 (.release 32 1) (.refs w)
    let s := fun n => holding { withJob j with engine := { requests := [.releaseRef 7] } } (entry n)
    let t := fun n => holding { withJob j with engine := { requests := [.retainRef 7] } } (entry n)
    (s 1).holds j ∧ (s 1).engine.hold = none ∧ (s 1).engine.requests = .releaseRef j.id :: [] ∧ (t 1).engine.requests = .retainRef j.id :: []
    ∧ (∀ n ∈ [1, 2, 65534, 65535], (s n).cat.lookup { fp := 99, len := 600 } = .found 799 (entry n)
        ∧ (t n).cat.lookup { fp := 99, len := 600 } = .found 799 (entry n)) ∧ (entry 1).st ≠ .pending :=
  ⟨⟨rfl, rfl⟩, rfl, rfl, rfl, by decide, by decide⟩

/-- An UNINDEXED reference, one without an entry and one to a PENDING entry, each with more behind it. -/
theorem test_witness_other_counts :
    let pending := { entry 1 with st := .pending }
    let gone : Ref := { key := { fp := 5, len := 3 } }
    let lost : Ref := { gone with unindexed := true }
    let s := fun (r : Ref) => holding { withJob (job 2 (.retain 32 2) (.refs { refs := [r, lost] })) with engine := { requests := [.retainRef 7] } } pending
    let t := fun (r : Ref) => holding { withJob (job 2 (.release 32 2) (.refs { refs := [r, lost] })) with engine := { requests := [.releaseRef 7] } } pending
    lost.unindexed = true ∧ gone.unindexed = false ∧ (s gone).cat.lookup gone.key = .room 40 ∧ (t gone).cat.lookup gone.key = .room 40
    ∧ (s gone).cat.lookup pending.key = .found 799 pending ∧ pending.st = .pending
    ∧ (∀ r ∈ [lost, gone, { key := pending.key }],
      (s r).engine.requests = .retainRef 7 :: [] ∧ (s r).engine.hold = none
      ∧ (s r).job 7 = some (job 2 (.retain 32 2) (.refs { refs := [r, lost] }))
      ∧ (t r).engine.requests = .releaseRef 7 :: [] ∧ (t r).engine.hold = none
      ∧ (t r).job 7 = some (job 2 (.release 32 2) (.refs { refs := [r, lost] }))) := by decide

theorem test_witness_duplicate :
    let c := chunk .resolving
    let s := holding { feeding [c] with engine := { requests := [.resolution 3 12] } } (entry 65535)
    let v := chunk .verdict
    let t := holding { feeding [v] with engine := { requests := [.verdict 3 12 .equal] } } (entry 1)
    s.engine.hold = none ∧ s.cat.lookup c.key = .found 799 (entry 65535) ∧ (entry 65535).st = .live ∧ c.owner = some 7
    ∧ s.work 7 = some feedWork ∧ s.engine.requests = .resolution 3 c.id :: [] ∧ s.chunkIn 3 c.id .resolving = some c
    ∧ s.streams[(3 : Fin 8)].strict = false
    ∧ t.cat.lookup v.key = .found 799 (entry 1) ∧ t.work 7 = some feedWork ∧ t.engine.requests = .verdict 3 v.id .equal :: []
    ∧ t.chunkIn 3 v.id .verdict = some v := by decide

theorem test_witness_new_chunk :
    let c := chunk .resolving
    let s := { feeding [c] with engine := { requests := [.resolution 3 12] } }
    s.cat.lookup c.key = .room 792 ∧ s.streams[(3 : Fin 8)].copies = 1
    ∧ (s.bestCandidate (sectorsOf c.key.len) [] false).isSome = true ∧ s.work 7 = some feedWork
    ∧ s.chunkIn 3 c.id .resolving = some c := by decide

/-- The chunk that resolves, or has its verdict, with an entry in its slot, or with its probe window full. -/
def resolvingWith (p : ChunkPhase) (q : CatReq) (e : Entry) : State :=
  holding { withStream feedJob { open3 with st := .feeding, list := [7], strict := true, copies := 2, window := [chunk p] } with
    engine := { requests := [q] } } e
def fullWindow : State :=
  let s := resolvingWith .resolving (.resolution 3 12) {}
  { s with cat := { s.cat with index := (List.range 32).map fun i => (792 + i, { key := { fp := 1, len := i } }) } }
/-- No drive takes chunks. -/
def noPlace (s : State) : State := { s with drives := s.drives.map fun (x : Drive) => { x with degraded := true } }

/-- Two copies for a new chunk, an unindexed one, a collision, a DAMAGED entry, and no candidate. -/
theorem test_witness_stored :
    let c := chunk .resolving
    let v := chunk .verdict
    let fresh := resolvingWith .resolving (.resolution 3 12) { entry 1 with key := { fp := 5, len := 5 } }
    let pending := resolvingWith .resolving (.resolution 3 12) { entry 1 with st := .pending }
    let damaged := resolvingWith .resolving (.resolution 3 12) { entry 1 with st := .damaged }
    let other := resolvingWith .verdict (.verdict 3 12 .different) (entry 1)
    let bad := resolvingWith .verdict (.verdict 3 12 .noGoodCopy) (entry 1)
    (∀ s ∈ [fresh, pending, damaged, fullWindow], s.chunkIn 3 c.id .resolving = some c
      ∧ (s.bestCandidate (sectorsOf c.key.len) [] false).isSome = true ∧ (noPlace s).bestCandidate (sectorsOf c.key.len) [] false = none
      ∧ s.engine.requests = .resolution 3 c.id :: [] ∧ s.engine.hold = none ∧ s.work 7 = some feedWork)
    ∧ (∀ s ∈ [other, bad], s.chunkIn 3 v.id .verdict = some v ∧ s.cat.lookup v.key = .found 799 (entry 1)
      ∧ (s.bestCandidate (sectorsOf v.key.len) [] false).isSome = true ∧ (noPlace s).bestCandidate (sectorsOf v.key.len) [] false = none
      ∧ s.engine.hold = none ∧ s.work 7 = some feedWork)
    ∧ fresh.cat.lookup c.key = .room 792 ∧ fullWindow.cat.lookup c.key = .full
    ∧ pending.cat.lookup c.key = .found 799 { entry 1 with st := .pending } ∧ pending.stagedFor 799 ≠ some c.bytes
    ∧ damaged.cat.lookup c.key = .found 799 { entry 1 with st := .damaged } ∧ fresh.streams[(3 : Fin 8)].copies = 2
    ∧ other.engine.requests = .verdict 3 v.id .different :: [] ∧ bad.engine.requests = .verdict 3 v.id .noGoodCopy :: [] := by
  decide +kernel

theorem test_witness_copy_written :
    let w : CopyWrite := { copy := .a, loc := ⟨2, 30000⟩ }
    let v : CopyWrite := { copy := .b, loc := ⟨3, 30000⟩ }
    let c := { chunk .resolved with writes := [w, v] }
    let s := { feeding [c] with engine := { requests := [.writeOutcome (.chunk 3 12 .a) .done] } }
    s.engine.requests = .writeOutcome (.chunk 3 c.id .a) .done :: [] ∧ s.chunk 3 c.id = some c
    ∧ (c.writes.find? fun x => x.copy == .a) = some w ∧ s.drives[w.loc.drive].epoch = w.epoch
    ∧ v ∈ c.writes ∧ v.copy ≠ .a ∧ v.result = none := by decide

/-- The chunk of 600 bytes with these writes, its entry PENDING, and an outcome of copy A's write. -/
def writing (c : Chunk) (r : WriteResult) : State :=
  holding { feeding [c] with engine := { requests := [.writeOutcome (.chunk 3 12 .a) r], waiters := [.retainRef 9] } }
    { entry 1 with st := .pending }

/-- A failed write with a candidate, a last write that is DONE, one that failed twice, and one without a candidate; the chunk
unresolved, RESOLVED with either reference, and unindexed. -/
theorem test_witness_last_copy :
    let w : CopyWrite := { copy := .a, loc := ⟨2, 30000⟩ }
    let c := { chunk .referencing with target := .entry 799, writes := [w] }
    let twice := { c with writes := [{ w with second := true }] }
    let stands := { c with phase := .resolved, slot := some 4, ref := some { key := c.key, oneCopy := true } }
    let changes := { stands with ref := some { key := c.key } }
    let free := { c with target := .unindexed }
    (∀ x ∈ [c, stands, changes, free], ∀ r ∈ [WriteResult.done, .media, .failed],
      (writing x r).engine.requests = .writeOutcome (.chunk 3 x.id .a) r :: [] ∧ (writing x r).engine.hold = none
      ∧ (writing x r).chunk 3 x.id = some x ∧ (x.writes.find? fun y => y.copy == .a) = some w
      ∧ (writing x r).drives[w.loc.drive].epoch = w.epoch ∧ w.second = false
      ∧ ((writing x r).bestCandidate (sectorsOf x.key.len) [w.loc.drive] false).isSome = true
      ∧ (noPlace (writing x r)).bestCandidate (sectorsOf x.key.len) [w.loc.drive] false = none
      ∧ (∀ v ∈ x.writes, v.copy ≠ .a → v.result.isSome = true)
      ∧ (∀ i : Fin 8, ((writing x r).streams[i].window.map fun y => y.id).Nodup))
    ∧ (writing twice .failed).chunk 3 12 = some twice ∧ (∀ v ∈ twice.writes, v.second = true)
    ∧ (writing c .done).cat.entry 799 = some { entry 1 with st := .pending } ∧ c.outcome = none ∧ c.phase ≠ .resolved
    ∧ stands.phase = .resolved ∧ stands.owner = some 7 ∧ stands.mute = false ∧ (writing stands .done).job 7 = some feedJob
    ∧ (∀ i : Fin 8, ∀ x ∈ (writing stands .done).streams[i].window, i = 3 ∧ x = stands) ∧ feedWork.ended = false := by decide +kernel

theorem test_witness_bad_reads :
    let e := entry 1
    let s := holding { ready with engine := { requests := [.badCopy 799 e.key .a e.a.loc] } } e
    let t := holding { ready with engine := { requests := [.damage 799 e.key] } } e
    s.cat.entry 799 = some e ∧ s.engine.requests = .badCopy 799 e.key .a e.a.loc :: [] ∧ e.st ≠ .pending ∧ e.copy .a = some e.a
    ∧ e.a.st = .good ∧ t.engine.requests = .damage 799 e.key :: [] ∧ e.st = .live := by decide

/-! ## Witnesses: reads, repair and the host area -/

theorem test_witness_repair :
    let e : RepairEntry := { slot := 799, key := { fp := 99, len := 600 }, loc := ⟨2, 30000⟩ }
    let x := { entry 1 with b := some { loc := ⟨3, 40000⟩ } }
    let s := holding { ready with repair := { list := [e] } } x
    let t := holding { ready with repair := { list := [e], worker := .placing e ⟨3, 40000⟩ (zeros 600) }
                                  engine := { requests := [.repairPlacement] } } x
    let u := holding { ready with repair := { list := [e], worker := .updating e ⟨3, 40000⟩ ⟨0, 50000⟩ 0 }
                                  engine := { requests := [.repairUpdate] } } x
    let y : Copy := { loc := ⟨0, 60000⟩ }
    let v := holding { ready with repair := { list := [e], worker := .updating e ⟨3, 40000⟩ ⟨0, 50000⟩ 0 }
                                  engine := { requests := [.repairUpdate] } } { x with b := some y }
    s.repair.worker = .idle ∧ s.box.seq = none ∧ s.repair.list = e :: [] ∧ s.testRepair e = .take ⟨3, 40000⟩
    ∧ t.engine.hold = none ∧ t.repair.worker = .placing e ⟨3, 40000⟩ (zeros 600)
    ∧ t.cat.standing e.slot e.key e.copy e.loc = some x ∧ (t.bestCandidate (sectorsOf e.key.len) [3] true).isSome = true
    ∧ u.repair.worker = .updating e ⟨3, 40000⟩ ⟨0, 50000⟩ 0 ∧ u.cat.standing e.slot e.key e.copy e.loc = some x
    ∧ u.engine.requests = .repairUpdate :: [] ∧ (∀ y, x.copy e.copy.other = some y → y.loc.drive ≠ 0)
    ∧ v.engine.requests = .repairUpdate :: [] ∧ v.repair.worker = .updating e ⟨3, 40000⟩ ⟨0, 50000⟩ 0
    ∧ v.cat.standing e.slot e.key e.copy e.loc = some { x with b := some y } ∧ { x with b := some y }.copy e.copy.other = some y
    ∧ y.loc.drive = 0 ∧ v.drives[(0 : Fin 4)].epoch = 0 :=
  ⟨by decide, by decide, by decide, by decide, by decide, by decide, by decide, by decide, by decide, by decide, by decide,
   fun y h => by cases h; decide, by decide⟩

/-- A repair update that finds the other copy on the new copy's drive, where a REMIRROR has put it: the new copy is given up again
(R94). -/
theorem test_repair_meets_mirror :
    let e : RepairEntry := { slot := 799, key := { fp := 99, len := 600 }, loc := ⟨2, 30000⟩ }
    let x := { entry 1 with b := some { loc := ⟨0, 60000⟩ } }
    let s := holding { ready with repair := { list := [e], worker := .updating e ⟨3, 40000⟩ ⟨0, 50000⟩ 0 }
                                  engine := { requests := [.repairUpdate] } } x
    ∃ t, exec .repairUpdate s = .next t ∧ t.cat.entry 799 = some x ∧ t.repair = {} := ⟨_, rfl, by decide +kernel⟩

/-- A repair write with its outcome: the copy in place, the copy moved, READY candidates and none; and one that ends NOT_READY. -/
theorem test_witness_repair_write :
    let e : RepairEntry := { slot := 799, key := { fp := 99, len := 600 }, loc := ⟨2, 30000⟩ }
    let src : Loc := ⟨3, 40000⟩
    let m : Loc := ⟨0, 50000⟩
    let x := { entry 1 with b := some { loc := src } }
    let s := fun (x : Entry) (r : WriteResult) (second : Bool) =>
      holding { ready with repair := { list := [e], worker := .writing e src (zeros 9) m 0 second }
                           engine := { requests := [.writeOutcome .repair r] } } x
    let mirrored := fun (x : Entry) (r : WriteResult) =>
      { s x r false with scrub := some { step := some { slot := 799, mirror := some { place := .b, loc := ⟨1, 7⟩ } } } }
    let parked := fun (s : State) => { s with drives := s.drives.map fun (y : Drive) => { y with power := .parked } }
    let f : Offer := { drive := 2, op := { cls := .background, kind := .chunkWrite, first := 5, count := 1, owner := .repairWrite } }
    let t := parked { ready with offers := [f] }
    (∀ r ∈ [WriteResult.done, .asleep, .media, .failed], ∀ second ∈ [false, true],
      (s x r second).engine.requests = .writeOutcome .repair r :: [] ∧ (s x r second).engine.hold = none
      ∧ (s x r second).repair.worker = .writing e src (zeros 9) m 0 second ∧ (s x r second).drives[m.drive].epoch = 0
      ∧ (s x r second).cat.entry e.slot = some x ∧ x.key = e.key ∧ x.copy e.copy = some x.a ∧ x.a.loc = e.loc ∧ x.a.st ≠ .absent
      ∧ ((s x r second).bestCandidate (sectorsOf e.key.len) [m.drive, src.drive] true).isSome = true
      ∧ (s x r second).repairExcluded e m = [m.drive, src.drive] ∧ (mirrored x r).repairExcluded e m = [m.drive, src.drive, 1]
      ∧ (parked (s x r second)).bestCandidate (sectorsOf e.key.len) [m.drive, src.drive] true = none)
    ∧ (s { x with a := { loc := ⟨2, 1⟩ } } .failed false).cat.entry e.slot = some { x with a := { loc := ⟨2, 1⟩ } }
    ∧ t.offers = f :: [] ∧ f.op.badRange t.drives[f.drive].capacity = false ∧ t.drives[f.drive].usable = true
    ∧ t.drives[f.drive].power ≠ .ready ∧ t.drives[f.drive].hasWork = false := by decide +kernel

/-- A repair write that the box's sleep ended leaves its entry in place and the worker idle (R167). -/
theorem test_repair_asleep :
    let e : RepairEntry := { slot := 799, key := { fp := 99, len := 600 }, loc := ⟨2, 30000⟩ }
    let s := holding { ready with repair := { list := [e, { slot := 4 }], worker := .writing e ⟨3, 40000⟩ (zeros 9) ⟨0, 50000⟩ 0 false }
                                  engine := { requests := [.writeOutcome .repair .asleep] } } (entry 1)
    ∃ t, exec .writeOutcome s = .next t ∧ t.repair = { list := [e, { slot := 4 }], worker := .idle } ∧ t.offers = [] :=
  ⟨_, rfl, by decide +kernel⟩

/-- A reference to the chunk of 600 bytes. -/
def ref : Ref := { key := { fp := 99, len := 600 } }

theorem test_witness_fetch :
    let q := JobReq.fetch 32 4096 600 1
    let j := job 1 q .dispatched
    let k := job 1 q .fetchList
    (withJob j).carries 1 j ∧ (withJob k).holds k ∧ readRefs 1 ref.bytes = [ref]
    ∧ (withJob k).cat.lookup ref.key = .room 792
    ∧ (holding (withJob k) (entry 1)).cat.lookup ref.key = .found 799 (entry 1)
    ∧ (holding (withJob k) (entry 1)).eligible [] (.a, (entry 1).a) = true
    ∧ (readRef (zeros 32)).key.len = 0 ∧ readRefs 1 (zeros 32) = [readRef (zeros 32)] :=
  ⟨⟨rfl, rfl, rfl⟩, ⟨rfl, rfl⟩, by decide⟩

theorem test_witness_fetch_pending :
    let r := ref
    let n := 1
    let cap := 600
    let dest : Addr := 64
    let j := job 1 (.fetch 32 n cap dest) .fetchList
    let b := r.bytes
    let s := holding (withJob j) { entry 1 with st := .pending }
    let e := { entry 1 with st := .pending }
    s.holds j ∧ readRefs n b = [r] ∧ 1 ≤ r.key.len ∧ r.key.len ≤ 1048576 ∧ r.key.len ≤ cap ∧ r.unindexed = false
    ∧ s.cat.lookup r.key = .found 799 e :=
  ⟨⟨rfl, rfl⟩, by decide⟩

theorem test_witness_fetch_damaged :
    let r := ref
    let n := 1
    let cap := 600
    let dest : Addr := 64
    let j := job 1 (.fetch 32 n cap dest) .fetchList
    let b := r.bytes
    let s := holding (withJob j) { entry 1 with st := .damaged }
    let e := { entry 1 with st := .damaged }
    s.holds j ∧ readRefs n b = [r] ∧ 1 ≤ r.key.len ∧ r.key.len ≤ 1048576 ∧ r.key.len ≤ cap ∧ r.unindexed = false
    ∧ s.cat.lookup r.key = .found 799 e :=
  ⟨⟨rfl, rfl⟩, by decide⟩

theorem test_witness_fetch_lost :
    let r := ({ ref with unindexed := true, lost := true } : Ref)
    let n := 1
    let cap := 600
    let dest : Addr := 64
    let j := job 1 (.fetch 32 n cap dest) .fetchList
    let b := r.bytes
    let s := holding (withJob j) { entry 1 with st := .live }
    s.holds j ∧ readRefs n b = [r] ∧ 1 ≤ r.key.len ∧ r.key.len ≤ 1048576 ∧ r.key.len ≤ cap ∧ r.unindexed = true
    ∧ r.lost = true :=
  ⟨⟨rfl, rfl⟩, by decide⟩

theorem test_witness_fetch_good :
    let l : Loc := ⟨2, 30000⟩
    let r : FetchRef := { ref := { key := { fp := fingerprint [49, 50, 51], len := 3 } }, offset := 5, st := .reading .a l, slot := 799, a := some { loc := l } }
    let w : FetchWork := { dest := 64, refs := [r] }
    let j := job 1 (.fetch 32 1 600 64) (.fetching w)
    let d : Fin 4 := 2
    let o : Op := { id := 9, cls := .interactive, kind := .chunkRead, first := 30000, count := 1, owner := .fetch 7 0, st := .active }
    let c : DriveCmd := .read 30000 1
    let again := false
    let data : List Byte := [49, 50, 51, 52]
    let s := (withJob j).modDrive d fun x => { x with ops := [o], port := .command (.segment o.id) c again, credit := 1, noAnswer := 1 }
    s.holds j ∧ j.phase = .fetching w ∧ w.refs = [r] ∧ r.st = .reading .a l ∧ s.drives[d].ops = [o] ∧ o.owner = .fetch j.id 0
    ∧ o.kind = .chunkRead ∧ o.withdrawn = false ∧ o.segsDone + 1 = o.segments
    ∧ s.drives[d].port = .command (.segment o.id) c again ∧ fingerprint ((o.data ++ data).take r.ref.key.len) = r.ref.key.fp :=
  ⟨⟨rfl, rfl⟩, by decide⟩

theorem test_witness_fetch_bad :
    let l : Loc := ⟨2, 30000⟩
    let r : FetchRef := { ref := { key := { fp := 1, len := 3 } }, offset := 5, st := .reading .a l, slot := 799, a := some { loc := l } }
    let w : FetchWork := { dest := 64, refs := [r] }
    let j := job 1 (.fetch 32 1 600 64) (.fetching w)
    let d : Fin 4 := 2
    let o : Op := { id := 9, cls := .interactive, kind := .chunkRead, first := 30000, count := 1, owner := .fetch 7 0, st := .active }
    let c : DriveCmd := .read 30000 1
    let again := false
    let data : List Byte := [49, 50, 51, 52]
    let s := (withJob j).modDrive d fun x => { x with ops := [o], port := .command (.segment o.id) c again, credit := 1, noAnswer := 1 }
    s.holds j ∧ j.phase = .fetching w ∧ w.refs = [r] ∧ r.st = .reading .a l ∧ s.drives[d].ops = [o] ∧ o.owner = .fetch j.id 0
    ∧ o.kind = .chunkRead ∧ o.withdrawn = false ∧ o.segsDone + 1 = o.segments
    ∧ s.drives[d].port = .command (.segment o.id) c again ∧ fingerprint ((o.data ++ data).take r.ref.key.len) ≠ r.ref.key.fp
    ∧ r.ref.unindexed = false ∧ r.b = none :=
  ⟨⟨rfl, rfl⟩, by decide⟩

theorem test_witness_delivery :
    let x : FetchRef := { ref := ref, st := .writing true }
    let w : FetchWork := { dest := 1, refs := [x] }
    let j := job 1 (.fetch 32 1 600 1) (.fetching w)
    let k := job 1 (.blockRead 0 1 1) (.blockDelivering { w0 := 1 })
    (withJob j).holds j ∧ j.phase = .fetching w ∧ w.refs = [x] ∧ x.st = .writing true ∧ (withJob k).holds k :=
  ⟨⟨rfl, rfl⟩, rfl, rfl, rfl, ⟨rfl, rfl⟩⟩

/-- The whole host area but for one sector, and the sector behind it. -/
theorem test_witness_host_area :
    let j := job 2 (.blockWrite 3071 1 1) .dispatched
    let k := job 1 (.blockRead 3071 1 1) .dispatched
    let bad := job 1 (.blockRead 3072 1 1) .dispatched
    let one := { withJob k with drives := ready.drives.set 1 { ready.drives[1] with label := none } }
    let none := { one with drives := one.drives.set 0 { ready.drives[0] with label := Option.none } }
    (withJob j).carries 2 j ∧ (withJob k).carries 1 k ∧ (withJob bad).carries 1 bad ∧ one.carries 1 k ∧ none.carries 1 k
    ∧ 3071 + 1 ≤ (withJob j).cat.geo.h * 1024 ∧ (withJob j).cat.geo.h * 1024 < 3072 + 1
    ∧ one.hostDrive 0 = true ∧ one.hostDrive 1 = false ∧ none.hostDrive 0 = false ∧ none.hostDrive 1 = false :=
  ⟨⟨rfl, rfl, rfl⟩, ⟨rfl, rfl, rfl⟩, ⟨rfl, rfl, rfl⟩, ⟨rfl, rfl, rfl⟩, ⟨rfl, rfl, rfl⟩, by decide⟩

theorem test_witness_block_source :
    let w : BlockWriteWork := { first := 3071, count := 1 }
    let j := job 2 (.blockWrite 3071 1 1) (.blockWriting w)
    (withJob j).holds j ∧ w.ready = false ∧ w.offered = false ∧ (withJob j).jobs = [j] ∧ (withJob j).engine.hostCopy = none
    ∧ (withJob j).hostDrive 0 = true ∧ (withJob j).hostDrive 1 = true := ⟨⟨rfl, rfl⟩, by decide⟩

/-- Two eligible drives with their flags alike and not alike; and the last write of a BLOCK_WRITE. -/
theorem test_witness_host_ends :
    let k := job 1 (.blockRead 3071 1 1) .dispatched
    let w : BlockWriteWork := { first := 3071, count := 1, ready := true, offered := true, d0 := .underWay, d1 := .done }
    let j := job 2 (.blockWrite 3071 1 1) (.blockWriting w)
    let o : Op := { id := 55, kind := .areaWrite, count := 1, owner := .blockWrite j.id, st := .active }
    let s := (withJob j).modDrive 0 fun x => { x with ops := [o], port := .command (.segment 55) .flush false }
    (withJob k).carries 1 k ∧ s.holds j ∧ (withJob k).hostDrive 0 = true ∧ (withJob k).hostDrive 1 = true
    ∧ w.offered = true ∧ w.d1 ≠ .underWay ∧ s.drives[catDrive 0].ops = [o] ∧ o.withdrawn = false ∧ o.segsDone + 1 = o.segments
    ∧ s.drives[catDrive 0].port = .command (.segment o.id) .flush false :=
  ⟨⟨rfl, rfl, rfl⟩, ⟨rfl, rfl⟩, by decide⟩

/-! ## Witnesses: checkpoint, LOAD and FORMAT -/

theorem test_witness_checkpoint :
    let j := job 0 .checkpoint .dispatched
    let s := withJob j
    let busy := { s with engine := { ckpt := some {} } }
    s.carries 0 j ∧ busy.carries 0 j ∧ s.cat.st = .ready ∧ s.engine.ckpt = none ∧ s.engine.queued = none
    ∧ busy.engine.ckpt.isSome = true
    ∧ ∀ i : Fin 2, s.member (catDrive i) = true ∧ s.drives[catDrive i].usable = true ∧ s.drives[catDrive i].power = .ready :=
  ⟨⟨rfl, rfl, rfl⟩, ⟨rfl, rfl, rfl⟩, by decide⟩

theorem test_witness_image_write :
    let c : Ckpt := { reqs := [.sleep], d0 := .prepared, asked := true }
    let s := { ready with engine := { ckpt := some c, holdQueue := [.checkpoint, .adopt] } }
    s.engine.ckpt = some c ∧ c.asked = true ∧ c.writing = false ∧ c.d0 = .prepared ∧ c.d1 = .notTried ∧ s.engine.hold = none
    ∧ s.engine.holdQueue = .checkpoint :: [.adopt] ∧ (∀ o ∈ [HoldOwner.adopt], o ≠ .checkpoint)
    ∧ s.cat.runs s.cat.target s.cat.inStepB[(0 : Fin 2)] ≠ [] ∧ s.cat.target = .b := by decide

theorem test_witness_checkpoint_header :
    let o : Op := { id := 9, cls := .bulk, kind := .flush, owner := .checkpoint, st := .active }
    let j := job 0 .checkpoint .checkpointing
    let c : Ckpt := { reqs := [.job 7], d0 := .flush1, d1 := .notTried, asked := true, writing := true, target := .b, gen := 5, crc := 1, time := 2 }
    let again := false
    let m := withDrive 0 fun x => { x with ops := [o], port := .command (.segment o.id) .flush again, credit := 1, noAnswer := 2 }
    let s : State := { m with jobs := [j], engine := { ckpt := some c, hold := some .checkpoint } }
    s.holds j ∧ s.engine.ckpt = some c ∧ c.writing = true ∧ c.reqs = [.job j.id] ∧ (c.d1 = .notTried ∨ c.d1 = .completed)
    ∧ s.offers = [] ∧ s.drives[(0 : Fin 4)].ops = [o] ∧ s.drives[(0 : Fin 4)].room = [] ∧ o.owner = .checkpoint
    ∧ o.kind = .flush ∧ o.withdrawn = false ∧ s.drives[(0 : Fin 4)].port = .command (.segment o.id) .flush again
    ∧ c.d0 = .flush1 :=
  ⟨⟨rfl, rfl⟩, by decide⟩

/-- The last FLUSH of a checkpoint at the greatest generation but one, with both drives completed. -/
theorem test_witness_checkpoint_ends :
    let o : Op := { id := 9, cls := .bulk, kind := .flush, owner := .checkpoint, st := .active }
    let j := job 0 .checkpoint .checkpointing
    let c : Ckpt := { reqs := [.job 7], d0 := .flush2, d1 := .completed, asked := true, writing := true, target := .b, gen := 18446744073709551614, crc := 1, time := 2 }
    let again := false
    let m := withDrive 0 fun x => { x with ops := [o], port := .command (.segment o.id) .flush again, credit := 1, noAnswer := 2 }
    let s : State := { m with jobs := [j], engine := { ckpt := some c, hold := some .checkpoint }, cat := { m.cat with genA := 18446744073709551614, inStepA := #v[true, true], aus := m.cat.aus.set 2 [(5, { st := .drained, drainedGen := 18446744073709551613 })] } }
    s.holds j ∧ s.engine.ckpt = some c ∧ c.writing = true ∧ c.reqs = [.job j.id] ∧ (c.d1 = .notTried ∨ c.d1 = .completed)
    ∧ s.offers = [] ∧ s.drives[(0 : Fin 4)].ops = [o] ∧ s.drives[(0 : Fin 4)].room = [] ∧ o.owner = .checkpoint
    ∧ o.kind = .flush ∧ o.withdrawn = false ∧ s.drives[(0 : Fin 4)].port = .command (.segment o.id) .flush again
    ∧ c.d0 = .flush2 ∧ s.engine.hold = some .checkpoint ∧ s.engine.holdQueue = [] ∧ s.engine.held = []
    ∧ s.engine.queued = none ∧ c.gen.toNat < 2 ^ 64 - 1
    ∧ (match c.target with | .a => s.cat.genB | .b => s.cat.genA).toNat ≤ c.gen.toNat :=
  ⟨⟨rfl, rfl⟩, by decide⟩

theorem test_witness_checkpoint_fails :
    let o : Op := { id := 9, cls := .bulk, kind := .flush, owner := .checkpoint, st := .active }
    let j := job 0 .checkpoint .checkpointing
    let c : Ckpt := { reqs := [.job 7], d0 := .flush2, d1 := .notTried, asked := true, writing := true, target := .b, gen := 5, crc := 1, time := 2 }
    let again := false
    let m := withDrive 0 fun x => { x with ops := [o], port := .command (.segment o.id) .flush again, credit := 1, noAnswer := 2 }
    let s : State := { m with jobs := [j], engine := { ckpt := some c, hold := some .checkpoint } }
    s.holds j ∧ s.engine.ckpt = some c ∧ c.writing = true ∧ c.reqs = [.job j.id] ∧ (c.d1 = .notTried ∨ c.d1 = .completed)
    ∧ s.offers = [] ∧ s.drives[(0 : Fin 4)].ops = [o] ∧ s.drives[(0 : Fin 4)].room = [] ∧ o.owner = .checkpoint
    ∧ o.kind = .flush ∧ o.withdrawn = false ∧ s.drives[(0 : Fin 4)].port = .command (.segment o.id) .flush again
    ∧ c.d0 = .flush2 ∧ s.engine.hold = some .checkpoint ∧ s.engine.holdQueue = [] ∧ s.engine.held = []
    ∧ s.engine.queued = none ∧ c.d1 = .notTried :=
  ⟨⟨rfl, rfl⟩, by decide⟩

/-- A hold that an ending checkpoint releases passes to the ADOPT that waits for it, and the ADOPT keeps it (R101). -/
theorem test_hold_passes_to_adopt :
    let w : AdoptWork := { drive := 1, stage := .askingHold }
    let o : Op := { id := 9, cls := .bulk, kind := .flush, owner := .checkpoint, st := .active }
    let c : Ckpt := { d0 := .flush2, asked := true, writing := true }
    let m := withDrive 0 fun x => { x with ops := [o], port := .command (.segment 9) .flush false }
    let s := { m with
      jobs := [job 0 (.driveControl 1 5) (.adopting w)],
      cat := { m.cat with aus := Vector.replicate 4 [] },
      engine := { ckpt := some c, hold := some .checkpoint, holdQueue := [.adopt] } }
    (match exec (.commandAnswer 0 (.done [] 0)) s with
     | .next t => t.engine.ckpt.isNone && t.engine.hold == some .adopt
     | .fault _ | .refused _ => false) = true := by decide +kernel

/-- Drive 0 is taken out before the image write: the checkpoint has lost it and goes on with drive 1 (R116). -/
theorem test_prepared_drive_lost :
    let s := { withJob (job 0 .checkpoint .checkpointing) with
      engine := { ckpt := some { reqs := [.job 7], d0 := .prepared, d1 := .prepared, asked := true }, holdQueue := [.checkpoint] } }
    ∃ t, exec (.railSample (Vector.replicate 4 0) 0b1110) s = .next t ∧ t.engine.holdQueue = [.checkpoint]
      ∧ t.engine.ckpt = some { reqs := [.job 7], d0 := .failed, d1 := .prepared, asked := true } := ⟨_, rfl, by decide +kernel⟩

/-- A RESYNC that waits behind a checkpoint which fails without ever taking the hold takes the hold and begins (R87, R104, R114). -/
theorem test_resync_after_failed_checkpoint :
    let s := { withJob (job 0 .checkpoint .checkpointing) with
      jobs := [job 0 .checkpoint .checkpointing, { job 0 (.driveControl 1 6) (.resyncing 1 .askingHold) with id := 8 }]
      engine := { ckpt := some { reqs := [.job 7], d1 := .prepared, asked := true }, holdQueue := [.checkpoint, .resync] } }
    ∃ t, exec (.railSample (Vector.replicate 4 0) 0b1101) s = .next t ∧ t.engine.hold = some .resync ∧ t.engine.holdQueue = []
      ∧ t.engine.hostCopy = some { target := 1, waiting := false } ∧ t.engine.ckpt = none := ⟨_, rfl, by decide +kernel⟩

/-- When it is the only drive tried, the checkpoint has failed and asks for no hold (R112, R116). -/
theorem test_only_drive_lost :
    let s := { withJob (job 0 .checkpoint .checkpointing) with
      engine := { ckpt := some { reqs := [.job 7], d0 := .prepared, asked := true }, holdQueue := [.checkpoint] } }
    ∃ t, exec (.railSample (Vector.replicate 4 0) 0b1110) s = .next t ∧ t.engine.holdQueue = [] ∧ t.engine.ckpt = none
      ∧ t.jobs.all (fun j => j.phase != .checkpointing) = true := ⟨_, rfl, by decide +kernel⟩

/-- `unloaded` with a LOAD or FORMAT and its drives. -/
def loading (j : Job) (f : Fin 4 → Drive) : State := { unloaded with cat := { st := .loading }, jobs := [j], drives := Vector.ofFn f }

theorem test_witness_load :
    let j := job 0 .load .dispatched
    let w : LoadWork := {}
    let k := job 0 .load (.loading w)
    let s := loading k fun d => { drive d with power := if d = 0 then .ready else .parked }
    let t := loading k fun d => { drive d with power := .parked }
    (withJob j).carries 0 j ∧ (withJob j).cat.st ≠ .notLoaded ∧ ({ withJob j with cat := {} } : State).cat.st = .notLoaded
    ∧ s.holds k ∧ t.holds k ∧ s.loadJob = some (k.id, w) ∧ t.loadJob = some (k.id, w) ∧ w.stage = .starting ∧ w.waiting = []
    ∧ s.drives[(0 : Fin 4)].power = .ready ∧ (∀ d : Fin 4, d ≠ 0 → s.drives[d].power ≠ .ready)
    ∧ t.drives[(0 : Fin 4)].power ≠ .ready ∧ t.drives[(1 : Fin 4)].power ≠ .ready :=
  ⟨⟨rfl, rfl, rfl⟩, by decide, rfl, ⟨rfl, rfl⟩, ⟨rfl, rfl⟩, by decide⟩

theorem test_witness_image :
    let c : Candidate := { drive := 0, slot := .a, hdr := {} }
    let done := fun bad : Bool => ({ stage := .image, cands := [c], passed := 1, bad := bad } : LoadWork)
    let none : LoadWork := { stage := .headers, bAsked := true, a0 := .failed }
    (∀ b : Bool, (loading (job 0 .load (.loading (done b))) drive).holds (job 0 .load (.loading (done b)))
      ∧ (loading (job 0 .load (.loading (done b))) drive).loadJob = some (7, done b) ∧ (done b).stage = .image ∧ (done b).reads = 0
      ∧ (done b).cands = c :: [] ∧ (done b).bad = b ∧ crc32 (done b).bytes = c.hdr.imageCrc)
    ∧ none.headersRead = true ∧ none.candidates = [] := ⟨fun b => by cases b <;> exact ⟨⟨rfl, rfl⟩, by decide⟩, by decide⟩

theorem test_witness_next_image :
    let c : Candidate := { drive := 0, slot := .a, hdr := {} }
    let d : Candidate := { drive := 1, slot := .b, hdr := { e := 16, h := 3, au := geo.au, c := 5 } }
    let m : List Candidate := []
    let l := d :: m
    let w : LoadWork := { stage := .image, cands := c :: l, passed := 2, bad := true, bytes := [1] }
    let j := job 0 .load (.loading w)
    let s := loading j drive
    s.holds j ∧ s.loadJob = some (j.id, w) ∧ w.stage = .image ∧ w.reads = 0 ∧ w.cands = c :: l
    ∧ (w.bad = true ∨ crc32 w.bytes ≠ c.hdr.imageCrc) ∧ l = d :: m :=
  ⟨⟨rfl, rfl⟩, by decide⟩

/-- A header that passes its check is a candidate. -/
theorem test_witness_candidate :
    let h : Header := { generation := 5, boxId := 77, e := 16, h := 3, au := geo.au, c := slotAus 16 geo.au }
    let w : LoadWork := { stage := .headers, bAsked := true, a0 := .read h.sector }
    w.headersRead = true ∧ w.candidates.map (fun c => (c.drive, c.hdr.generation)) = [(0, 5)] := by decide

theorem test_witness_format :
    let j := fun h => job 0 (.format 1 h false) .dispatched
    let s := fun h => { unloaded with jobs := [j h] }
    (∀ h ∈ [0, 1, 1024, 1025], (s h).carries 0 (j h)) ∧ (withJob (j 1)).carries 0 (j 1) ∧ (withJob (j 1)).cat.st = .ready
    ∧ (s 1).cat.st = .notLoaded ∧ (s 1).openStreams = 0
    ∧ (s 1).drives[(0 : Fin 4)].usable = true ∧ (s 1).drives[(1 : Fin 4)].usable = true :=
  ⟨fun _ _ => ⟨rfl, rfl, rfl⟩, ⟨rfl, rfl, rfl⟩, by decide⟩

theorem test_witness_format_force :
    let box : BitVec 64 := 1
    let h := 1024
    let force := true
    let j := job 0 (.format box h force) .dispatched
    let o : Op := { id := 9, kind := .areaRead, owner := .fetch 5 0 }
    let f : Op := { id := 10, kind := .flush, owner := .checkpoint }
    let m := withDrive 1 fun x => { x with power := .parked, ops := [f, o], room := [f] }
    let s : State := { m with jobs := [j], engine := { hold := some .checkpoint }, offers := [{ drive := 2, op := f }, { drive := 2, op := o }], repair := { list := [{}] } }
    s.carries 0 j ∧ box ≠ 0 ∧ 1 ≤ h ∧ h ≤ 1024 ∧ s.cat.st = .ready ∧ force = true ∧ s.openStreams = 0 ∧ s.jobs = [j]
    ∧ s.drives[(0 : Fin 4)].usable = true ∧ s.drives[(1 : Fin 4)].usable = true :=
  ⟨⟨rfl, rfl, rfl⟩, by decide⟩

theorem test_witness_format_refused :
    let box : BitVec 64 := 1
    let h := 1024
    let force := false
    let j := job 0 (.format box h force) .dispatched
    let s : State := { unloaded with jobs := [j], streams := ready.streams.set 3 open3 }
    s.carries 0 j ∧ box ≠ 0 ∧ 1 ≤ h ∧ h ≤ 1024 ∧ s.cat.st = .notLoaded ∧ s.openStreams ≠ 0 :=
  ⟨⟨rfl, rfl, rfl⟩, by decide⟩

/-- The smallest drives 0 and 1 that FORMAT takes with H = 3, and drives one AU smaller. -/
theorem test_witness_format_sizes :
    let w : FormatWork := { boxId := 1, h := 3 }
    let k := job 0 (.format 1 3 false) (.formatting w)
    let s := fun n : Nat => loading k fun d =>
      { drive d with capacity := 1024 * n, power := if d.val < 2 then .ready else .unpowered }
    let least := fun n : Nat => 2 * ((s n).formatGeo 3).c + 3 + 2
    (∀ n, (s n).holds k ∧ (s n).formatJob = some (k.id, w)) ∧ w.writing = false ∧ w.waiting = []
    ∧ (∃ n ∈ List.range 64, ((s n).formatGeo 3).au[0] = least n ∧ ((s n).formatGeo 3).au[1] = least n)
    ∧ (∃ n ∈ List.range 64, ((s n).formatGeo 3).au[0] + 1 = least n) :=
  ⟨fun _ => ⟨⟨rfl, rfl⟩, rfl⟩, rfl, rfl, by decide, by decide⟩

theorem test_witness_format_done :
    let w : FormatWork := { boxId := 1, h := 3, writing := true, geo := geo, steps := #v[.finished, .finished, .finished, .none] }
    let k := job 0 (.format 1 3 false) (.formatting w)
    (loading k drive).holds k ∧ (loading k drive).formatJob = some (k.id, w) ∧ w.writing = true
    ∧ w.steps[(0 : Fin 4)] = .finished ∧ w.steps[(1 : Fin 4)] = .finished ∧ w.steps[(2 : Fin 4)].over = true
    ∧ w.steps[(3 : Fin 4)].over = true := ⟨⟨rfl, rfl⟩, by decide⟩

/-! ## Witnesses: drives -/

/-- A READY member drive at rest. -/
def still (d : Fin 4) : Drive := (drive d).timers 900

theorem still_rests (d : Fin 4) : (still d).resting 900 := ⟨rfl, rfl, rfl, rfl, rfl, rfl, nofun, nofun, fun _ => rfl, rfl⟩

/-- Drives at rest, with a job that waits on none, on any supply. -/
theorem test_witness_still (j : Job) (b : Box) (h : j.phase.waitsOnDrive = false) :
    State.resting { withJob j with drives := Vector.ofFn still, box := b } :=
  ⟨fun d => by
    simp only [Fin.getElem_fin, Vector.getElem_ofFn]
    fin_cases d <;> exact still_rests _, rfl, rfl, fun i hi => by
    rw [List.mem_singleton.mp hi]; exact h⟩

/-- `ready` with a job and drive 1 changed. -/
def withBoth (j : Job) (f : Drive → Drive) : State := (withJob j).modDrive 1 f

theorem test_witness_drive_control :
    let j := fun d a => job 0 (.driveControl d a) .dispatched
    let s := fun (a : Nat) (p : Power) => withBoth (j 1 a) fun x => { x with power := p }
    (∀ a ∈ [1, 2, 3, 4], (withJob (j 4 a)).carries 0 (j 4 a) ∧ ∀ p, (s a p).carries 0 (j 1 a) ∧ (s a p).drives[(1 : Fin 4)].power = p)
    ∧ (∀ p, p ≠ .absent → (s 1 p).drives[(1 : Fin 4)].usable = true) ∧ (s 1 .absent).drives[(1 : Fin 4)].usable = false
    ∧ DemandBy.start ∉ (s 1 .parked).drives[(1 : Fin 4)].demands :=
  ⟨fun _ _ => ⟨⟨rfl, rfl, rfl⟩, fun _ => ⟨⟨rfl, rfl, rfl⟩, rfl⟩⟩, fun p => by cases p <;> decide, by decide⟩

/-- A start that fails while the START of the drive waits to be carried out counts for its result word 1 (R4, R151). -/
theorem test_early_start_failure :
    let j := job 0 (.driveControl 1 1) .dispatched
    let s := withBoth j fun x => { x with power := .starting, startTimer := some 30 }
    (∃ t, exec (.startTimeout 1) s = .next t ∧ t.jobs = [{ j with fails := 1 }])
    ∧ ∃ t, exec .driveControlStart (withBoth { j with fails := 1 } id) = .next t
      ∧ (t.jobs.map fun j => j.phase) = [.writingResults { w0 := 3, w1 := 1 }] :=
  ⟨⟨_, rfl, by decide +kernel⟩, ⟨_, rfl, by decide +kernel⟩⟩

theorem test_witness_clear_fault :
    let d := 1
    let n : Fin 4 := 1
    let j := job 0 (.driveControl 1 4) .dispatched
    let s := withBoth j fun x => { x with causes := { rail := true, noAnswer := true }, degraded := true, startFails := 3, score := 9, setupIncomplete := true, power := .unpowered }
    s.carries 0 j ∧ n.val = d :=
  ⟨⟨rfl, rfl, rfl⟩, by decide⟩

theorem test_witness_adopt :
    let j := fun a => job 0 (.driveControl 1 a) .dispatched
    let s := fun p : Power => withBoth (j 5) fun x => { x with label := none, power := p }
    let t := withBoth (j 6) fun x => { x with power := .parked }
    let high := job 0 (.driveControl 2 6) .dispatched
    (∀ p, (s p).carries 0 (j 5)) ∧ t.carries 0 (j 6) ∧ (withJob high).carries 0 high ∧ (withJob (j 5)).carries 0 (j 5)
    ∧ (s .parked).cat.st = .ready ∧ (s .parked).member 1 = false ∧ (s .parked).drives[(1 : Fin 4)].usable = true
    ∧ (s .absent).drives[(1 : Fin 4)].usable = false ∧ (withJob (j 5)).member 1 = true
    ∧ t.member 1 = true ∧ t.drives[(1 : Fin 4)].usable = true ∧ t.drives[(1 : Fin 4)].power ≠ .ready
    ∧ DemandBy.resync ∉ t.drives[(1 : Fin 4)].demands :=
  ⟨fun _ => ⟨rfl, rfl, rfl⟩, ⟨rfl, rfl, rfl⟩, ⟨rfl, rfl, rfl⟩, ⟨rfl, rfl, rfl⟩, by decide⟩

theorem test_witness_adopt_action :
    let w : AdoptWork := { drive := 1, stage := .askingHold }
    let j := job 0 (.driveControl 1 5) (.adopting w)
    let s := holding { withJob j with engine := { holdQueue := [.adopt] } } (entry 1)
    s.holds j ∧ s.adoptJob = some (j.id, w) ∧ w.drive = catDrive 1 ∧ s.engine.hold = none ∧ s.engine.holdQueue = [.adopt]
    ∧ s.cat.aus[catDrive 1] = [] ∧ ∀ q ∈ s.cat.index, q.2.st = .pending ∨ q.2.onDrive (catDrive 1) = 0 := ⟨⟨rfl, rfl⟩, by decide⟩

theorem test_witness_adopt_bad :
    let j := job 0 (.driveControl 4 5) .dispatched
    (withJob j).carries 0 j ∧ 4 ≤ 4 :=
  ⟨⟨rfl, rfl, rfl⟩, by decide⟩

theorem test_witness_resync_unavailable :
    let n : Fin 4 := 1
    let j := job 0 (.driveControl 1 6) .dispatched
    let s := withBoth j fun x => { x with causes := { start := true }, power := .unpowered }
    s.carries 0 j ∧ s.cat.st = .ready ∧ s.member n = true ∧ s.drives[n].usable = false :=
  ⟨⟨rfl, rfl, rfl⟩, by decide⟩

theorem test_witness_resync :
    let n : Fin 4 := 1
    let i : Fin 2 := 1
    let j := job 0 (.driveControl 1 6) .dispatched
    let s : State := { withJob j with drives := Vector.ofFn still }
    s.carries 0 j ∧ catDrive i = n ∧ s.cat.st = .ready ∧ s.member n = true ∧ s.drives[n].usable = true
    ∧ s.drives[n].power = .ready ∧ s.jobs = [j] ∧ s.engine.hold = none ∧ s.engine.holdQueue = [] ∧ s.engine.orphans = []
    ∧ s.member (catDrive (1 - i)) = true ∧ s.drives[catDrive (1 - i)].failed = false ∧ s.cat.stale[1 - i] = false :=
  ⟨⟨rfl, rfl, rfl⟩, by decide⟩

theorem test_witness_copy_read :
    let h : HostCopy := { target := 1, pairs := 0, waiting := false }
    let p : Fin 4 := 0
    let o : Op := { id := 9, kind := .areaRead, first := 11264, count := 256, owner := .hostCopy, st := .active, segsDone := 3, data := [1] }
    let c : DriveCmd := .read 11456 64
    let again := true
    let n : Fin 4 := 1
    let j := job 0 (.driveControl 1 6) (.resyncing n .copying)
    let m := (withJob j).modDrive p fun x => { x with ops := [o], port := .command (.segment o.id) c again, credit := 0 }
    let s : State := { m with engine := { hostCopy := some h, hold := some .resync }, cat := { m.cat with stale := #v[false, true] } }
    s.powered = true ∧ s.engine.hostCopy = some h ∧ s.drives[p].ops = [o] ∧ o.owner = .hostCopy ∧ o.withdrawn = false
    ∧ o.segsDone + 1 = o.segments ∧ s.drives[p].port = .command (.segment o.id) c again ∧ o.kind = .areaRead := by
  decide

theorem test_witness_copy_pair :
    let h : HostCopy := { target := 1, pairs := 10, waiting := false }
    let p : Fin 4 := 1
    let o : Op := { id := 9, kind := .areaWrite, first := 11264, count := 256, owner := .hostCopy, st := .active, segsDone := 3, data := [1] }
    let c : DriveCmd := .read 11456 64
    let again := true
    let n : Fin 4 := 1
    let j := job 0 (.driveControl 1 6) (.resyncing n .copying)
    let m := (withJob j).modDrive p fun x => { x with ops := [o], port := .command (.segment o.id) c again, credit := 0 }
    let s : State := { m with engine := { hostCopy := some h, hold := some .resync }, cat := { m.cat with stale := #v[false, true] } }
    s.powered = true ∧ s.engine.hostCopy = some h ∧ s.drives[p].ops = [o] ∧ o.owner = .hostCopy ∧ o.withdrawn = false
    ∧ o.segsDone + 1 = o.segments ∧ s.drives[p].port = .command (.segment o.id) c again ∧ o.kind = .areaWrite
    ∧ h.pairs + 1 < 4 * s.cat.geo.h := by
  decide

theorem test_witness_copy_ends :
    let h : HostCopy := { target := 1, pairs := 11, waiting := false }
    let p : Fin 4 := 1
    let o : Op := { id := 9, kind := .areaWrite, first := 11264, count := 256, owner := .hostCopy, st := .active, segsDone := 3, data := [1] }
    let c : DriveCmd := .read 11456 64
    let again := true
    let n : Fin 4 := 1
    let j := job 0 (.driveControl 1 6) (.resyncing n .copying)
    let m := (withJob j).modDrive p fun x => { x with ops := [o], port := .command (.segment o.id) c again, credit := 0 }
    let s : State := { m with engine := { hostCopy := some h, hold := some .resync }, cat := { m.cat with stale := #v[false, true] } }
    s.powered = true ∧ s.engine.hostCopy = some h ∧ s.drives[p].ops = [o] ∧ o.owner = .hostCopy ∧ o.withdrawn = false
    ∧ o.segsDone + 1 = o.segments ∧ s.drives[p].port = .command (.segment o.id) c again ∧ o.kind = .areaWrite
    ∧ 4 * s.cat.geo.h ≤ h.pairs + 1 ∧ s.jobs = [j] ∧ j.phase = .resyncing n .copying ∧ s.engine.hold = some .resync
    ∧ s.engine.holdQueue = [] ∧ s.engine.held = [] := by
  decide

theorem test_witness_offer :
    let o : Op := { id := 9, cls := .bulk, kind := .chunkRead, first := 204799, count := 1, owner := .repairRead }
    let s := { withDrive 1 fun x => { x with ops := List.replicate 31 o } with offers := [{ drive := 1, op := o }] }
    s.offers = { drive := 1, op := o } :: [] ∧ o.badRange s.drives[(1 : Fin 4)].capacity = false
    ∧ s.drives[(1 : Fin 4)].failed = false ∧ s.drives[(1 : Fin 4)].power = .ready ∧ s.drives[(1 : Fin 4)].ops.length < 32 := by decide

theorem test_witness_port :
    let s := fun q : PortState => withDrive 1 fun x => { x with port := q, noAnswer := 1 }
    (∀ q, (s q).drives[(1 : Fin 4)].port = q ∧ (s q).powered = true ∧ (s q).drives[(1 : Fin 4)].noAnswer < 2)
    ∧ PortUse.label ≠ .wake ∧ ∀ f b, DriveCmd.read 0 1 ≠ .write f b :=
  ⟨fun _ => ⟨rfl, rfl, by show (1 : Nat) < 2; decide⟩, nofun, nofun⟩

theorem test_witness_segment_more :
    let d : Fin 4 := 1
    let n : Fin 8 := 3
    let id := 12
    let k : CopyName := .b
    let o : Op := { id := 9, cls := .bulk, kind := .chunkWrite, first := 30000, count := 128, owner := .chunkCopy n id k, st := .active }
    let c : DriveCmd := .write 30000 []
    let r := false
    let s := withDrive d fun x => { x with ops := [o, { id := 8, cls := .bulk, kind := .chunkRead, first := 9, count := 65, owner := .repairRead }], port := .command (.segment o.id) c r, credit := 3, noAnswer := 2 }
    s.drives[d].port = .command (.segment o.id) c r ∧ (s.drives[d].ops.find? fun p => p.id == o.id) = some o
    ∧ o.kind ≠ .tempPoll ∧ o.withdrawn = false ∧ o.segsDone + 1 < o.segments := by
  decide

theorem test_witness_segment_withdrawn :
    let d : Fin 4 := 1
    let n : Fin 8 := 3
    let id := 12
    let k : CopyName := .b
    let o : Op := { id := 9, cls := .bulk, kind := .chunkWrite, first := 30000, count := 128, owner := .chunkCopy n id k, st := .active, withdrawn := true }
    let c : DriveCmd := .write 30000 []
    let r := false
    let s := withDrive d fun x => { x with ops := [o, { id := 8, cls := .bulk, kind := .chunkRead, first := 9, count := 65, owner := .repairRead }], port := .command (.segment o.id) c r, credit := 3, noAnswer := 2 }
    s.drives[d].port = .command (.segment o.id) c r ∧ (s.drives[d].ops.find? fun p => p.id == o.id) = some o
    ∧ o.kind ≠ .tempPoll ∧ o.withdrawn = true := by
  decide

theorem test_witness_segment_last :
    let d : Fin 4 := 1
    let n : Fin 8 := 3
    let id := 12
    let k : CopyName := .b
    let o : Op := { id := 9, cls := .bulk, kind := .chunkWrite, first := 30000, count := 128, owner := .chunkCopy n id k, st := .active, segsDone := 1 }
    let c : DriveCmd := .write 30000 []
    let r := false
    let s := withDrive d fun x => { x with ops := [o, { id := 8, cls := .bulk, kind := .chunkRead, first := 9, count := 65, owner := .repairRead }], port := .command (.segment o.id) c r, credit := 3, noAnswer := 2 }
    s.drives[d].port = .command (.segment o.id) c r ∧ (s.drives[d].ops.find? fun p => p.id == o.id) = some o
    ∧ o.kind ≠ .tempPoll ∧ o.withdrawn = false ∧ o.segments ≤ o.segsDone + 1 ∧ o.kind = .chunkWrite
    ∧ o.owner = .chunkCopy n id k := by
  decide

theorem test_witness_segment_lost :
    let d : Fin 4 := 1
    let n : Fin 8 := 3
    let id := 12
    let k : CopyName := .b
    let o : Op := { id := 9, cls := .bulk, kind := .chunkWrite, first := 30000, count := 128, owner := .chunkCopy n id k, st := .active }
    let c : DriveCmd := .write 30000 []
    let r := false
    let s := withDrive d fun x => { x with ops := [o], credit := 3, port := .resetting (.segment o.id) c r, noAnswer := 1 }
    s.drives[d].port = .resetting (.segment o.id) c r ∧ s.drives[d].ops = [o] ∧ o.withdrawn = false ∧ o.kind = .chunkWrite
    ∧ o.owner = .chunkCopy n id k ∧ s.drives[d].noAnswer < 2 := by
  decide

theorem test_witness_feature :
    let d : Fin 4 := 1
    let u : Startup := { stage := .features, todo := [(1, 2), (3, 4)] }
    let c : DriveCmd := .identify
    let r := false
    let s := withDrive d fun x => { x with port := .command .feature c r, startup := some u, identified := false, credit := 3, noAnswer := 2 }
    s.drives[d].startup = some u ∧ s.drives[d].port = .command .feature c r := by
  decide

theorem test_witness_identify :
    let d : Fin 4 := 1
    let u : Startup := { stage := .identify, todo := [] }
    let c : DriveCmd := .identify
    let r := false
    let s := withDrive d fun x => { x with port := .command .identify c r, startup := some u, identified := false, credit := 3, noAnswer := 2 }
    s.drives[d].startup = some u ∧ s.drives[d].port = .command .identify c r := by
  decide

theorem test_witness_label :
    let d : Fin 4 := 1
    let u : Startup := { stage := .identify, todo := [] }
    let c : DriveCmd := .identify
    let r := false
    let s := withDrive d fun x => { x with port := .command .label c r, startup := some u, identified := false, credit := 3, noAnswer := 2 }
    s.drives[d].port = .command .label c r := by
  decide

/-- The same of a LABEL_WRITE and of a LABEL_READ: the kept label follows the answer (R90, R137). -/
theorem test_withdrawn_label :
    let o : Op := { id := 9, cls := .bulk, kind := .labelWrite, count := 1, owner := .adoptLabelWrite, st := .active, withdrawn := true
                    payload := labelSector 78 1 9 5 }
    let c : DriveCmd := .write 0 []
    let s := fun o : Op => withDrive 1 fun x => { x with ops := [o], port := .command (.segment o.id) c false }
    (s o).drives[(1 : Fin 4)].port = .command (.segment o.id) c false
    ∧ ((s o).drives[(1 : Fin 4)].ops.find? fun p => p.id == o.id) = some o ∧ o.kind ≠ .tempPoll ∧ o.withdrawn = true
    ∧ (∃ t, exec (.commandAnswer 1 (.done [] 0)) (s o) = .next t ∧ t.drives[(1 : Fin 4)].label = readLabel (labelSector 78 1 9 5))
    ∧ ∃ t, exec (.commandAnswer 1 (.done (zeros 4096) 0)) (s { o with kind := .labelRead }) = .next t
      ∧ t.drives[(1 : Fin 4)].label = none := ⟨rfl, rfl, nofun, rfl, ⟨_, rfl, by decide +kernel⟩, ⟨_, rfl, by decide +kernel⟩⟩

/-- At the end of the drain FORMAT's operation with a segment issued runs on, its others and a FETCH's read are withdrawn (R190). -/
theorem test_abandoned :
    let o : Op := { kind := .labelWrite, owner := .format }
    o.abandoned = true ∧ { o with st := .active }.abandoned = false
    ∧ { o with owner := .fetch 7 0, st := .active }.abandoned = true := by decide

theorem test_witness_standby :
    let d : Fin 4 := 1
    let u : Startup := { stage := .identify, todo := [] }
    let c : DriveCmd := .identify
    let r := false
    let s := withDrive d fun x => { x with port := .command .standby c r, startup := some u, identified := false, credit := 3, noAnswer := 2, power := .stopping }
    s.drives[d].port = .command .standby c r ∧ s.drives[d].park = none := by
  decide

/-- A STANDBY for a PARK that drive 1 waits for. -/
def parking1 (p : PortState) : State :=
  { withDrive 1 fun x => { x with port := p, noAnswer := 2, power := .stopping, park := some { job := true } } with
    jobs := [{ job 0 (.driveControl 1 2) (.parking 1 false) with fails := 3 }] }

theorem test_witness_standby_parks :
    let s := parking1 (.command .standby .standby false)
    let j := { job 0 (.driveControl 1 2) (.parking 1 false) with fails := 3 }
    s.powered = true ∧ s.drives[(1 : Fin 4)].port = .command .standby .standby false ∧ s.drives[(1 : Fin 4)].park.isSome = true
    ∧ s.jobs = [j] ∧ j.phase = .parking 1 false := by decide

/-- The drive is UNPOWERED before its third NO_ANSWER latches FAILED, so that the PARK is settled with OK (R132, R152). -/
theorem test_standby_third_no_answer :
    ∃ t, exec (.portResetTimeout 1) (parking1 (.resetting .standby .standby false)) = .next t
      ∧ (t.jobs.map fun j => j.phase) = [.writingResults { w0 := 1, w1 := 3 }] ∧ t.drives[(1 : Fin 4)].failed = true :=
  ⟨_, rfl, by decide +kernel⟩

theorem test_witness_label_lost :
    let d : Fin 4 := 1
    let u : Startup := { stage := .identify, todo := [] }
    let c : DriveCmd := .identify
    let r := false
    let s := withDrive d fun x => { x with startup := some u, identified := false, credit := 3, port := .resetting .label c r, noAnswer := 1 }
    s.drives[d].port = .resetting .label c r ∧ s.drives[d].noAnswer < 2 := by
  decide

theorem test_witness_starts :
    let s := withDrive 1 fun x => { x with power := .starting, startTimer := some 30 }
    let t := withDrive 1 fun x => { x with idle := some 900 }
    s.loadJob = none ∧ s.engine.ckpt = none ∧ s.drives[(1 : Fin 4)].power = .starting ∧ s.drives[(1 : Fin 4)].fromParked = false
    ∧ s.drives[(1 : Fin 4)].startTimer.isSome = true ∧ s.drives[(1 : Fin 4)].startFails = 0
    ∧ t.drives[(1 : Fin 4)].idle.isSome = true := by decide

theorem test_witness_wakes :
    let d : Fin 4 := 1
    let c : DriveCmd := .wake
    let r := false
    let s := withBoth { job 0 (.driveControl 1 1) (.starting 1) with fails := 4 } fun x => { x with power := .starting, fromParked := true, port := .command .wake c r, startTimer := some 30, startFails := 0, demands := [.start, .prestart], credit := 0, noAnswer := 1, idle := some 3 }
    s.loadJob = none ∧ s.engine.ckpt = none ∧ s.drives[d].power = .starting ∧ s.drives[d].fromParked = true
    ∧ s.drives[d].port = .command .wake c r ∧ s.drives[d].startFails = 0 ∧ s.drives[d].failed = false := by
  decide

theorem test_witness_rails :
    let s := withDrive 1 fun _ => {}
    let t := withDrive 1 fun _ => { present := true, power := .unpowered, railGrace := some 2 }
    (∀ d : Fin 4, s.drives[d].power ≠ .absent → (0xD : BitVec 4).getLsbD d.val = true)
    ∧ t.drives[(1 : Fin 4)].railGrace.isSome = true ∧ t.drives[(1 : Fin 4)].power = .unpowered
    ∧ t.drives[(1 : Fin 4)].failed = false ∧ t.drives[(1 : Fin 4)].ops = [] ∧ t.drives[(1 : Fin 4)].room = []
    ∧ t.loadJob = none ∧ t.engine.ckpt = none := by decide

theorem test_witness_taken_out :
    let d : Fin 4 := 1
    let current : Vector Nat 4 := Vector.replicate 4 4
    let present : BitVec 4 := 0xD
    let s := withDrive d fun x => { x with railGrace := some 2, port := .command .label (.read 0 1) false, hotGrace := some 3, poll := some 4 }
    s.powered = true ∧ s.drives[d].failed = false ∧ s.drives[d].ops = [] ∧ s.drives[d].room = [] ∧ s.loadJob = none
    ∧ s.engine.ckpt = none ∧ s.drives[d].power ≠ .absent ∧ present.getLsbD d.val = false
    ∧ (∀ e : Fin 4, e ≠ d → (s.drives[e].power = .absent ↔ present.getLsbD e.val = false))
    ∧ ∀ e : Fin 4, current[e] < s.cfg.leak := by
  decide

theorem test_witness_health :
    let s := withDrive 1 fun x => { x with poll := some 60, hotGrace := some 10, decay := some 3600, score := 1 }
    let o : Op := { id := 9, kind := .tempPoll, owner := .tempPoll }
    s.drives[(1 : Fin 4)].poll.isSome = true ∧ s.drives[(1 : Fin 4)].hotGrace.isSome = true
    ∧ s.drives[(1 : Fin 4)].decay.isSome = true ∧ s.polling 1 = false
    ∧ (s.modDrive 1 fun x => { x with ops := [o] }).polling 1 = true := by decide

theorem test_witness_reading :
    let d : Fin 4 := 1
    let o : Op := { id := 9, cls := .bulk, kind := .tempPoll, owner := .tempPoll, st := .active }
    let c : DriveCmd := .readTemp
    let r := false
    let s := withDrive d fun x => { x with ops := [o], port := .command (.segment o.id) c r, credit := 3, noAnswer := 2 }
    s.drives[d].ops = [o] ∧ o.withdrawn = false ∧ s.drives[d].port = .command (.segment o.id) c r ∧ o.kind = .tempPoll
    ∧ o.owner = .tempPoll := by
  decide

theorem test_witness_media :
    let d : Fin 4 := 1
    let n : Fin 8 := 3
    let id := 12
    let k : CopyName := .b
    let o : Op := { id := 9, cls := .bulk, kind := .chunkWrite, first := 30000, count := 128, owner := .chunkCopy n id k, st := .active }
    let c : DriveCmd := .readTemp
    let r := false
    let s := withDrive d fun x => { x with ops := [o], port := .command (.segment o.id) c r, credit := 3, noAnswer := 2, score := 6 }
    s.drives[d].ops = [o] ∧ o.withdrawn = false ∧ s.drives[d].port = .command (.segment o.id) c r ∧ o.kind = .chunkWrite
    ∧ o.owner = .chunkCopy n id k ∧ s.drives[d].score < 255
    ∧ (s.drives[d].score + 1 < s.cfg.mediaLimit ∨ s.drives[d].degraded = true) := by
  decide

theorem test_witness_degrades :
    let d : Fin 4 := 1
    let n : Fin 8 := 3
    let id := 12
    let k : CopyName := .b
    let o : Op := { id := 9, cls := .bulk, kind := .chunkWrite, first := 30000, count := 128, owner := .chunkCopy n id k, st := .active }
    let c : DriveCmd := .readTemp
    let r := false
    let s := withDrive d fun x => { x with ops := [o], port := .command (.segment o.id) c r, credit := 3, noAnswer := 2, score := 7, snapCount := 2 }
    s.drives[d].ops = [o] ∧ o.withdrawn = false ∧ s.drives[d].port = .command (.segment o.id) c r
    ∧ s.cfg.mediaLimit ≤ s.drives[d].score + 1 ∧ s.drives[d].degraded = false := by
  decide

theorem test_witness_no_answer :
    let d : Fin 4 := 1
    let c : DriveCmd := .read 0 1
    let r := true
    let s := withDrive d fun x => { x with port := .resetting .label c r, noAnswer := 2, startup := some {}, credit := 1, demands := [.start], hotGrace := some 1, poll := some 4 }
    s.drives[d].port = .resetting .label c r ∧ s.drives[d].noAnswer = 2 ∧ s.drives[d].failed = false
    ∧ s.drives[d].power = .ready ∧ s.drives[d].ops = [] ∧ s.drives[d].room = [] ∧ s.loadJob = none ∧ s.engine.ckpt = none := by
  decide

/-! ## Witnesses: scrub -/

theorem test_witness_scrub :
    let j := job 3 (.scrub 65535 65537 true false 0) .dispatched
    let k := job 3 (.scrub 65536 1 true false 0) .dispatched
    (withJob j).carries 3 j ∧ (withJob k).carries 3 k ∧ (withJob j).cat.st = .ready ∧ 65535 < 2 ^ (withJob j).cat.geo.e
    ∧ 2 ^ (withJob k).cat.geo.e ≤ 65536 ∧ (withJob j).scrub = none ∧ (withJob j).chains[(3 : Fin 4)].st ≠ .stopped :=
  ⟨⟨rfl, rfl, rfl⟩, ⟨rfl, rfl, rfl⟩, by decide⟩

theorem test_witness_scrub_step :
    let x : ScrubCtx := { job := some 7, next := 799, left := 2 }
    let p : ScrubStep := { slot := 799, key := (entry 1).key, copies := [{ copy := .a, loc := (entry 1).a.loc, verdict := .good }] }
    let s := { ready with scrub := some x }
    let e := { entry 1 with b := some { loc := ⟨3, 30000⟩, st := .absent } }
    let t := fun (y : ScrubStep) (q : CatReq) => holding { ready with scrub := some { x with step := some y }, engine := { requests := [q] } } (entry 1)
    s.scrub = some x ∧ 2 ≤ x.left ∧ s.chains[(3 : Fin 4)].st ≠ .stopped ∧ x.step = none ∧ s.cat.entry x.next = none
    ∧ (holding s (entry 1)).cat.entry x.next = some (entry 1) ∧ (entry 1).st = .live
    ∧ (holding s (entry 1)).recentlyVerified x.skipRecent (entry 1) = false
    ∧ (holding s (entry 1)).presentCopies (entry 1) = [(.a, (entry 1).a)]
    ∧ (holding s e).presentCopies e = [(.a, e.a)] ∧ e.b ≠ none
    ∧ (t p .scrubPlan).cat.entry p.slot = some (entry 1) ∧ (entry 1).key = p.key ∧ (entry 1).a.st = .good ∧ (entry 1).b = none
    ∧ (t p .scrubPlan).engine.hold = none ∧ (t p .scrubPlan).engine.requests = .scrubPlan :: [] ∧ (t p .scrubPlan).today = some 57
    ∧ (t p .scrubPlan).present (entry 1).a = true ∧ (entry 1).wanted = 1 ∧ p.rewrites = [] ∧ p.mirror = none := by decide

/-- A rewrite of copy A, which the plan made SUSPECT while copy B was read good. -/
def rewritten : Entry := { entry 1 with wanted := 2, a := { loc := ⟨2, 30000⟩, st := .suspect }, b := some { loc := ⟨3, 30000⟩ } }
def rewrite1 : ScrubRewrite := { copy := .a, loc := ⟨2, 30000⟩, result := some .done }
def rewriteStep : ScrubStep :=
  { slot := 799, key := rewritten.key, stage := .updating, rewrites := [rewrite1]
    copies := [{ copy := .a, loc := ⟨2, 30000⟩, verdict := .bad rewrite1.reason }, { copy := .b, loc := ⟨3, 30000⟩, verdict := .good }] }
def rewriting1 : State :=
  holding { ready with scrub := some { job := some 7, next := 799, left := 2, step := some rewriteStep }, engine := { requests := [.scrubUpdate] } }
    rewritten

theorem test_witness_scrub_rewrite :
    let p := rewriteStep
    let e := rewritten
    let b : Copy := { loc := ⟨3, 30000⟩ }
    let s := rewriting1
    s.powered = true ∧ s.cat.entry p.slot = some e ∧ e.key = p.key ∧ e.st = .live ∧ s.engine.hold = none ∧ s.chains[(3 : Fin 4)].st ≠ .stopped
    ∧ s.engine.requests = .scrubUpdate :: [] ∧ e.a.st = .suspect ∧ e.b = some b ∧ s.present b = true ∧ p.mirror = none
    ∧ p.copies = [{ copy := .a, loc := e.a.loc, verdict := .bad rewrite1.reason }, { copy := .b, loc := b.loc, verdict := .good }]
    ∧ p.rewrites = [rewrite1] ∧ rewrite1.copy = .a ∧ rewrite1.loc = e.a.loc ∧ rewrite1.result = some .done
    ∧ s.drives[rewrite1.loc.drive].epoch = rewrite1.epoch ∧ s.repair.worker = .idle := by decide

/-- The update makes the SUSPECT copy GOOD (R172). -/
theorem test_scrub_restores :
    ∃ t, exec .scrubFinalUpdate rewriting1 = .next t ∧ (t.cat.entry 799).map (fun e => e.a.st) = some .good
      ∧ t.scrub.map (fun x => x.repaired) = some 1 := ⟨_, rfl, by decide⟩

/-- Repair has moved copy A to drive 1 while a REMIRROR copy was written there: the final update is dropped, the new copy is not taken
(R94, R173). -/
theorem test_mirror_meets_repair :
    let e := { entry 1 with wanted := 2, a := { loc := ⟨1, 50000⟩ } }
    let p : ScrubStep :=
      { slot := 799, key := e.key, stage := .updating, copies := [{ copy := .a, loc := ⟨2, 30000⟩, verdict := .good }]
        mirror := some { place := .b, loc := ⟨1, 60000⟩, result := some .done } }
    let s := holding { ready with scrub := some { job := some 7, next := 799, left := 2, step := some p }, engine := { requests := [.scrubUpdate] } } e
    ∃ t, exec .scrubFinalUpdate s = .next t ∧ t.cat.entry 799 = some e ∧ t.scrub.map (fun x => (x.repaired, x.skipped)) = some (0, 1) :=
  ⟨_, rfl, by decide +kernel⟩

/-! ## Witnesses: the box -/

/-- `ready` with another box. -/
def boxed (b : Box) : State := { ready with box := b }

theorem test_witness_wake :
    (boxed { st := .sleep }).box.st = .sleep ∧ (boxed { st := .sleep }).cfg.wakeNetwork = true
    ∧ (boxed { st := .sleep }).cfg.wakeButton = true ∧ (boxed { st := .sleep }).box.battLow = false
    ∧ (boxed { st := .sleep, battLow := true }).box.battLow = true ∧ ready.box.st = .run
    ∧ State.reset.box.st = .waking ∧ State.reset.box.rail2 = false
    ∧ (boxed { st := .waking, rail2 := true }).box.supply = .mains ∧ (boxed { st := .waking, rail2 := true }).box.keptPrestart = 0 := by decide

theorem test_witness_supply :
    let s := { boxed { st := .run, supply := .battery, hold := .running 60 } with jobs := [job 1 .load .fetchList] }
    ready.box.supply = .mains ∧ ready.box.seq = none ∧ ready.box.st = .run ∧ s.box.st = .run ∧ s.box.supply = .battery
    ∧ s.box.seq = none ∧ s.box.hold = .running 60 ∧ s.link.attach = .attached ∧ s.jobs ≠ [] ∧ s.scrub = none := by decide

theorem test_witness_supply_begins :
    let n := 60
    let s : State := { boxed { st := .run, supply := .battery, hold := .running n } with jobs := [job 1 .load .fetchList] }
    s.box.st = .run ∧ s.box.supply = .battery ∧ s.box.hold = .running n ∧ s.link.attach = .attached ∧ s.jobs ≠ []
    ∧ s.scrub = none := by
  decide

theorem test_witness_switch_begins :
    let s : State := { boxed { st := .run, battLow := true, switchTime := 1 } with jobs := [job 1 .load .fetchList], drives := Vector.ofFn still }
    s.box.st = .run ∧ s.box.supply = .mains ∧ s.box.seq = none ∧ (s.box.battLow = true ∨ s.cfg.holdTime = 0)
    ∧ s.link.attach = .attached ∧ s.jobs ≠ [] ∧ s.scrub = none := by
  decide

theorem test_witness_shutdown :
    let s := { boxed { st := .sleepPrep, supply := .battery, drain := true, seq := some { shutdown := true, step := .stop } } with
      jobs := [job 1 (.fetch 32 1 1 1) .fetchList] }
    let t := { boxed { st := .sleepPrep, seq := some { shutdown := true, step := .detach } } with link := {} }
    s.box.seq = some { shutdown := true, step := if s.box.drain then .stop else .detach } ∧ s.box.drain = true ∧ s.loadJob = none
    ∧ s.formatJob = none ∧ s.adoptJob = none ∧ s.resyncJob = none ∧ orphansOf s.jobs = [] ∧ s.offers = [] ∧ s.engine = {}
    ∧ s.scrub = none ∧ s.link.attach = .attached ∧ (∀ d : Fin 4, s.drives[d].ops = [] ∧ s.drives[d].room = [])
    ∧ t.box.seq = some { shutdown := true, step := if t.box.drain then .stop else .detach } ∧ t.box.drain = false
    ∧ t.link.attach = .detached ∧ t.box.consentKept = false := by decide

theorem test_witness_shutdown_closes :
    let s : State := { boxed { st := .sleepPrep, supply := .battery, drain := true, seq := some { shutdown := true, step := .stop } } with
      jobs := [job 1 (.fetch 32 1 1 1) .fetchList], streams := (ready.streams.set 3 { open3 with st := .feeding, list := [7], window := [chunk .waiting], cur := [1], held := true }).set 4 { list := [9], finished := 3 } }
    s.box.seq = some { shutdown := true, step := if s.box.drain then .stop else .detach } ∧ s.box.drain = true
    ∧ s.loadJob = none ∧ s.formatJob = none ∧ s.adoptJob = none ∧ s.resyncJob = none ∧ orphansOf s.jobs = [] ∧ s.offers = []
    ∧ s.engine = {} ∧ s.scrub = none ∧ s.link.attach = .attached
    ∧ (∀ n : Fin 8, (s.streams[n].window.all fun c => c.phase == .waiting) = true)
    ∧ ∀ d : Fin 4, s.drives[d].ops = [] ∧ s.drives[d].room = [] := by
  decide

theorem test_witness_sleep :
    let j := job 0 .sleep .dispatched
    let k := job 0 .sleep .sleeping
    let s := { withJob k with
      drives := Vector.ofFn fun d => { drive d with power := .parked }
      box := { ready.box with st := .sleepPrep, seq := some { step := .park, job := some 7, closed := 8, ckpt := .succeeded } } }
    let t := boxed { st := .sleepPrep, seq := some { step := .consent }, consentTimer := true }
    (withJob j).carries 0 j ∧ (withJob j).box.st = .run ∧ (withJob j).link.attach = .attached ∧ (withJob j).scrub = none
    ∧ s.holds k ∧ s.box.seq = some { step := .park, job := some k.id, closed := 8, ckpt := .succeeded }
    ∧ (∀ d : Fin 4, s.drives[d].power = .parked) ∧ t.box.consentTimer = true ∧ t.box.pendingMains = false :=
  ⟨⟨rfl, rfl, rfl⟩, rfl, rfl, rfl, ⟨rfl, rfl⟩, by decide⟩

theorem test_witness_consent_expires :
    let q : Seq := { step := .consent }
    let s : State := { boxed { st := .sleepPrep, seq := some q, consentTimer := true, consentWait := true } with drives := (ready.drives.set 1 {}).set 2 { ready.drives[2] with power := .parked, port := .resetting .wake .wake false, demands := [.prestart], credit := 1 }, startQueue := [{ drive := 2 }] }
    s.box.consentTimer = true ∧ s.box.pendingMains = false ∧ s.loadJob = none ∧ s.engine.ckpt = none
    ∧ ∀ d : Fin 4, s.drives[d].ops = [] ∧ s.drives[d].room = [] := by
  decide

/-! ## Witnesses: shared operations -/

theorem test_witness_resting :
    let x : Drive := { present := true, power := .unpowered }
    let s := { ready with drives := Vector.replicate 4 x }
    s.resting := ⟨fun _ => by
    simp only [Fin.getElem_fin, Vector.getElem_replicate]
    exact ⟨rfl, rfl, rfl, rfl, rfl, rfl, nofun, nofun, nofun, rfl⟩, rfl, rfl, fun _ h => nomatch h⟩

/-- A drive at rest that a demand starts, with the last ampere of the budget and with one less; a READY one at rest; a list. -/
theorem test_witness_settles :
    let x : Drive := { present := true, power := .unpowered }
    let s := fun n => { ready with drives := Vector.replicate 4 x, cfg := { ready.cfg with mainsBudget := n } }
    let l : List Op := [{ id := 8, cls := .interactive, kind := .chunkRead, count := 1 }, { id := 9, kind := .chunkRead, count := 1 }]
    x.power = .unpowered ∧ x.failed = false ∧ x.wakeAsked = false ∧ (s 20).powerDown = false
    ∧ (s 20).committed + (s 20).cfg.drive[(1 : Fin 4)].spinUp ≤ (s 20).budget
    ∧ (s 19).budget < (s 19).committed + (s 19).cfg.drive[(1 : Fin 4)].spinUp ∧ (still 1).power = .ready
    ∧ (∀ o ∈ l, o.kind ≠ .tempPoll) ∧ (l.find? fun o => o.cls == .interactive && o.st == .waiting).isSome = true
    ∧ (l.find? fun o => o.cls == .bulk && o.st == .waiting).isSome = true := by decide

/-- Streams at rest: OPEN with a chunk RESOLVED, FEEDING with nothing delivered, CLOSING with a chunk RESOLVING. -/
theorem test_witness_stream_rests :
    let c := chunk .resolved
    let d := chunk .resolving
    let s := withStream feedJob { open3 with window := [c] }
    let t := withStream feedJob { open3 with st := .closing, window := [d, chunk .waiting] }
    s.streams[(3 : Fin 8)].held = false ∧ (∀ x ∈ s.streams[(3 : Fin 8)].window, x.phase ≠ .waiting) ∧ s.streams[(3 : Fin 8)].st = .opened
    ∧ s.streams[(3 : Fin 8)].list = [] ∧ (∃ x ∈ t.streams[(3 : Fin 8)].window, x.phase.resolvingNow = true)
    ∧ t.streams[(3 : Fin 8)].st = .closing ∧ t.streams[(3 : Fin 8)].window ≠ [] ∧ (feeding [c]).streams[(3 : Fin 8)].st = .feeding
    ∧ (feeding [c]).streams[(3 : Fin 8)].internal = false ∧ (feeding [c]).streams[(3 : Fin 8)].list.head? = some 7
    ∧ (feeding [c]).work 7 = some feedWork ∧ (∀ j ∈ (feeding [c]).jobs, j.id = 7 → j.phase = .stream feedWork) ∧ feedWork.buf = []
    ∧ feedWork.left ≠ 0 ∧ feedWork.stopped = false := by decide

/-- A committed draw at the budget in force, and one above it. -/
theorem test_witness_budget :
    let s := fun n => { ready with cfg := { ready.cfg with mainsBudget := n } }
    (s 24).committed ≤ (s 24).budget ∧ (s 23).budget < (s 23).committed
    ∧ ({ ready with startQueue := [{}] }).startQueue = {} :: [] := by decide

theorem test_witness_lookup :
    let k := (entry 1).key
    let c := (holding ready (entry 1)).cat
    3 ≤ c.geo.e ∧ c.lookup k = .found 799 (entry 1) ∧ 799 ∈ c.geo.window k.fp ∧ ready.cat.lookup k = .room 792
    ∧ tabSorted ready.cat.index = true := by decide

theorem test_witness_tables : ready.cat.placed ∧ ready.cat.keysApart ∧ ready.cat.canonical :=
  ⟨nofun, nofun, rfl, fun d => ⟨by fin_cases d <;> rfl, by fin_cases d <;> nofun⟩⟩

/-- References at the ends of their ranges, and a header. -/
theorem test_witness_records :
    let r : Ref := { key := { len := 4294967295 }, unindexed := true, driveA := 255, driveB := 255, sectorA := 18446744073709551615 }
    let h : Header := { e := 24, h := 1024, au := #v[2, 2, 2, 4294967295], c := slotAus 24 #v[2, 2, 2, 4294967295] }
    r.key.len < 2 ^ 32 ∧ r.driveA < 256 ∧ r.driveB < 256 ∧ r.sectorA < 2 ^ 64 ∧ r.sectorB < 2 ^ 64
    ∧ (∀ d : Fin 4, 2 ≤ h.au[d] ∧ h.au[d] < 2 ^ 32) ∧ h.c < 2 ^ 32 := by decide

end Sys2Proof.Tests
end

/-! # The interrupt (R16)

The interrupt is a figure of ATTN and ATTN_EN, and the message is made in one place only, the frame `run` that every command but
COLD_START and LOSS_OF_POWER works in. So the message is determined by the line before and after the command, whatever the
command does to the causes. -/

namespace Sys2Proof.Machine

/-- The line of R16, as the statements spell it. -/
theorem State.irq_iff (s : State) : s.irq = true ↔ s.attn &&& s.attnEn ≠ 0 := by
  rw [State.irq, bne_iff_ne]

theorem State.irq_eq_false_iff (s : State) : s.irq = false ↔ s.attn &&& s.attnEn = 0 := by
  rw [← Bool.not_eq_true, State.irq_iff, not_not]

/-- A message goes out exactly when the line has changed, and it names the new value of the line. -/
theorem State.message_eq_some_iff (s : State) (old b : Bool) : s.message old = some b ↔ old = !b ∧ s.irq = b := by
  by_cases h : old = s.irq
  · have hsame : ¬(old = !b ∧ s.irq = b) := fun ⟨hold, hirq⟩ => Bool.not_ne_self b (hold.symm.trans (h.trans hirq))
    rw [State.message, if_pos h]
    exact iff_of_false nofun hsame
  · have hflip : old = !s.irq := Bool.eq_not.mpr h
    rw [State.message, if_neg h, Option.some_inj]
    exact ⟨fun hirq => ⟨hirq ▸ hflip, hirq⟩, And.right⟩

/-- With power, every command but COLD_START and LOSS_OF_POWER ends with the message of the line's change over the command. -/
theorem exec_msg {s t : State} {c : Instr} (hp : s.powered = true) (hcold : ∀ p m l, c ≠ .coldStart p m l)
    (hloss : c ≠ .lossOfPower) (ht : exec c s = .next t) : t.out.msg = t.message s.irq := by
  obtain ⟨p, m, l, rfl⟩ | rfl | ⟨f, hf⟩ := exec_in_frame c
  · exact absurd rfl (hcold p m l)
  · exact absurd rfl hloss
  · rw [hf, run_powered hp] at ht
    cases ht
    rfl

/-- ATTN_EN_WRITE sets ATTN_EN and no cause (R16). -/
theorem exec_attnEnWrite_attn {s t : State} {v : BitVec 64} (hp : s.powered = true) (ht : exec (.attnEnWrite v) s = .next t) :
    t.attn = s.attn ∧ t.attnEn = v.setWidth 12 := by
  rw [exec_attnEnWrite, execAttnEnWrite, run_powered hp] at ht
  cases ht
  exact ⟨rfl, rfl⟩

/-- Settles O7: the message of the frame (`exec_msg`) read through what the line is (`State.irq_iff`), once for each of its two
values. -/
theorem interruptFollows : Obligations.InterruptFollows := by
  intro s t c hp hcold hloss ht
  have hmsg : t.out.msg = t.message s.irq := exec_msg hp hcold hloss ht
  refine ⟨t.irq_iff, ?assert, ?deassert, ?enable⟩
  case assert =>
    rw [hmsg, State.message_eq_some_iff, Bool.not_true, State.irq_eq_false_iff, State.irq_iff]
  case deassert =>
    rw [hmsg, State.message_eq_some_iff, Bool.not_false, State.irq_iff, State.irq_eq_false_iff]
  case enable =>
    rintro v rfl
    exact exec_attnEnWrite_attn hp ht

end Sys2Proof.Machine

/-! # The cut of a stream (R35 to R38) and the fingerprint (R43)

A free stream takes a byte in one way (`State.takeBytes_singleton`): the byte is taken, and the cut test decides whether the chunk
is cut or held. What then becomes of the stream is the composition of two changes of the same stream. The CRC register and the
bytes in staging move together, so the fingerprint of a cut chunk is read off the register. -/

namespace Sys2Proof.Machine

/-! ## The cut test and the window -/

/-- The cut test in the words of R36. -/
theorem Stream.cutTest_iff (x : Stream) :
    x.cutTest = true ↔ x.cur.length = x.maxLen ∨ (x.minLen ≤ x.cur.length ∧ x.h.toNat < 2 ^ (32 - x.k)) := by
  simp [Stream.cutTest]

theorem Stream.windowOpen_iff (x : Stream) : x.windowOpen = true ↔ x.window.length < 3 := decide_eq_true_iff

/-! ## Two changes of one stream -/

theorem State.modStream_modStream (s : State) (n : Fin 8) (f g : Stream → Stream) :
    (s.modStream n f).modStream n g = s.modStream n fun x => g (f x) := by
  simp [State.modStream]

/-- A cut takes a name and changes the one stream, whatever the byte before it did to that stream. -/
theorem State.cut_modStream (s : State) (n : Fin 8) (f : Stream → Stream) :
    (s.modStream n f).cut n = s.bump.modStream n fun x => (f x).cutAs s.nextId :=
  s.bump.modStream_modStream n f fun x => x.cutAs s.nextId

theorem State.cutOrHold_of_room {s : State} {n : Fin 8} (h : s.streams[n].window.length < 3) : s.cutOrHold n = s.cut n :=
  if_pos (s.streams[n].windowOpen_iff.mpr h)

theorem State.cutOrHold_of_full {s : State} {n : Fin 8} (h : 3 ≤ s.streams[n].window.length) :
    s.cutOrHold n = s.modStream n fun x => { x with held := true } :=
  if_neg fun hopen => Nat.not_lt.mpr h (s.streams[n].windowOpen_iff.mp hopen)

/-- A held cut waits for room in the window (R38). -/
theorem State.makeHeld_of_held {s : State} {n : Fin 8} (h : s.streams[n].held = true) :
    s.makeHeld n = if s.streams[n].window.length < 3 then s.cut n else s := by
  rw [State.makeHeld, h, Bool.true_and]
  simp only [Stream.windowOpen_iff]

/-! ## Taking bytes -/

/-- While a cut is held no byte is taken (R38). -/
theorem State.takeBytes_of_held {s : State} {n : Fin 8} (h : s.streams[n].held = true) (l : List Byte) :
    s.takeBytes n l = (s, l) := by
  cases l with
  | nil => rfl
  | cons b l => exact if_pos h

section
variable {s : State} {n : Fin 8} (hfree : s.streams[n].held = false) (b : Byte)
include hfree

/-- What one byte does to a stream that holds no cut: the byte is taken, then the cut test is made. -/
theorem State.takeBytes_singleton :
    s.takeBytes n [b] =
      (if (s.streams[n].takeByte b).cutTest then (s.modStream n fun x => x.takeByte b).cutOrHold n
        else s.modStream n fun x => x.takeByte b, []) := by
  simp only [State.takeBytes, hfree, State.modStream_same, Bool.false_eq_true, if_false]

/-- Bytes are taken one at a time. -/
theorem State.takeBytes_cons (l : List Byte) : s.takeBytes n (b :: l) = (s.takeBytes n [b]).1.takeBytes n l := by
  simp only [State.takeBytes, hfree, Bool.false_eq_true, if_false]

theorem State.takeBytes_singleton_cut (ht : (s.streams[n].takeByte b).cutTest = true)
    (hroom : (s.streams[n].takeByte b).window.length < 3) :
    s.takeBytes n [b] = (s.bump.modStream n fun x => (x.takeByte b).cutAs s.nextId, []) := by
  rw [State.takeBytes_singleton hfree, if_pos ht, State.cutOrHold_of_room (by rwa [State.modStream_same]), State.cut_modStream]

theorem State.takeBytes_singleton_hold (ht : (s.streams[n].takeByte b).cutTest = true)
    (hfull : 3 ≤ (s.streams[n].takeByte b).window.length) :
    s.takeBytes n [b] = (s.modStream n fun x => { x.takeByte b with held := true }, []) := by
  rw [State.takeBytes_singleton hfree, if_pos ht, State.cutOrHold_of_full (by rwa [State.modStream_same]),
    State.modStream_modStream]

theorem State.takeBytes_singleton_uncut (ht : ¬(s.streams[n].takeByte b).cutTest = true) :
    s.takeBytes n [b] = (s.modStream n fun x => x.takeByte b, []) := by
  rw [State.takeBytes_singleton hfree, if_neg ht]

end

/-- L grows by one with each byte (R35). -/
theorem Stream.takeByte_cur_length (x : Stream) (b : Byte) : (x.takeByte b).cur.length = x.cur.length + 1 := by
  simp [Stream.takeByte]

/-! ## The rolling hash and the CRC register -/

/-- The rolling hash moves modulo 2^32 (R35). -/
theorem hashStep_toNat (h : BitVec 32) (b : Byte) :
    (hashStep h b).toNat = (2 * h.toNat + (b.toNat + 1) * 2654435761) % 4294967296 := by
  rw [hashStep, hashTerm, ← BitVec.ofNat_add, BitVec.toNat_ofNat]

theorem crc64Shifts_eq_foldl (n : Nat) (r : BitVec 64) :
    crc64Shifts n r = (List.range n).foldl (fun r _ => crc64Shift r) r := by
  induction n generalizing r with
  | zero => rfl
  | succ n ih => rw [crc64Shifts, ih, List.range_succ_eq_map, List.foldl_cons, List.foldl_map]

/-- The register stays that of the bytes in staging when a byte is taken. -/
theorem Stream.takeByte_crc {x : Stream} (hcrc : x.crc = x.cur.foldl crc64Byte (BitVec.allOnes 64)) (b : Byte) :
    (x.takeByte b).crc = (x.takeByte b).cur.foldl crc64Byte (BitVec.allOnes 64) := by
  simp [Stream.takeByte, hcrc]

/-- The fingerprint of the bytes in staging is the complement of their register (R43). -/
theorem Stream.fingerprint_cur {x : Stream} (hcrc : x.crc = x.cur.foldl crc64Byte (BitVec.allOnes 64)) :
    fingerprint x.cur = ~~~x.crc := by
  rw [fingerprint, ← hcrc]

/-- The chunk that a cut puts at the tail of the window has the fingerprint of its bytes (R37, R43). -/
theorem Stream.cutAs_window {x : Stream} (hcrc : x.crc = x.cur.foldl crc64Byte (BitVec.allOnes 64)) (id : Nat) :
    (x.cutAs id).window = x.window ++
      [{ id := id, key := { fp := fingerprint x.cur, len := x.cur.length }, bytes := x.cur, own := x.curOwn, owner := x.active }] := by
  rw [Stream.fingerprint_cur hcrc]
  rfl

/-- Settles O28: the three outcomes of a byte are those of the cut test and the window, a held cut is made when there is room, and
the key follows from the register being that of the bytes in staging. -/
theorem cutKey : Obligations.CutKey := by
  refine ⟨fun s n b l => ⟨fun hfree => ?free, fun hheld => ?held⟩, fun x b id hcrc => ?key⟩
  case free =>
    refine ⟨fun hmeets hroom => ?cut, fun hmeets hfull => ?hold, fun hmeets => ?uncut, fun hlt => ?length,
      State.takeBytes_cons hfree b l⟩
    case cut => exact State.takeBytes_singleton_cut hfree b ((Stream.cutTest_iff _).mpr hmeets) hroom
    case hold => exact State.takeBytes_singleton_hold hfree b ((Stream.cutTest_iff _).mpr hmeets) hfull
    case uncut => exact State.takeBytes_singleton_uncut hfree b (mt (Stream.cutTest_iff _).mp hmeets)
    case length =>
      rw [Stream.takeByte_cur_length]
      exact hlt
  case held => exact ⟨State.takeBytes_of_held hheld l, State.makeHeld_of_held hheld⟩
  case key =>
    exact ⟨hashStep_toNat x.h b, rfl, Stream.takeByte_crc hcrc b, crc64Shifts_eq_foldl 8 _, Stream.fingerprint_cur hcrc,
      Stream.cutAs_window hcrc id, rfl, rfl, rfl, rfl⟩

end Sys2Proof.Machine
/-! # The machine, and the status page (R16 to R18)

Every command but COLD_START and LOSS_OF_POWER works in the frame `run`, which alone writes the page. The last stage of a step on
a page that is kept is the page's fields, so the page stays current whatever the command's body does. -/

namespace Sys2Proof.Machine

/-! ## Every command completes -/

theorem run_pending {s t : State} {f : State → State} (h : run s f = .next t) : t.pending = s.pending := by
  cases hp : s.powered
  · rw [run_dark hp] at h
    cases h
    rfl
  · rw [run_powered hp] at h
    cases h
    rfl

theorem run_completes (s : State) (f : State → State) : ∃ t, run s f = .next t := by
  cases hp : s.powered
  · exact ⟨_, run_dark hp f⟩
  · exact ⟨_, run_powered hp f⟩

/-- Settles O1. -/
theorem stepRunsFront : Obligations.StepRunsFront := by
  refine fun s c rest => ⟨fun h => ?_, fun h => ?_⟩ <;> rw [step, h]

/-- Settles O3. -/
theorem everyCommandCompletes : Obligations.EveryCommandCompletes := by
  intro c s
  obtain ⟨p, m, l, rfl⟩ | rfl | ⟨f, hf⟩ := exec_in_frame c
  · exact ⟨_, rfl⟩
  · exact ⟨_, rfl⟩
  · rw [hf]
    exact run_completes s f

/-- Settles O2. -/
theorem queueKept : Obligations.QueueKept := by
  intro c s t h
  obtain ⟨p, m, l, rfl⟩ | rfl | ⟨f, hf⟩ := exec_in_frame c
  · rw [exec_coldStart, execColdStart] at h
    cases h
    rfl
  · rw [exec_lossOfPower, execLossOfPower] at h
    cases h
    rfl
  · rw [hf] at h
    exact run_pending h

/-- Settles O4: the two commands that act on the part's power are excluded, and the frame does nothing without power. -/
theorem nothingWithoutPower : Obligations.NothingWithoutPower := by
  refine ⟨fun s => ⟨s.dark, rfl, rfl, rfl, rfl, rfl, rfl, rfl⟩, fun s c hp hcold hloss => ?_⟩
  obtain ⟨p, m, l, rfl⟩ | rfl | ⟨f, hf⟩ := exec_in_frame c
  · exact absurd rfl (hcold p m l)
  · exact absurd rfl hloss
  · rw [hf, run_dark hp]
    rfl

/-! ## The fields of the page -/

/-- A field that stands among others with bytes in each is read. -/
theorem pageAt_ne_nil {l : List PageField} {o : Nat} (hb : ∀ f ∈ l, f.2 ≠ []) (ho : o ∈ l.map Prod.fst) : pageAt l o ≠ [] := by
  obtain ⟨f, hf, rfl⟩ := List.mem_map.mp ho
  rw [pageAt]
  split
  · rename_i g hg
    exact hb g (List.mem_of_find?_eq_some hg)
  · rename_i hnone
    exact absurd (List.find?_eq_none.mp hnone f hf) (by simp)

theorem pf_ne_nil {o n v : Nat} (hn : n ≠ 0) : (pf o n v).2 ≠ [] := by
  intro h
  have hl := congrArg List.length h
  rw [pf, leBytes_length] at hl
  exact hn hl

theorem snapFields_offsets (x : Drive) (d : Fin 4) :
    (snapFields x d).map Prod.fst = [0, 1, 2, 3, 4, 8, 10, 11, 12, 28].map fun o => 512 + 32 * d.val + o := by
  unfold snapFields
  cases x.snap <;> rfl

/-- The page's fields stand at the offsets of the chapter Status page, in that order. -/
theorem State.pageFields_offsets (s : State) : s.pageFields.map Prod.fst = pageOffsets := by
  simp only [State.pageFields, List.map_append, snapFields_offsets]
  rfl

theorem snapFields_bytes {x : Drive} {d : Fin 4} {f : PageField} (hf : f ∈ snapFields x d) : f.2 ≠ [] := by
  unfold snapFields at hf
  cases hx : x.snap <;> simp only [hx, List.mem_append, List.mem_cons, List.not_mem_nil, or_false] at hf <;>
    rcases hf with (rfl | rfl | rfl | rfl | rfl | rfl | rfl | rfl | rfl) | rfl <;> exact pf_ne_nil (by decide)

theorem chainFields_bytes {x : Chain} {c : Nat} {f : PageField} (hf : f ∈ chainFields x c) : f.2 ≠ [] := by
  simp only [chainFields, List.mem_cons, List.not_mem_nil, or_false] at hf
  rcases hf with rfl | rfl | rfl | rfl <;> exact pf_ne_nil (by decide)

theorem boxFields_bytes {s : State} {f : PageField} (hf : f ∈ boxFields s) : f.2 ≠ [] := by
  simp only [boxFields, List.mem_cons, List.not_mem_nil, or_false] at hf
  rcases hf with rfl | rfl | rfl | rfl | rfl | rfl | rfl <;> exact pf_ne_nil (by decide)

theorem catFields_bytes {c : Cat} {f : PageField} (hf : f ∈ catFields c) : f.2 ≠ [] := by
  simp only [catFields, List.mem_cons, List.not_mem_nil, or_false] at hf
  rcases hf with rfl | rfl | rfl | rfl | rfl | rfl | rfl | rfl | rfl <;> exact pf_ne_nil (by decide)

theorem driveFields_bytes {s : State} {d : Fin 4} {f : PageField} (hf : f ∈ driveFields s d) : f.2 ≠ [] := by
  simp only [driveFields, List.mem_cons, List.not_mem_nil, or_false] at hf
  rcases hf with rfl | rfl | rfl | rfl | rfl | rfl | rfl | rfl | rfl | rfl | rfl <;> exact pf_ne_nil (by decide)

/-- No field of the page is empty. -/
theorem State.pageFields_bytes {s : State} {f : PageField} (hf : f ∈ s.pageFields) : f.2 ≠ [] := by
  simp only [State.pageFields, List.mem_append] at hf
  obtain ((((((((((((hf | hf) | hf) | hf) | hf) | hf) | hf) | hf) | hf) | hf) | hf) | hf) | hf) | hf := hf
  exacts [chainFields_bytes hf, chainFields_bytes hf, chainFields_bytes hf, chainFields_bytes hf, boxFields_bytes hf,
    catFields_bytes hf, driveFields_bytes hf, driveFields_bytes hf, driveFields_bytes hf, driveFields_bytes hf,
    snapFields_bytes hf, snapFields_bytes hf, snapFields_bytes hf, snapFields_bytes hf]

theorem State.pageAt_pageFields_ne_nil (s : State) {o : Nat} (ho : o ∈ pageOffsets) : pageAt s.pageFields o ≠ [] :=
  pageAt_ne_nil (fun _ => State.pageFields_bytes) (s.pageFields_offsets ▸ ho)

/-! ## The end of a step -/

theorem State.kept_iff (s : State) : s.kept = true ↔ s.link.attach = .attached ∨ s.link.attach = .detaching := by
  simp [State.kept]

/-- The last stage of a page that is kept is what its fields are. -/
theorem State.stages_getLast {s : State} (h : s.kept = true) : s.stages.getLast? = some s.pageFields := by
  simp [State.stages, State.stage, h]

theorem State.pageNow_kept {s : State} (h : s.kept = true) (old : List PageField) : s.pageNow old = s.pageFields := by
  have hne : s.link.attach ≠ .detached := by
    rcases (State.kept_iff s).mp h with e | e <;> rw [e] <;> decide
  rw [State.pageNow, if_neg hne, State.stages_getLast h, Option.getD_some]

/-- The end of a step on a page that is kept: the page's record is its fields, which the record is no part of. -/
theorem finish_page {s₀ s : State} (h : s.kept = true) : (finish s₀ s).link.page = s.pageFields :=
  State.pageNow_kept h _

theorem run_pageCurrent {s t : State} {f : State → State} (hp : s.powered = true) (h : run s f = .next t) : PageCurrent t := by
  rw [run_powered hp] at h
  cases h
  exact fun hk => finish_page ((State.kept_iff _).mpr hk)

theorem pageCurrent_of_detached {s : State} (h : s.link.attach = .detached) : PageCurrent s := by
  rintro (h' | h') <;> exact nomatch h.symm.trans h'

/-- Whatever the command, the page stays current: a part whose power comes or goes is DETACHED, and without power nothing is. -/
theorem exec_pageCurrent {s t : State} {c : Instr} (hs : PageCurrent s) (ht : exec c s = .next t) : PageCurrent t := by
  obtain ⟨p, m, l, rfl⟩ | rfl | ⟨f, hf⟩ := exec_in_frame c
  · cases ht
    exact pageCurrent_of_detached rfl
  · cases ht
    exact pageCurrent_of_detached rfl
  · rw [hf] at ht
    cases hp : s.powered
    · rw [run_dark hp] at ht
      cases ht
      exact hs
    · exact run_pageCurrent hp ht

/-- Settles O5: both parts are facts of the frame. The record of the page is the last stage (`finish_page`), and the writes through
the stages leave the last stage's bytes in every field (`lastWrite_pageWrites`), of which none is empty. -/
theorem pageStaysCurrent : Obligations.PageStaysCurrent := by
  refine ⟨fun s t hs ht => ?current, fun s t c hp hcold hloss ht hk o ho => ?writes⟩
  case current =>
    rw [step] at ht
    split at ht
    · cases ht
      exact hs
    · rename_i c rest _
      exact exec_pageCurrent (s := { s with pending := rest }) hs ht
  case writes =>
    obtain ⟨p, m, l, rfl⟩ | rfl | ⟨f, hf⟩ := exec_in_frame c
    · exact absurd rfl (hcold p m l)
    · exact absurd rfl hloss
    · rw [hf, run_powered hp] at ht
      cases ht
      have hkept : (f s.mute).kept = true := (State.kept_iff _).mpr hk
      have hlast : (s.link.page :: (f s.mute).stages).getLast? = some (f s.mute).pageFields := by
        rw [List.getLast?_cons, State.stages_getLast hkept]
        rfl
      calc pageAt (finish s (f s.mute)).link.page o
          = pageAt (f s.mute).pageFields o := by rw [finish_page hkept]
        _ = lastWrite (pageWrites s.link.page (f s.mute).stages) o (pageAt s.link.page o) :=
            (lastWrite_pageWrites ho _ _ _ _ hlast ((f s.mute).pageAt_pageFields_ne_nil ho) id).symm

/-- Settles O6. -/
theorem resetPageCurrent : Obligations.ResetPageCurrent := fun h => absurd h (by decide)

/-- Settles O8. -/
theorem resetState : Obligations.ResetState := by
  unfold Obligations.ResetState
  decide

/-- Settles O12: the timeout's row runs, for each read, what the row of that read's end runs on a bus error. -/
theorem hostReadTimeouts : Obligations.HostReadTimeouts :=
  fun _ _ _ _ => ⟨rfl, rfl, rfl, rfl, rfl, rfl, rfl, rfl⟩

end Sys2Proof.Machine

/-! # The sparse tables and the index (R71 to R73)

What `Cat.setSlot` and `Cat.setAu` make of a table follows from the laws of `tabPut` and `tabErase`. A lookup is described once by
its three results, and an insert into the room it found keeps every entry in its window and the keys apart. -/

namespace Sys2Proof.Machine

/-! ## Slots and AU records set -/

@[simp] theorem Cat.markPage_index (c : Cat) (p : Nat) : (c.markPage p).index = c.index := rfl
@[simp] theorem Cat.markPage_aus (c : Cat) (p : Nat) : (c.markPage p).aus = c.aus := rfl
@[simp] theorem Cat.markPage_geo (c : Cat) (p : Nat) : (c.markPage p).geo = c.geo := rfl

@[simp] theorem Cat.setSlot_geo (c : Cat) (slot : Nat) (e : Option Entry) : (c.setSlot slot e).geo = c.geo := by
  unfold Cat.setSlot
  split
  · rfl
  · split <;> rfl

@[simp] theorem Cat.setSlot_aus (c : Cat) (slot : Nat) (e : Option Entry) : (c.setSlot slot e).aus = c.aus := by
  unfold Cat.setSlot
  split
  · rfl
  · split <;> rfl

theorem Cat.setSlot_sorted {c : Cat} (h : tabSorted c.index = true) (slot : Nat) (e : Option Entry) :
    tabSorted (c.setSlot slot e).index = true := by
  unfold Cat.setSlot
  split
  · exact h
  · split
    · exact tabSorted_erase _ _ h
    · exact tabSorted_put _ _ _ h

/-- A slot set holds what was put there, and every other slot what it held. -/
theorem Cat.entry_setSlot {c : Cat} (h : tabSorted c.index = true) (slot : Nat) (e : Option Entry) (i : Nat) :
    (c.setSlot slot e).entry i = if i = slot then e else c.entry i := by
  unfold Cat.setSlot
  split
  · rename_i same
    split
    · rename_i hi
      rw [hi, same]
    · rfl
  · split
    · exact tabGet_erase _ _ _
    · exact tabGet_put _ _ _ _ h

@[simp] theorem Cat.setAu_geo (c : Cat) (d : Fin 4) (a : Nat) (r : AuRec) : (c.setAu d a r).geo = c.geo := by
  unfold Cat.setAu
  split <;> rfl

@[simp] theorem Cat.setAu_index (c : Cat) (d : Fin 4) (a : Nat) (r : AuRec) : (c.setAu d a r).index = c.index := by
  unfold Cat.setAu
  split <;> rfl

/-- The table of another drive stays. -/
theorem Cat.setAu_aus_other (c : Cat) {d f : Fin 4} (hf : f ≠ d) (a : Nat) (r : AuRec) : (c.setAu d a r).aus[f] = c.aus[f] := by
  unfold Cat.setAu
  split
  · rfl
  · have hv : d.val ≠ f.val := fun x => hf (Fin.ext x.symm)
    simp [hv]

/-- The table of the drive: as it was when the AU has the record, else with the record listed unless it is an untouched AU's. -/
theorem Cat.setAu_aus_same (c : Cat) (d : Fin 4) (a : Nat) (r : AuRec) :
    (c.au d a = r ∧ (c.setAu d a r).aus[d] = c.aus[d])
      ∨ (r = c.geo.plainAu d a ∧ (c.setAu d a r).aus[d] = tabErase c.aus[d] a)
      ∨ (r ≠ c.geo.plainAu d a ∧ (c.setAu d a r).aus[d] = tabPut c.aus[d] a r) := by
  unfold Cat.setAu
  split
  · rename_i same
    exact .inl ⟨same, rfl⟩
  · by_cases hr : r = c.geo.plainAu d a
    · exact .inr (.inl ⟨hr, by simp [← hr]⟩)
    · exact .inr (.inr ⟨hr, by simp [hr]⟩)

/-- One drive's AU table is in its one form. -/
def Geometry.canonicalAus (g : Geometry) (d : Fin 4) (l : List (Nat × AuRec)) : Prop :=
  tabSorted l = true ∧ ∀ p ∈ l, p.2 ≠ g.plainAu d p.1

theorem Cat.setAu_canonicalAus {c : Cat} (h : ∀ d : Fin 4, c.geo.canonicalAus d c.aus[d]) (d f : Fin 4) (a : Nat) (r : AuRec) :
    c.geo.canonicalAus f (c.setAu d a r).aus[f] := by
  by_cases hf : f = d
  · subst hf
    obtain ⟨hsorted, hlisted⟩ := h f
    obtain ⟨_, e⟩ | ⟨_, e⟩ | ⟨hr, e⟩ := c.setAu_aus_same f a r <;> rw [e]
    · exact h f
    · exact ⟨tabSorted_erase _ _ hsorted, fun p hp => hlisted p (mem_tabErase hp).1⟩
    · refine ⟨tabSorted_put _ _ _ hsorted, fun p hp => ?_⟩
      obtain rfl | hp := mem_tabPut hp
      · exact hr
      · exact hlisted p hp
  · rw [c.setAu_aus_other hf]
    exact h f

/-- An AU set has the record put there, and every other AU the one it had. -/
theorem Cat.au_setAu {c : Cat} (h : ∀ d : Fin 4, tabSorted c.aus[d] = true) (d f : Fin 4) (a b : Nat) (r : AuRec) :
    (c.setAu d a r).au f b = if f = d ∧ b = a then r else c.au f b := by
  by_cases hf : f = d
  · subst hf
    simp only [true_and]
    obtain ⟨hs, e⟩ | ⟨hr, e⟩ | ⟨hr, e⟩ := c.setAu_aus_same f a r <;> rw [Cat.au, e, Cat.setAu_geo]
    · split
      · rename_i hb
        rw [hb]
        exact hs
      · rfl
    · rw [tabGet_erase]
      split
      · rename_i hb
        rw [hr, hb]
        rfl
      · rfl
    · rw [tabGet_put _ _ _ _ (h f)]
      split <;> rfl
  · rw [Cat.au, c.setAu_aus_other hf, if_neg (fun x => hf x.1), Cat.setAu_geo]
    rfl

/-- Settles O60. -/
theorem tablesCanonical : Obligations.TablesCanonical := by
  rintro c ⟨hindex, haus⟩
  refine ⟨fun slot e => ⟨⟨?_, ?_⟩, ?_, fun i hi => ?_⟩, fun d a r => ⟨⟨?_, fun f => ?_⟩, ?_, fun f b hfb => ?_⟩⟩
  · exact Cat.setSlot_sorted hindex slot e
  · rw [Cat.setSlot_aus, Cat.setSlot_geo]
    exact haus
  · rw [Cat.entry_setSlot hindex, if_pos rfl]
  · rw [Cat.entry_setSlot hindex, if_neg hi]
  · rw [Cat.setAu_index]
    exact hindex
  · rw [Cat.setAu_geo]
    exact Cat.setAu_canonicalAus haus d f a r
  · rw [Cat.au_setAu fun d => (haus d).1, if_pos ⟨rfl, rfl⟩]
  · rw [Cat.au_setAu fun d => (haus d).1, if_neg fun x => hfb.elim (· x.1) (· x.2)]

/-! ## The lookup -/

/-- The home bucket counts modulo the buckets, of which there are N/8 (R72). -/
theorem Geometry.window_eq {g : Geometry} (he : 3 ≤ g.e) (fp : BitVec 64) :
    g.window fp
      = (List.range 32).map fun i => ((fp.toNat % 2 ^ (g.e - 3) + i / 8) % 2 ^ (g.e - 3)) * 8 + i % 8 := by
  have hbuckets : g.slots / 8 = 2 ^ (g.e - 3) := by
    rw [Geometry.slots, show 8 = 2 ^ 3 from rfl, Nat.pow_div he (by decide)]
  simp only [Geometry.window, hbuckets, Nat.mod_add_mod]

/-- The slot holds an entry under the key. -/
def Cat.holdsKey (c : Cat) (k : Key) (i : Nat) : Bool := (c.entry i).any fun e => e.key == k

theorem Cat.holdsKey_iff {c : Cat} {k : Key} {i : Nat} : c.holdsKey k i = true ↔ ∃ e, c.entry i = some e ∧ e.key = k := by
  simp [Cat.holdsKey, Option.any_eq_true]

/-- The three results of a lookup (R73): an entry under the key; none and the first FREE slot of the window; none and no room. -/
theorem Cat.lookup_cases (c : Cat) (k : Key) :
    (∃ i e, (c.geo.window k.fp).find? (c.holdsKey k) = some i ∧ c.entry i = some e ∧ c.lookup k = .found i e)
      ∨ (∃ i, (c.geo.window k.fp).find? (c.holdsKey k) = none
        ∧ (c.geo.window k.fp).find? (fun i => (c.entry i).isNone) = some i ∧ c.lookup k = .room i)
      ∨ ((c.geo.window k.fp).find? (c.holdsKey k) = none
        ∧ (c.geo.window k.fp).find? (fun i => (c.entry i).isNone) = none ∧ c.lookup k = .full) := by
  have hfun : (fun i => (c.entry i).any fun e => e.key == k) = c.holdsKey k := rfl
  simp only [Cat.lookup, hfun]
  cases hf : (c.geo.window k.fp).find? (c.holdsKey k) with
  | some i =>
    obtain ⟨e, he, -⟩ := Cat.holdsKey_iff.mp (List.find?_some hf)
    exact .inl ⟨i, e, rfl, he, by simp only [he]⟩
  | none =>
    cases hr : (c.geo.window k.fp).find? fun i => (c.entry i).isNone with
    | some i => exact .inr (.inl ⟨i, rfl, rfl, rfl⟩)
    | none => exact .inr (.inr ⟨rfl, rfl, rfl⟩)

theorem Cat.lookup_found {c : Cat} {k : Key} {slot : Nat} {e : Entry} (h : c.lookup k = .found slot e) :
    slot ∈ c.geo.window k.fp ∧ c.entry slot = some e ∧ e.key = k := by
  obtain ⟨i, f, hfind, hentry, hl⟩ | ⟨i, _, _, hl⟩ | ⟨_, _, hl⟩ := c.lookup_cases k <;> rw [hl] at h <;> cases h
  obtain ⟨g, hg, hkey⟩ := Cat.holdsKey_iff.mp (List.find?_some hfind)
  obtain rfl : g = e := by rwa [hg, Option.some_inj] at hentry
  exact ⟨List.mem_of_find?_eq_some hfind, hg, hkey⟩

/-- A lookup that finds nothing has seen no entry under the key in the whole window. -/
theorem Cat.not_holdsKey {c : Cat} {k : Key} (h : (c.geo.window k.fp).find? (c.holdsKey k) = none) {slot : Nat} {e : Entry}
    (hs : slot ∈ c.geo.window k.fp) (he : c.entry slot = some e) : e.key ≠ k :=
  fun hk => List.find?_eq_none.mp h slot hs (Cat.holdsKey_iff.mpr ⟨e, he, hk⟩)

theorem Cat.lookup_room {c : Cat} {k : Key} {slot : Nat} (h : c.lookup k = .room slot) :
    (c.geo.window k.fp).find? (c.holdsKey k) = none
      ∧ (c.geo.window k.fp).find? (fun i => (c.entry i).isNone) = some slot := by
  obtain ⟨i, f, _, _, hl⟩ | ⟨i, hnone, hfree, hl⟩ | ⟨_, _, hl⟩ := c.lookup_cases k <;> rw [hl] at h <;> cases h
  exact ⟨hnone, hfree⟩

theorem Cat.lookup_full {c : Cat} {k : Key} (h : c.lookup k = .full) :
    (c.geo.window k.fp).find? (c.holdsKey k) = none ∧ (c.geo.window k.fp).find? (fun i => (c.entry i).isNone) = none := by
  obtain ⟨i, f, _, _, hl⟩ | ⟨i, _, _, hl⟩ | ⟨hnone, hfree, hl⟩ := c.lookup_cases k <;> rw [hl] at h <;> cases h
  exact ⟨hnone, hfree⟩

/-! ## The insert -/

/-- An entry put into its own window: every entry still lies in its window (R72). -/
theorem Cat.setSlot_placed {c : Cat} (hs : tabSorted c.index = true) (hp : c.placed) {slot : Nat} {e : Entry}
    (hw : slot ∈ c.geo.window e.key.fp) : (c.setSlot slot (some e)).placed := by
  intro i f hf
  rw [Cat.entry_setSlot hs] at hf
  rw [Cat.setSlot_geo]
  split at hf
  · rename_i hi
    cases hf
    rwa [hi]
  · exact hp i f hf

/-- An entry put whose key no other slot's entry has: the keys stay apart (R73). -/
theorem Cat.setSlot_keysApart {c : Cat} (hs : tabSorted c.index = true) (ha : c.keysApart) {slot : Nat} {e : Entry}
    (hnew : ∀ i f, c.entry i = some f → f.key ≠ e.key) : (c.setSlot slot (some e)).keysApart := by
  intro i j f g hf hg hkey
  rw [Cat.entry_setSlot hs] at hf hg
  split at hf <;> split at hg
  · rename_i hi hj
    rw [hi, hj]
  · cases hf
    exact absurd hkey.symm (hnew j g hg)
  · cases hg
    exact absurd hkey (hnew i f hf)
  · exact ha i j f g hf hg hkey

/-- Settles O58. -/
theorem lookupFinds : Obligations.LookupFinds := by
  refine fun c k => ⟨fun he => ?window, fun slot e => Cat.lookup_found, fun slot e hslot hentry hkey => ?finds,
    fun slot h => (Cat.lookup_room h).2, fun h slot hslot => ?full, fun slot e hs hp ha hroom hkey => ?insert⟩
  case window => exact Geometry.window_eq he k.fp
  case finds =>
    obtain ⟨i, f, _, _, hl⟩ | ⟨_, hnone, _, _⟩ | ⟨hnone, _, _⟩ := c.lookup_cases k
    · exact ⟨i, f, hl⟩
    · exact absurd hkey (Cat.not_holdsKey hnone hslot hentry)
    · exact absurd hkey (Cat.not_holdsKey hnone hslot hentry)
  case full =>
    obtain ⟨hnone, hfree⟩ := Cat.lookup_full h
    obtain ⟨e, he⟩ := Option.ne_none_iff_exists'.mp (mt Option.isNone_iff_eq_none.mpr (List.find?_eq_none.mp hfree slot hslot))
    exact ⟨e, he, Cat.not_holdsKey hnone hslot he⟩
  case insert =>
    subst hkey
    obtain ⟨hnone, hfree⟩ := Cat.lookup_room hroom
    exact ⟨Cat.setSlot_placed hs hp (List.mem_of_find?_eq_some hfree),
      Cat.setSlot_keysApart hs ha fun i f hf hk => Cat.not_holdsKey hnone (hk ▸ hp i f hf) hf hk⟩

end Sys2Proof.Machine

/-! # Values with a range (R21, R22, R30, R34)

A value with a range is taken as the nearest value in it; `clampTo` and `openValue` are that, with a note of the change. -/

namespace Sys2Proof.Machine

/-! ## The nearer end -/

/-- The value of a range that is nearest to the one given. -/
def nearest (lo hi v : Nat) : Nat := if v < lo then lo else if hi < v then hi else v

theorem nearest_clamps (lo hi v : Nat) : Clamps lo hi v (nearest lo hi v) := by
  unfold nearest
  refine ⟨fun h1 h2 => ?_, fun h => if_pos h, fun h1 h2 => ?_, fun h => ?_⟩
  · rw [if_neg (by omega), if_neg (by omega)]
  · rw [if_neg (by omega), if_pos h2]
  · split
    · omega
    · split <;> omega

theorem le_nearest {lo hi : Nat} (h : lo ≤ hi) (v : Nat) : lo ≤ nearest lo hi v := ((nearest_clamps lo hi v).2.2.2 h).1

/-- The note of a value that had to change: none when it is taken as given. -/
def changeNote (no : Nat) (d : Option (Fin 4)) (given taken : Nat) : List Clamped := if given != taken then [(no, d)] else []

theorem clampTo_eq (no : Nat) (d : Option (Fin 4)) (lo hi v : Nat) :
    clampTo no d lo hi v = (nearest lo hi v, changeNote no d v (nearest lo hi v)) := by
  unfold clampTo changeNote nearest
  split
  · rw [if_pos (bne_iff_ne.mpr (by omega))]
  · split
    · rw [if_pos (bne_iff_ne.mpr (by omega))]
    · rw [if_neg (by simp)]

theorem clampIdle_eq (d : Fin 4) (v : Nat) :
    clampIdle d v =
      (nearest (if v = 0 then 0 else 60) 65535 v, changeNote 13 (some d) v (nearest (if v = 0 then 0 else 60) 65535 v)) := by
  unfold clampIdle
  split
  · rename_i h
    subst h
    rfl
  · exact clampTo_eq ..

theorem openValue_eq (v dflt lo hi : Nat) :
    openValue v dflt lo hi =
      (nearest lo hi (if v = 0 then dflt else v),
        if (if v = 0 then dflt else v) != nearest lo hi (if v = 0 then dflt else v) then 1 else 0) := by
  unfold openValue nearest
  generalize (if v = 0 then dflt else v) = x
  dsimp only
  split
  · rw [if_pos (bne_iff_ne.mpr (by omega))]
  · split
    · rw [if_pos (bne_iff_ne.mpr (by omega))]
    · rw [if_neg (by simp)]

/-! ## OPEN_STREAM -/

/-- Settles O26: the three values with a range are `nearest` ones (`openValue_eq`), the two codes by their cases. -/
theorem openStreamValues : Obligations.OpenStreamValues := by
  intro cfg l k v c mn mx
  have haux : (openStream cfg l k v c mn mx).2.status = if (openStream cfg l k v c mn mx).2.aux = 0 then .ok else .okClamped := by
    simp only [openStream, Status.when, bne_iff_ne, ne_eq, ite_not]
  refine ⟨?ranges, ?strict, ?copies, ?aux, haux, rfl, rfl, rfl, rfl, rfl, rfl, rfl, rfl, rfl, rfl, rfl, rfl⟩
  case ranges =>
    simp only [openStream, openValue_eq, List.mem_cons, List.not_mem_nil, or_false, forall_eq_or_imp, forall_eq]
    exact ⟨nearest_clamps .., nearest_clamps .., nearest_clamps ..⟩
  case strict =>
    simp only [openStream]
    split
    · rfl
    · split
      · rename_i h
        simp [h]
      · split <;> simp [*]
  case copies =>
    simp only [openStream]
    split
    · rfl
    · split
      · exact (Nat.min_eq_right (by omega)).symm
      · exact (Nat.min_eq_left (by omega)).symm
  case aux =>
    have hstrict : (if v = 0 then (cfg.strict, 0) else if v = 1 then (true, 0) else if v = 2 then (false, 0) else (true, 1) :
        Bool × Nat).2 = if 2 < v then 1 else 0 := by
      simp only [apply_ite Prod.snd]
      split_ifs <;> omega
    have hcopies : (if c = 0 then (cfg.copies, 0) else if 2 < c then (2, 1) else (c, 0) : Nat × Nat).2 = if 2 < c then 1 else 0 := by
      simp only [apply_ite Prod.snd]
      split_ifs <;> omega
    simp only [openStream, openValue_eq, hstrict, hcopies, List.countP_cons, List.countP_nil]
    omega

/-! ## The alarm slots -/

/-- Settles O22. -/
theorem alarmRepeats : Obligations.AlarmRepeats := by
  intro a count hperiod henable htime
  obtain ⟨k, hk⟩ : ∃ k, (count.toNat - a.time.toNat) / a.period + 1 = k := ⟨_, rfl⟩
  have hlow : count.toNat < a.time.toNat + k * a.period := by
    have := Nat.lt_mul_div_succ (count.toNat - a.time.toNat) hperiod
    rw [hk, Nat.mul_comm] at this
    omega
  have hhigh : a.time.toNat + k * a.period ≤ count.toNat + a.period := by
    have := Nat.div_mul_le_self (count.toNat - a.time.toNat) a.period
    rw [← hk, Nat.succ_mul]
    omega
  simp only [Alarm.afterFire, hperiod.ne', if_false, hk]
  split
  · rename_i hfits
    have htoNat : (BitVec.ofNat 32 (a.time.toNat + k * a.period)).toNat = a.time.toNat + k * a.period := by
      rw [BitVec.toNat_ofNat, Nat.mod_eq_of_lt (by omega)]
    refine ⟨fun _ => ?_, fun h => absurd (henable.symm.trans h) (by decide)⟩
    simp only [htoNat, Nat.add_sub_cancel_left, Nat.mul_mod_left, and_true]
    exact ⟨hlow, hhigh⟩
  · rename_i hover
    exact ⟨fun h => absurd h Bool.false_ne_true, fun _ => Nat.lt_of_not_le hover⟩

/-! ## The configuration -/

/-- The plain values of the configuration's table, each with its number, its range, and what was given and taken (R21, R22). -/
def cfgPlain (r : List Byte) (c : Cfg) : List (Nat × Nat × Nat × Nat × Nat) :=
  [(2, 11, 18, field r 1 1, c.k), (4, 4096, 1048576, field r 8 4, c.maxLen), (3, 512, c.maxLen, field r 4 4, c.minLen),
   (6, 1, 2, field r 3 1, c.copies), (7, 16, 24, field r 12 1, c.e), (8, 10, 255, field r 13 1, c.mainsBudget),
   (9, 0, 255, field r 14 1, c.batteryBudget), (16, 30, 80, field r 15 1, c.hot),
   (17, c.hot - 20, c.hot - 1, field r 16 1, c.recover), (18, 10, 3600, field r 20 2, c.hotGrace),
   (19, 1, 255, field r 17 1, c.mediaLimit), (20, 1, 50, field r 18 1, c.leak), (21, 1, 10, field r 19 1, c.railGrace),
   (22, 0, 600, field r 22 2, c.holdTime), (23, 1, 64, field r 24 1, c.credit)]

/-- A field of drive `d` in the configuration block. -/
def cfgDriveField (r : List Byte) (d : Fin 4) (o n : Nat) : Nat := field r (64 + 16 * d.val + o) n

/-- The values of one drive, likewise. -/
def cfgPerDrive (r : List Byte) (c : Cfg) (d : Fin 4) : List (Nat × Nat × Nat × Nat × Nat) :=
  [(10, 1, 100, cfgDriveField r d 0 1, c.drive[d].spinUp), (11, 1, 50, cfgDriveField r d 1 1, c.drive[d].run),
   (12, 0, 20, cfgDriveField r d 2 1, c.drive[d].park), (14, 5, 60, cfgDriveField r d 3 1, c.drive[d].startTimeout),
   (13, if cfgDriveField r d 4 2 = 0 then 0 else 60, 65535, cfgDriveField r d 4 2, c.drive[d].idlePark)]

/-- A row's value had to change. -/
def cfgChanged (x : Nat × Nat × Nat × Nat × Nat) : Bool := x.2.2.2.1 != x.2.2.2.2

/-- A drive's setup list is too long. -/
def cfgTooLong (r : List Byte) (d : Fin 4) : Bool := decide (16 < cfgDriveField r d 6 1)

/-- The numbers of the fields that had to change, by their rows. -/
def cfgClamped (r : List Byte) (c : Cfg) : List Nat :=
  ((cfgPlain r c ++ drives4.flatMap (cfgPerDrive r c)).filter cfgChanged).map (·.1)
    ++ (if field r 2 1 = 1 ∨ field r 2 1 = 2 then [] else [5]) ++ (drives4.filter (cfgTooLong r)).map fun _ => 15

theorem readCfg_ranges (r : List Byte) :
    ∀ x ∈ cfgPlain r (readCfg r).1 ++ drives4.flatMap (cfgPerDrive r (readCfg r).1), Clamps x.2.1 x.2.2.1 x.2.2.2.1 x.2.2.2.2 := by
  intro x hx
  rw [List.mem_append, List.mem_flatMap] at hx
  obtain hx | ⟨d, -, hx⟩ := hx
  · simp only [cfgPlain, readCfg, clampTo_eq, List.mem_cons, List.not_mem_nil, or_false] at hx
    obtain rfl | rfl | rfl | rfl | rfl | rfl | rfl | rfl | rfl | rfl | rfl | rfl | rfl | rfl | rfl := hx <;>
      exact nearest_clamps ..
  · simp only [cfgPerDrive, cfgDriveField, readCfg, clampTo_eq, clampIdle_eq, Fin.getElem_fin, Vector.getElem_ofFn, Fin.eta,
      List.mem_cons, List.not_mem_nil, or_false] at hx
    obtain rfl | rfl | rfl | rfl | rfl := hx <;> exact nearest_clamps ..

/-- The notes of one field of each drive. -/
def driveNotes (no : Nat) (given taken : Fin 4 → Nat) : List Clamped :=
  drives4.flatMap fun d => changeNote no (some d) (given d) (taken d)

/-- The notes of the whole block in table order, from what was given and what was taken. -/
def cfgNotes (r : List Byte) (c : Cfg) : List Clamped :=
  changeNote 2 none (field r 1 1) c.k ++ (changeNote 3 none (field r 4 4) c.minLen ++ (changeNote 4 none (field r 8 4) c.maxLen
    ++ ((if field r 2 1 = 1 ∨ field r 2 1 = 2 then [] else [(5, none)]) ++ (changeNote 6 none (field r 3 1) c.copies
    ++ (changeNote 7 none (field r 12 1) c.e ++ (changeNote 8 none (field r 13 1) c.mainsBudget
    ++ (changeNote 9 none (field r 14 1) c.batteryBudget
    ++ (driveNotes 10 (fun d => cfgDriveField r d 0 1) (fun d => c.drive[d].spinUp)
    ++ (driveNotes 11 (fun d => cfgDriveField r d 1 1) (fun d => c.drive[d].run)
    ++ (driveNotes 12 (fun d => cfgDriveField r d 2 1) (fun d => c.drive[d].park)
    ++ (driveNotes 13 (fun d => cfgDriveField r d 4 2) (fun d => c.drive[d].idlePark)
    ++ (driveNotes 14 (fun d => cfgDriveField r d 3 1) (fun d => c.drive[d].startTimeout)
    ++ ((drives4.flatMap fun d => if 16 < cfgDriveField r d 6 1 then [(15, some d)] else [])
    ++ (changeNote 16 none (field r 15 1) c.hot ++ (changeNote 17 none (field r 16 1) c.recover
    ++ (changeNote 18 none (field r 20 2) c.hotGrace ++ (changeNote 19 none (field r 17 1) c.mediaLimit
    ++ (changeNote 20 none (field r 18 1) c.leak ++ (changeNote 21 none (field r 19 1) c.railGrace
    ++ (changeNote 22 none (field r 22 2) c.holdTime ++ changeNote 23 none (field r 24 1) c.credit))))))))))))))))))))

theorem readCfg_notes (r : List Byte) : (readCfg r).2 = cfgNotes r (readCfg r).1 := by
  have hstrict : (if field r 2 1 = 1 then (true, []) else if field r 2 1 = 2 then (false, []) else (true, [(5, none)]) :
      Bool × List Clamped).2 = if field r 2 1 = 1 ∨ field r 2 1 = 2 then [] else [(5, none)] := by
    by_cases h1 : field r 2 1 = 1
    · simp [h1]
    · by_cases h2 : field r 2 1 = 2 <;> simp [h1, h2]
  simp only [readCfg, cfgNotes, driveNotes, cfgDriveField, clampTo_eq, clampIdle_eq, hstrict, List.append_assoc,
    Fin.getElem_fin, Vector.getElem_ofFn, Fin.eta]
  rfl

/-! ## The fields that had to change -/

/-- Numbers rising from `n` on. -/
def RisingFrom (n : Nat) (l : List Nat) : Prop := l.Pairwise (· ≤ ·) ∧ ∀ x ∈ l, n ≤ x

theorem RisingFrom.block {n m : Nat} {b l : List Nat} (h : RisingFrom m l) (hb : ∀ x ∈ b, x = n) (hm : n ≤ m) :
    RisingFrom n (b ++ l) := by
  refine ⟨List.pairwise_append.mpr ⟨?_, h.1, fun x hx y hy => (hb x hx).le.trans (hm.trans (h.2 y hy))⟩, fun x hx => ?_⟩
  · exact List.pairwise_of_forall_mem_list fun x hx y hy => ((hb x hx).trans (hb y hy).symm).le
  · obtain hx | hx := List.mem_append.mp hx
    · exact (hb x hx).ge
    · exact hm.trans (h.2 x hx)

theorem changeNote_no {no : Nat} {d : Option (Fin 4)} {g t : Nat} : ∀ x ∈ (changeNote no d g t).map Prod.fst, x = no := by
  unfold changeNote
  split <;> simp

theorem driveNotes_no {no : Nat} {g t : Fin 4 → Nat} : ∀ x ∈ (driveNotes no g t).map Prod.fst, x = no := by
  intro x hx
  obtain ⟨p, hp, rfl⟩ := List.mem_map.mp hx
  obtain ⟨d, -, hp⟩ := List.mem_flatMap.mp hp
  exact changeNote_no _ (List.mem_map_of_mem hp)

/-- The notes stand in table order. -/
theorem cfgNotes_rising (r : List Byte) (c : Cfg) : RisingFrom 2 ((cfgNotes r c).map Prod.fst) := by
  have hstrict : ∀ x ∈ (if field r 2 1 = 1 ∨ field r 2 1 = 2 then [] else [(5, none)] : List Clamped).map Prod.fst, x = 5 := by
    split <;> simp
  have hlong : ∀ x ∈ (drives4.flatMap fun d => if 16 < cfgDriveField r d 6 1 then [(15, some d)] else [] : List Clamped).map Prod.fst, x = 15 := by
    intro x hx
    obtain ⟨p, hp, rfl⟩ := List.mem_map.mp hx
    obtain ⟨d, -, hp⟩ := List.mem_flatMap.mp hp
    split at hp
    · rw [List.mem_singleton.mp hp]
    · cases hp
  have hlast : RisingFrom 23 ((changeNote 23 none (field r 24 1) c.credit).map Prod.fst) := by
    unfold changeNote
    split <;> simp [RisingFrom]
  simp only [cfgNotes, List.map_append]
  refine .block (m := 3) ?_ changeNote_no (by decide)
  refine .block (m := 4) ?_ changeNote_no (by decide)
  refine .block (m := 5) ?_ changeNote_no (by decide)
  refine .block (m := 6) ?_ hstrict (by decide)
  refine .block (m := 7) ?_ changeNote_no (by decide)
  refine .block (m := 8) ?_ changeNote_no (by decide)
  refine .block (m := 9) ?_ changeNote_no (by decide)
  refine .block (m := 10) ?_ changeNote_no (by decide)
  refine .block (m := 11) ?_ driveNotes_no (by decide)
  refine .block (m := 12) ?_ driveNotes_no (by decide)
  refine .block (m := 13) ?_ driveNotes_no (by decide)
  refine .block (m := 14) ?_ driveNotes_no (by decide)
  refine .block (m := 15) ?_ driveNotes_no (by decide)
  refine .block (m := 16) ?_ hlong (by decide)
  refine .block (m := 17) ?_ changeNote_no (by decide)
  refine .block (m := 18) ?_ changeNote_no (by decide)
  refine .block (m := 19) ?_ changeNote_no (by decide)
  refine .block (m := 20) ?_ changeNote_no (by decide)
  refine .block (m := 21) ?_ changeNote_no (by decide)
  refine .block (m := 22) ?_ changeNote_no (by decide)
  refine .block (m := 23) ?_ changeNote_no (by decide)
  exact hlast

theorem changeNote_map (no : Nat) (d : Option (Fin 4)) (g t : Nat) :
    (changeNote no d g t).map Prod.fst = if g != t then [no] else [] := by
  unfold changeNote
  split <;> rfl

theorem filter_map_eq_flatMap {α β : Type} (p : α → Bool) (f : α → β) (l : List α) :
    (l.filter p).map f = l.flatMap fun x => if p x then [f x] else [] := by
  induction l with
  | nil => rfl
  | cons a l ih => by_cases h : p a <;> simp [h, ih]

theorem count_drives4_append (a : Nat) (f g : Fin 4 → List Nat) :
    (drives4.flatMap fun d => f d ++ g d).count a = (drives4.flatMap f).count a + (drives4.flatMap g).count a := by
  rw [← List.count_append]
  exact ((List.flatMap_append_perm drives4 f g).count_eq a).symm

/-- The notes name the fields of the rows that had to change, each as often. -/
theorem cfgNotes_perm (r : List Byte) (c : Cfg) : ((cfgNotes r c).map Prod.fst).Perm (cfgClamped r c) := by
  have hstrict : (if field r 2 1 = 1 ∨ field r 2 1 = 2 then [] else [(5, none)] : List Clamped).map Prod.fst
      = if field r 2 1 = 1 ∨ field r 2 1 = 2 then [] else [5] := by
    split <;> rfl
  have hlong : ∀ d : Fin 4, (if 16 < cfgDriveField r d 6 1 then [(15, some d)] else [] : List Clamped).map Prod.fst
      = if cfgTooLong r d then [15] else [] := by
    intro d
    by_cases h : 16 < cfgDriveField r d 6 1 <;> simp [cfgTooLong, h]
  rw [List.perm_iff_count]
  intro a
  simp only [cfgNotes, cfgClamped, cfgPlain, cfgPerDrive, driveNotes, cfgChanged, filter_map_eq_flatMap, List.map_append,
    List.map_flatMap, changeNote_map, hstrict, hlong, List.flatMap_cons, List.flatMap_nil, List.flatMap_append, List.append_nil,
    List.count_append, List.flatMap_assoc, count_drives4_append]
  have rearranged : ∀ n2 n3 n4 n5 n6 n7 n8 n9 n10 n11 n12 n13 n14 n15 n16 n17 n18 n19 n20 n21 n22 n23 : Nat,
      n2 + (n3 + (n4 + (n5 + (n6 + (n7 + (n8 + (n9 + (n10 + (n11 + (n12 + (n13 + (n14 + (n15 + (n16 + (n17 + (n18 + (n19 + (n20 + (n21 + (n22 + (n23)))))))))))))))))))))
        = ((n2 + (n4 + (n3 + (n6 + (n7 + (n8 + (n9 + (n16 + (n17 + (n18 + (n19 + (n20 + (n21 + (n22 + (n23))))))))))))))) + (n10 + (n11 + (n12 + (n14 + (n13)))))) + n5 + n15 := by
    omega
  exact rearranged ..

/-- A rising list begins with its least member. -/
theorem RisingFrom.min? {n : Nat} {l : List Nat} (h : RisingFrom n l) : l.min? = l.head? := by
  cases l with
  | nil => rfl
  | cons x l =>
    rw [List.head?_cons, List.min?_eq_some_iff]
    refine ⟨List.mem_cons_self .., fun y hy => ?_⟩
    obtain rfl | hy := List.mem_cons.mp hy
    · exact le_refl _
    · exact (List.pairwise_cons.mp h.1).1 y hy

theorem perm_min? {l m : List Nat} (h : l.Perm m) : l.min? = m.min? := by
  cases hm : m.min? with
  | none => rw [List.min?_eq_none_iff] at hm ⊢; exact List.perm_nil.mp (hm ▸ h)
  | some x =>
    rw [List.min?_eq_some_iff] at hm ⊢
    exact ⟨h.mem_iff.mpr hm.1, fun y hy => hm.2 y (h.mem_iff.mp hy)⟩

theorem length_flatMap_le {α β : Type} {l : List α} {f : α → List β} {k : Nat} (h : ∀ x, (f x).length ≤ k) :
    (l.flatMap f).length ≤ l.length * k := by
  induction l with
  | nil => simp
  | cons a l ih =>
    rw [List.flatMap_cons, List.length_append, List.length_cons, Nat.succ_mul]
    have := h a
    omega

/-- There are no more notes than a result's aux can count. -/
theorem cfgClamped_length (r : List Byte) (c : Cfg) : (cfgClamped r c).length ≤ 65535 := by
  have hrows : ((cfgPlain r c ++ drives4.flatMap (cfgPerDrive r c)).filter cfgChanged).length ≤ 35 :=
    (List.length_filter_le ..).trans (le_of_eq rfl)
  have hstrict : (if field r 2 1 = 1 ∨ field r 2 1 = 2 then [] else [5] : List Nat).length ≤ 1 := by split <;> simp
  have hlong : (drives4.filter (cfgTooLong r)).length ≤ 4 := List.length_filter_le ..
  simp only [cfgClamped, List.length_append, List.length_map]
  omega

/-! ## The mask of drives -/

theorem oneHot_getLsbD (d e : Fin 4) : (1#4 <<< e.val).getLsbD d.val = (e == d) := by
  revert d e
  decide

/-- Word 1 names exactly the drives that a note names. -/
theorem clampedDrives_getLsbD (l : List Clamped) (d : Fin 4) :
    (clampedDrives l).getLsbD d.val = l.any fun x => x.2 == some d := by
  have key : ∀ m : BitVec 4,
      (l.foldl (fun (m : BitVec 4) (c : Clamped) => match c.2 with
        | some d => m ||| (1#4 <<< d.val)
        | none => m) m).getLsbD d.val = (m.getLsbD d.val || l.any fun x => x.2 == some d) := by
    induction l with
    | nil => simp
    | cons x l ih =>
      intro m
      rw [List.foldl_cons, ih, List.any_cons]
      obtain ⟨no, _ | e⟩ := x
      · simp
      · rw [BitVec.getLsbD_or, oneHot_getLsbD, Bool.or_assoc]
        rfl
  exact (key 0).trans (by simp)

theorem changeNote_any_none (no g t : Nat) (d : Fin 4) : (changeNote no none g t).any (fun x => x.2 == some d) = false := by
  unfold changeNote
  split <;> rfl

theorem changeNote_any_some (no g t : Nat) (d e : Fin 4) :
    (changeNote no (some e) g t).any (fun x => x.2 == some d) = (e == d && g != t) := by
  unfold changeNote
  by_cases h : g = t <;> simp [h]

/-- Of what each drive contributes only drive `d`'s part counts. -/
theorem any_drives4 (d : Fin 4) (p : Fin 4 → Bool) : (drives4.any fun e => e == d && p e) = p d := by
  fin_cases d <;> simp [drives4]

theorem driveNotes_any (no : Nat) (g t : Fin 4 → Nat) (d : Fin 4) :
    (driveNotes no g t).any (fun x => x.2 == some d) = (g d != t d) := by
  simp only [driveNotes, List.any_flatMap, changeNote_any_some]
  exact any_drives4 d fun e => g e != t e

theorem cfgNotes_drive (r : List Byte) (c : Cfg) (d : Fin 4) :
    (cfgNotes r c).any (fun x => x.2 == some d) = ((cfgPerDrive r c d).any cfgChanged || cfgTooLong r d) := by
  have hstrict : (if field r 2 1 = 1 ∨ field r 2 1 = 2 then [] else [(5, none)] : List Clamped).any (fun x => x.2 == some d) = false := by
    split <;> rfl
  have hlong : (drives4.flatMap fun e => if 16 < cfgDriveField r e 6 1 then [(15, some e)] else [] : List Clamped).any (fun x => x.2 == some d)
      = cfgTooLong r d := by
    rw [List.any_flatMap, ← any_drives4 d (cfgTooLong r)]
    congr 1
    funext e
    by_cases h : 16 < cfgDriveField r e 6 1 <;> simp [cfgTooLong, h]
  simp only [cfgNotes, List.any_append, changeNote_any_none, driveNotes_any, hstrict, hlong, cfgPerDrive, cfgChanged, List.any_cons,
    List.any_nil, Bool.false_or, Bool.or_false]
  simp only [Bool.or_comm, Bool.or_left_comm]

/-! ## The statement -/

theorem readCfg_setup (r : List Byte) (d : Fin 4) :
    (readCfg r).1.drive[d].setup = setupEntries r d (cfgDriveField r d 6 1) := by
  simp only [readCfg, Fin.getElem_fin, Vector.getElem_ofFn, Fin.eta]
  rfl

theorem readCfg_strict (r : List Byte) : (readCfg r).1.strict = decide (field r 2 1 ≠ 2) := by
  simp only [readCfg]
  split
  · rename_i h
    simp [h]
  · split <;> simp [*]

theorem readCfg_setup_getElem? (r : List Byte) (d : Fin 4) {i : Nat} (hi : i < min (cfgDriveField r d 6 1) 16) :
    (readCfg r).1.drive[d].setup[i]?
      = some (BitVec.ofNat 16 (field r (128 + 64 * d.val + 4 * i) 2), BitVec.ofNat 16 (field r (128 + 64 * d.val + 4 * i + 2) 2)) := by
  rw [readCfg_setup, setupEntries, List.getElem?_map, List.getElem?_range hi, Option.map_some]

section
variable (r : List Byte)

theorem readCfg_notes_length : (readCfg r).2.length = (cfgClamped r (readCfg r).1).length := by
  rw [readCfg_notes, ← (cfgNotes_perm r _).length_eq, List.length_map]

theorem readCfg_notes_isEmpty : (readCfg r).2.isEmpty = true ↔ cfgClamped r (readCfg r).1 = [] := by
  rw [List.isEmpty_iff, ← List.length_eq_zero_iff, readCfg_notes_length, List.length_eq_zero_iff]

theorem configureResult_aux : (configureResult (readCfg r).2).aux = (cfgClamped r (readCfg r).1).length := by
  rw [configureResult, readCfg_notes_length, Nat.min_eq_left (cfgClamped_length ..)]

theorem configureResult_status :
    (configureResult (readCfg r).2).status = if cfgClamped r (readCfg r).1 = [] then .ok else .okClamped := by
  simp only [configureResult, readCfg_notes_isEmpty]

/-- Word 0 is the least number, the notes standing in table order. -/
theorem configureResult_w0 :
    (configureResult (readCfg r).2).w0 = BitVec.ofNat 32 ((cfgClamped r (readCfg r).1).min?.getD 0) := by
  rw [configureResult, readCfg_notes, ← List.head?_map, ← (cfgNotes_rising r _).min?, perm_min? (cfgNotes_perm r _)]

theorem configureResult_w1 (d : Fin 4) :
    (configureResult (readCfg r).2).w1.getLsbD d.val = ((cfgPerDrive r (readCfg r).1 d).any cfgChanged || cfgTooLong r d) := by
  rw [configureResult, BitVec.getLsbD_setWidth, clampedDrives_getLsbD, readCfg_notes, cfgNotes_drive,
    decide_eq_true (show d.val < 32 by omega), Bool.true_and]

theorem configureResult_w1_lt (l : List Clamped) : (configureResult l).w1.toNat < 16 := by
  have := (clampedDrives l).isLt
  rw [configureResult, BitVec.toNat_setWidth]
  omega

end

/-- Settles O19: the rows are taken as their nearest values (`readCfg_ranges`), the notes name the rows that had to change
(`cfgNotes_perm`) in table order (`cfgNotes_rising`), and their drives (`cfgNotes_drive`). -/
theorem configurationInRange : Obligations.ConfigurationInRange := by
  intro r
  refine ⟨readCfg_ranges r, rfl, readCfg_strict r, fun d => ⟨?_, fun i => readCfg_setup_getElem? r d⟩, ⟨rfl, rfl, rfl, rfl⟩,
    configureResult_aux r, ?_, ?_, configureResult_w0 r, configureResult_w1 r, configureResult_w1_lt _, rfl⟩
  · rw [readCfg_setup, setupEntries, List.length_map, List.length_range]
    rfl
  · rw [configureResult_status]
    change _ ↔ cfgClamped r (readCfg r).1 = []
    split <;> simp [*]
  · rw [configureResult_status]
    change _ ↔ cfgClamped r (readCfg r).1 ≠ []
    split <;> simp [*]

end Sys2Proof.Machine

/-! # Records read back as written (R90, R118, R195, R196)

A record is fields joined one behind another; each read skips the fields before its own (`field_skip`) and meets its own bytes. -/

namespace Sys2Proof.Machine

/-! ## Reading behind joined fields -/

/-- A read that begins behind a number's bytes is a read of the rest. -/
theorem field_skip {n o : Nat} (h : n ≤ o) (v : Nat) (b : List Byte) (k : Nat) :
    field (leBytes n v ++ b) o k = field b (o - n) k := by
  rw [field_append_right _ _ _ _ (by simpa using h), leBytes_length]

theorem field_skip_zeros {n o : Nat} (h : n ≤ o) (b : List Byte) (k : Nat) : field (zeros n ++ b) o k = field b (o - n) k := by
  rw [field_append_right _ _ _ _ (by simpa using h), zeros_length]

theorem field_skip_byte {o : Nat} (h : 1 ≤ o) (x : Byte) (b : List Byte) (k : Nat) : field (x :: b) o k = field b (o - 1) k :=
  field_append_right [x] b o k h

/-- A number that is a string's only bytes. -/
theorem field_leBytes_last (n v : Nat) (h : v < 256 ^ n) : field (leBytes n v) 0 n = v := by
  simpa using field_leBytes n v [] h

theorem field_toNat64 (x : BitVec 64) (b : List Byte) : field (leBytes 8 x.toNat ++ b) 0 8 = x.toNat :=
  field_leBytes 8 _ _ x.isLt

theorem field_toNat32 (x : BitVec 32) (b : List Byte) : field (leBytes 4 x.toNat ++ b) 0 4 = x.toNat :=
  field_leBytes 4 _ _ x.isLt

theorem flagBit_skip {n o : Nat} (h : n ≤ o) (v : Nat) (b : List Byte) (i : Nat) :
    flagBit (leBytes n v ++ b) o i = flagBit b (o - n) i := by
  simp only [flagBit, List.getD_eq_getElem?_getD, List.getElem?_append_right (leBytes_length n v ▸ h), leBytes_length]

theorem flagBit_here (x : Byte) (b : List Byte) (i : Nat) : flagBit (x :: b) 0 i = x.getLsbD i := rfl

theorem leBytes_one (v : Nat) : leBytes 1 v = [BitVec.ofNat 8 v] := rfl

/-- The string of a sector whose fields fit into it. -/
theorem padTo_4096 {l : List Byte} (h : l.length ≤ 4096) : padTo 4096 l = l ++ zeros (4096 - l.length) := padTo_of_le h

/-- The first bytes of a string, which a check covers. -/
theorem padTo_append_left {n : Nat} {a : List Byte} (h : a.length = n) (b : List Byte) : padTo n (a ++ b) = a := by
  rw [padTo, List.take_append_of_le_length h.ge, List.take_of_length_le h.le, List.length_append, h, Nat.sub_eq_zero_of_le (by omega)]
  exact List.append_nil a

/-! ## The reference -/

/-- The three flags of a reference in its byte (R196). -/
theorem refFlags_getLsbD (u o l : Bool) :
    let x : Byte := BitVec.ofNat 8 ((if u then 1 else 0) + (if o then 2 else 0) + (if l then 4 else 0))
    x.getLsbD 0 = u ∧ x.getLsbD 1 = o ∧ x.getLsbD 2 = l := by
  revert u o l
  decide

section
variable (r : Ref)

/-- The bytes of a reference, each field before the rest. -/
theorem Ref.bytes_eq : r.bytes =
    leBytes 8 r.key.fp.toNat ++ (leBytes 4 r.key.len
      ++ (BitVec.ofNat 8 ((if r.unindexed then 1 else 0) + (if r.oneCopy then 2 else 0) + (if r.lost then 4 else 0))
      :: (leBytes 1 (if r.unindexed then r.driveA else 0) ++ (leBytes 1 (if r.unindexed && !r.oneCopy then r.driveB else 0)
      ++ ((0 : Byte) :: (leBytes 8 (if r.unindexed then r.sectorA else 0)
      ++ leBytes 8 (if r.unindexed && !r.oneCopy then r.sectorB else 0))))))) := by
  simp only [Ref.bytes, List.append_assoc, List.cons_append, List.nil_append]

theorem Ref.flagBit_bytes : flagBit r.bytes 12 0 = r.unindexed ∧ flagBit r.bytes 12 1 = r.oneCopy ∧ flagBit r.bytes 12 2 = r.lost := by
  rw [r.bytes_eq]
  simp only [flagBit_skip (show 8 ≤ 12 by decide), flagBit_skip (show 4 ≤ 12 - 8 by decide)]
  exact refFlags_getLsbD r.unindexed r.oneCopy r.lost

theorem ite_lt {c : Prop} [Decidable c] {v n : Nat} (hn : 0 < n) (h : v < n) : (if c then v else 0) < n := by
  split
  · exact h
  · exact hn

/-- Each field of a reference read back. -/
theorem Ref.field_bytes (hlen : r.key.len < 2 ^ 32) (ha : r.driveA < 256) (hb : r.driveB < 256) (hsa : r.sectorA < 2 ^ 64)
    (hsb : r.sectorB < 2 ^ 64) :
    field r.bytes 0 8 = r.key.fp.toNat ∧ field r.bytes 8 4 = r.key.len
      ∧ field r.bytes 13 1 = (if r.unindexed then r.driveA else 0)
      ∧ field r.bytes 14 1 = (if r.unindexed && !r.oneCopy then r.driveB else 0)
      ∧ field r.bytes 16 8 = (if r.unindexed then r.sectorA else 0)
      ∧ field r.bytes 24 8 = (if r.unindexed && !r.oneCopy then r.sectorB else 0) := by
  rw [r.bytes_eq]
  refine ⟨field_toNat64 _ _, ?_, ?_, ?_, ?_, ?_⟩
  · rw [field_skip (by decide)]
    exact field_leBytes _ _ _ hlen
  · rw [field_skip (by decide), field_skip (by decide), field_skip_byte (by decide)]
    exact field_leBytes _ _ _ (ite_lt (by decide) ha)
  · rw [field_skip (by decide), field_skip (by decide), field_skip_byte (by decide), field_skip (by decide)]
    exact field_leBytes _ _ _ (ite_lt (by decide) hb)
  · rw [field_skip (by decide), field_skip (by decide), field_skip_byte (by decide), field_skip (by decide), field_skip (by decide),
      field_skip_byte (by decide)]
    exact field_leBytes _ _ _ (ite_lt (by decide) hsa)
  · rw [field_skip (by decide), field_skip (by decide), field_skip_byte (by decide), field_skip (by decide), field_skip (by decide),
      field_skip_byte (by decide), field_skip (by decide)]
    exact field_leBytes_last _ _ (ite_lt (by decide) hsb)

/-- A location that the flags do not show is 0 in both, and every other reads back (R196). -/
theorem readRef_bytes (hlen : r.key.len < 2 ^ 32) (ha : r.driveA < 256) (hb : r.driveB < 256) (hsa : r.sectorA < 2 ^ 64)
    (hsb : r.sectorB < 2 ^ 64) (hA : r.unindexed = false → r.driveA = 0 ∧ r.sectorA = 0)
    (hB : r.unindexed = false ∨ r.oneCopy = true → r.driveB = 0 ∧ r.sectorB = 0) : readRef r.bytes = r := by
  obtain ⟨hu, ho, hl⟩ := r.flagBit_bytes
  obtain ⟨f0, f8, f13, f14, f16, f24⟩ := r.field_bytes hlen ha hb hsa hsb
  rw [readRef, hu, ho, hl, f0, f8, f13, f14, f16, f24]
  obtain ⟨⟨fp, len⟩, u, o, l, dA, dB, sA, sB⟩ := r
  cases u <;> cases o <;> simp_all

end

/-! ## The label -/

/-- The 20 bytes of a label that its CRC covers. -/
def labelBody (box : BitVec 64) (slot au : Nat) (time : BitVec 32) : List Byte :=
  leBytes 8 box.toNat ++ (leBytes 1 slot ++ (zeros 3 ++ (leBytes 4 au ++ leBytes 4 time.toNat)))

theorem labelBody_length (box : BitVec 64) (slot au : Nat) (time : BitVec 32) : (labelBody box slot au time).length = 20 := by
  simp [labelBody]

theorem labelSector_eq (box : BitVec 64) (slot au : Nat) (time : BitVec 32) :
    labelSector box slot au time =
      labelBody box slot au time ++ (leBytes 4 (crc32 (labelBody box slot au time)).toNat ++ zeros 4072) := by
  simp only [labelSector, List.append_assoc]
  rw [← labelBody, padTo_4096 (by simp [labelBody])]
  simp [labelBody]

theorem readLabel_labelSector (box : BitVec 64) {slot au : Nat} (time : BitVec 32) (hslot : slot < 256) (hau : au < 2 ^ 32) :
    readLabel (labelSector box slot au time) = some { boxId := box, slot := slot, auCount := au } := by
  have hcrc : field (labelSector box slot au time) 20 4 = (crc32 (padTo 20 (labelSector box slot au time))).toNat := by
    rw [labelSector_eq, padTo_append_left (labelBody_length ..), field_append_right _ _ _ _ (labelBody_length ..).le, labelBody_length]
    exact field_toNat32 ..
  rw [readLabel, if_pos hcrc, labelSector_eq]
  simp only [labelBody, List.append_assoc]
  rw [field_toNat64, field_skip (show 8 ≤ 8 by decide), field_skip (show 8 ≤ 12 by decide), field_skip (show 1 ≤ 12 - 8 by decide),
    field_skip_zeros (show 3 ≤ 12 - 8 - 1 by decide)]
  rw [field_leBytes 1 slot _ hslot, field_leBytes 4 au _ hau, BitVec.ofNat_toNat, BitVec.setWidth_eq]

/-! ## The header -/

/-- The two stale flags of a header in their byte. -/
theorem headerFlags_getLsbD (a b : Bool) :
    let x : Byte := BitVec.ofNat 8 ((if a then 1 else 0) + (if b then 2 else 0))
    x.getLsbD 0 = a ∧ x.getLsbD 1 = b := by
  revert a b
  decide

section
variable (h : Header)

theorem Header.body_length : h.body.length = 48 := by simp [Header.body]

theorem Header.sector_eq : h.sector = h.body ++ (leBytes 4 (crc32 h.body).toNat ++ zeros 4044) := by
  rw [Header.sector, padTo_4096 (by simp [h.body_length])]
  simp [h.body_length]

/-- The bytes of a header sector, each field before the rest. -/
theorem Header.sector_fields : h.sector =
    leBytes 8 h.generation.toNat ++ (leBytes 8 h.boxId.toNat ++ (leBytes 4 h.imageCrc.toNat ++ (leBytes 1 h.e
      ++ (leBytes 1 ((if h.stale0 then 1 else 0) + (if h.stale1 then 2 else 0)) ++ (leBytes 2 h.h
      ++ (leBytes 4 h.au[0] ++ (leBytes 4 h.au[1] ++ (leBytes 4 h.au[2] ++ (leBytes 4 h.au[3]
      ++ (leBytes 4 h.c ++ (leBytes 4 h.time.toNat ++ (leBytes 4 (crc32 h.body).toNat ++ zeros 4044)))))))))))) := by
  rw [h.sector_eq]
  simp only [Header.body, List.append_assoc]

theorem Header.flagBit_sector : flagBit h.sector 21 0 = h.stale0 ∧ flagBit h.sector 21 1 = h.stale1 := by
  rw [h.sector_fields]
  simp only [flagBit_skip (show 8 ≤ 21 by decide), flagBit_skip (show 8 ≤ 21 - 8 by decide),
    flagBit_skip (show 4 ≤ 21 - 8 - 8 by decide), flagBit_skip (show 1 ≤ 21 - 8 - 8 - 4 by decide)]
  exact headerFlags_getLsbD h.stale0 h.stale1

/-- Each AU count read back. -/
theorem Header.au_sector (hau : ∀ d : Fin 4, h.au[d] < 2 ^ 32) :
    (Vector.ofFn fun d : Fin 4 => field h.sector (24 + 4 * d.val) 4) = h.au := by
  ext d hd
  rw [Vector.getElem_ofFn, h.sector_fields]
  have fits : ∀ d : Fin 4, h.au[d] < 256 ^ 4 := hau
  interval_cases d <;> simp only [field_skip, Nat.reduceMul, Nat.reduceAdd, Nat.reduceLeDiff, Nat.reduceSub]
  · exact field_leBytes _ _ _ (fits 0)
  · exact field_leBytes _ _ _ (fits 1)
  · exact field_leBytes _ _ _ (fits 2)
  · exact field_leBytes _ _ _ (fits 3)

/-- Each other field of a header read back. -/
theorem Header.field_sector (he : h.e < 256) (hh : h.h < 256 ^ 2) (hc : h.c < 256 ^ 4) :
    field h.sector 0 8 = h.generation.toNat ∧ field h.sector 8 8 = h.boxId.toNat ∧ field h.sector 16 4 = h.imageCrc.toNat
      ∧ field h.sector 20 1 = h.e ∧ field h.sector 22 2 = h.h ∧ field h.sector 40 4 = h.c
      ∧ field h.sector 44 4 = h.time.toNat := by
  rw [h.sector_fields]
  simp only [field_skip, Nat.reduceLeDiff, Nat.reduceSub, Nat.le_refl]
  exact ⟨field_toNat64 .., field_toNat64 .., field_toNat32 .., field_leBytes _ _ _ he, field_leBytes _ _ _ hh,
    field_leBytes _ _ _ hc, field_toNat32 ..⟩

theorem readHeader_sector (he : h.e < 256) (hh : h.h < 256 ^ 2) (hau : ∀ d : Fin 4, h.au[d] < 2 ^ 32) (hc : h.c < 256 ^ 4) :
    readHeader h.sector = h := by
  obtain ⟨f0, f8, f16, f20, f22, f40, f44⟩ := h.field_sector he hh hc
  obtain ⟨b0, b1⟩ := h.flagBit_sector
  simp only [readHeader, h.au_sector hau, f0, f8, f16, f20, f22, f40, f44, b0, b1, BitVec.ofNat_toNat, BitVec.setWidth_eq]

theorem checkHeader_sector (he : 16 ≤ h.e ∧ h.e ≤ 24) (hh : 1 ≤ h.h ∧ h.h ≤ 1024) (hau : ∀ d : Fin 4, 2 ≤ h.au[d] ∧ h.au[d] < 2 ^ 32)
    (hc : h.c = slotAus h.e h.au) (hfits : h.c < 2 ^ 32) : checkHeader h.sector = some h := by
  have hread : readHeader h.sector = h := readHeader_sector h (by omega) (by omega) (fun d => (hau d).2) hfits
  have hcrc : field h.sector 48 4 = (crc32 (padTo 48 h.sector)).toNat := by
    rw [h.sector_eq, padTo_append_left h.body_length, field_append_right _ _ _ _ h.body_length.le, h.body_length]
    exact field_toNat32 ..
  rw [checkHeader, hread]
  exact if_pos ⟨hcrc, he.1, he.2, hh.1, hh.2, fun d => (hau d).1, hc⟩

end

/-- Settles O59. -/
theorem recordsReadBack : Obligations.RecordsReadBack :=
  ⟨readRef_bytes, fun box _ _ time => readLabel_labelSector box time,
    fun h e1 e2 h1 h2 hau hc hfits => checkHeader_sector h ⟨e1, e2⟩ ⟨h1, h2⟩ hau hc hfits⟩

end Sys2Proof.Machine

/-! # Grants within the budget (R143 to R145)

A grant replaces one drive's contribution to the committed draw by its spin-up draw, which is what the head is tested with before
it; so a loop of grants never leaves the budget. -/

namespace Sys2Proof.Machine

/-- A drive's contribution to the committed draw. -/
def State.draw (s : State) (d : Fin 4) : Nat := contribution s.drives[d].power s.cfg.drive[d]

theorem State.committed_eq (s : State) : s.committed = s.draw 0 + s.draw 1 + s.draw 2 + s.draw 3 := rfl

theorem State.draw_le_committed (s : State) (d : Fin 4) : s.draw d ≤ s.committed := by
  rw [s.committed_eq]
  fin_cases d <;> dsimp only [Fin.reduceFinMk, Fin.zero_eta, Fin.mk_one] <;> omega

theorem State.fits_iff (s : State) (d : Fin 4) :
    s.fits d = true ↔ s.committed ≤ s.budget ∧ s.committed - s.draw d + s.cfg.drive[d].spinUp ≤ s.budget := by
  rw [State.fits, Bool.and_eq_true, decide_eq_true_iff, decide_eq_true_iff, State.draw]

/-- The committed draw when one drive's contribution alone changes. -/
theorem State.committed_of_draw {s t : State} {d : Fin 4} (h : ∀ e, e ≠ d → t.draw e = s.draw e) :
    t.committed = s.committed - s.draw d + t.draw d := by
  have hle := s.draw_le_committed d
  rw [s.committed_eq] at *
  rw [t.committed_eq]
  fin_cases d <;> dsimp only [Fin.reduceFinMk, Fin.zero_eta, Fin.mk_one] at *
  · rw [h 1 (by decide), h 2 (by decide), h 3 (by decide)]
    omega
  · rw [h 0 (by decide), h 2 (by decide), h 3 (by decide)]
    omega
  · rw [h 0 (by decide), h 1 (by decide), h 3 (by decide)]
    omega
  · rw [h 0 (by decide), h 1 (by decide), h 2 (by decide)]
    omega

/-! ## One grant -/

theorem State.grant_cfg (s : State) (d : Fin 4) : (s.grant d).cfg = s.cfg ∧ (s.grant d).box = s.box := by
  unfold State.grant
  split <;> exact ⟨rfl, rfl⟩

theorem State.grant_budget (s : State) (d : Fin 4) : (s.grant d).budget = s.budget := by
  rw [State.budget, State.budget, (s.grant_cfg d).1, (s.grant_cfg d).2]

/-- A grant changes its drive alone, which is STARTING then (R145). -/
theorem State.grant_drives (s : State) (d : Fin 4) :
    ∃ x : Drive, x.power = .starting ∧ (s.grant d).drives = s.drives.set d x := by
  unfold State.grant
  split <;> exact ⟨_, rfl, rfl⟩

theorem vector_set_same {α : Type} {n : Nat} (v : Vector α n) (d : Fin n) (x : α) : (v.set d x)[d] = x := by simp

theorem vector_set_other {α : Type} {n : Nat} (v : Vector α n) {d e : Fin n} (h : e ≠ d) (x : α) : (v.set d x)[e] = v[e] := by
  have hv : d.val ≠ e.val := fun eq => h (Fin.ext eq.symm)
  simp [hv]

/-- A grant puts the drive at its spin-up draw (R144). -/
theorem State.grant_committed (s : State) (d : Fin 4) :
    (s.grant d).committed = s.committed - s.draw d + s.cfg.drive[d].spinUp := by
  obtain ⟨x, hx, hdrives⟩ := s.grant_drives d
  have hother : ∀ e, e ≠ d → (s.grant d).draw e = s.draw e := fun e he => by
    simp only [State.draw, hdrives, vector_set_other _ he, (s.grant_cfg d).1]
  rw [State.committed_of_draw hother]
  congr 1
  simp only [State.draw, hdrives, vector_set_same, (s.grant_cfg d).1, hx, contribution]

/-! ## The loop of grants -/

theorem State.grantLoop_step {s : State} {r : StartReq} {l : List StartReq} (k : Nat) (h : s.startQueue = r :: l) :
    s.grantLoop (k + 1) = if s.fits r.drive then (s.grant r.drive).grantLoop k else s := by
  simp only [State.grantLoop, h]

/-- Grants leave a committed draw within the budget within it. -/
theorem State.grantLoop_within (k : Nat) : ∀ s : State, s.committed ≤ s.budget → (s.grantLoop k).committed ≤ (s.grantLoop k).budget := by
  induction k with
  | zero => exact fun s h => h
  | succ k ih =>
    intro s h
    cases hq : s.startQueue with
    | nil => rwa [State.grantLoop_empty _ hq]
    | cons r l =>
      rw [State.grantLoop_step k hq]
      split
      · rename_i hfits
        refine ih _ ?_
        rw [s.grant_committed, s.grant_budget]
        exact ((s.fits_iff _).mp hfits).2
      · exact h

/-- Above the budget no head fits. -/
theorem State.grantLoop_above {s : State} (k : Nat) (h : s.budget < s.committed) : s.grantLoop k = s := by
  cases hq : s.startQueue with
  | nil => exact State.grantLoop_empty k hq
  | cons r l =>
    refine State.grantLoop_wait k hq (Bool.eq_false_iff.mpr fun hfits => ?_)
    exact absurd ((s.fits_iff _).mp hfits).1 (Nat.not_le.mpr h)

/-- Settles O57. -/
theorem grantsWithinBudget : Obligations.GrantsWithinBudget := by
  intro s k draw
  have hdraw : ∀ d, draw d = s.draw d := by
    intro d
    simp only [draw, State.draw]
    cases s.drives[d].power <;> rfl
  refine ⟨?committed, ?budget, State.grantLoop_within k s, State.grantLoop_above k, State.grantLoop_empty k, fun r l hq => ?head⟩
  case committed =>
    simp only [hdraw]
    exact s.committed_eq
  case budget =>
    unfold State.budget
    cases s.box.supply <;> rfl
  case head =>
    intro d x noted started fits
    have hfits : fits ↔ s.fits r.drive = true := by
      rw [s.fits_iff, ← hdraw]
    have hgrant : s.grant r.drive = started := by
      simp only [started, x, d, State.grant]
      split <;> rfl
    rw [State.grantLoop_step k hq, hgrant, hfits]
    exact ⟨fun h => if_pos h, fun h => if_neg h⟩

end Sys2Proof.Machine

/-! # Requests, and jobs that a row carries out (R80, R87, R88)

Each row of a request runs `takeIf` with a test that its request passes. A job's row, with the job it carries, is brought to one
equation of the body. -/

namespace Sys2Proof.Machine

/-- The row of a request looks at the oldest request with a test that admits it. -/
theorem CatReq.exec_row (q : CatReq) : ∃ p : CatReq → Bool, p q = true ∧ ∀ s, exec q.row s = run s fun s => s.takeIf p := by
  cases q <;> exact ⟨_, rfl, fun _ => rfl⟩

/-- Settles O32. -/
theorem catalogueRequests : Obligations.CatalogueRequests := by
  refine ⟨fun s q l hp hq hh => ?held, fun s q l hp hq hh => ?taken⟩ <;> obtain ⟨p, hpq, hrow⟩ := q.exec_row
  case held => exact run_ends_of (hrow s) hp (State.takeIf_held hq hpq hh)
  case taken => exact run_ends_of (hrow s) hp (State.takeIf_oldest hq hpq hh)

end Sys2Proof.Machine

/-! # Job chains (R1 to R11)

What one take attempt does to its chain, to ATTN and to the outputs is one update (`State.chainStep`); the four chains take such
updates apart from one another. -/

namespace Sys2Proof.Machine

@[simp] theorem withCause_chainFault (a : BitVec 12) : withCause a .chainFault = a ||| 2 := rfl
@[simp] theorem withCause_jobNotify (a : BitVec 12) : withCause a .jobNotify = a ||| 1 := rfl

/-! ## The status page's errors and the registers -/

/-- Settles O14. -/
theorem pageErrors : Obligations.PageErrors := by
  intro s hp
  refine ⟨fun h => ?kept, fun h hs => ?full, fun h => ?detached, fun h => ⟨?delivered, ?failed⟩⟩
  case kept =>
    refine run_ends_of (exec_statusPageWriteError s) hp ?_
    obtain h | h := h <;> simp only [State.mute_link, h] <;> rfl
  case full =>
    refine run_ends_of (exec_statusPageWriteError s) hp ?_
    simp only [State.mute_link, h, hs, if_true]
    rfl
  case detached =>
    refine run_ends_of (exec_statusPageWriteError s) hp ?_
    simp only [State.mute_link, h]
    rfl
  case delivered =>
    refine run_ends_of (exec_statusPageRewriteDone _ s) hp ?_
    simp only [State.mute_link, h, Bool.not_true, Bool.false_eq_true, if_false, if_true]
    rfl
  case failed =>
    refine run_ends_of (exec_statusPageRewriteDone _ s) hp ?_
    simp only [State.mute_link, h, Bool.not_true, Bool.false_eq_true, if_false]
    rfl

/-! ## LINK and the window -/

theorem bitOf_le (b : Bool) : bitOf b ≤ 1 := by cases b <;> decide

/-- LINK's four codes lie apart in its 64 bits. -/
theorem State.linkReg_toNat (s : State) :
    s.linkReg.toNat = s.link.attach.code + 16 * s.box.st.code + 256 * s.cat.st.code + 4096 * bitOf s.link.pageError := by
  have ha : s.link.attach.code ≤ 3 := by cases s.link.attach <;> decide
  have hb : s.box.st.code ≤ 3 := by cases s.box.st <;> decide
  have hc : s.cat.st.code ≤ 2 := by cases s.cat.st <;> decide
  have he := bitOf_le s.link.pageError
  rw [State.linkReg, BitVec.toNat_ofNat, Nat.mod_eq_of_lt (by omega)]

theorem State.readRegister_other (s : State) {offset width : Nat} (h : width ≠ 8 ∨ offset ∉ [0x00, 0x08, 0x10, 0x20, 0x28]) :
    s.readRegister offset width = 0 := by
  unfold State.readRegister
  split
  · rfl
  · rename_i hw
    have ho := h.resolve_left hw
    split <;> simp_all

/-- The part of a register write that concerns COMMAND (R14). -/
theorem commandWrite_ignored_iff (v : BitVec 64) :
    commandWrite 8 v = .registerWriteIgnored 0x30 8 v ↔ v ≠ 1 ∧ v ≠ 2 ∧ v ≠ 3 := by
  unfold commandWrite
  by_cases h1 : v = 1
  · simp [h1]
  by_cases h2 : v = 2
  · simp [h2]
  by_cases h3 : v = 3
  · simp [h3]
  · exact iff_of_true (by rw [if_neg h1, if_neg h2, if_neg h3]) ⟨h1, h2, h3⟩

/-- The offsets at which the window has registers of 8 bytes. -/
theorem inWindow_eight {offset : Nat} (h : inWindow offset 8 = true) :
    offset ∈ [0x00, 0x08, 0x10, 0x18, 0x20, 0x28, 0x30, 0x38] := by
  simp only [inWindow, Bool.and_eq_true, beq_iff_eq, decide_eq_true_iff] at h
  obtain ⟨⟨-, hmod⟩, hle⟩ := h
  simp only [List.mem_cons, List.not_mem_nil, or_false]
  omega

/-- Every write that is no register's own command is ignored (R13, R14). -/
theorem registerWrite_ignored_iff {offset width : Nat} (v : BitVec 64) (h : inWindow offset width = true) :
    registerWrite offset width v = .registerWriteIgnored offset width v
      ↔ width ≠ 8 ∨ offset = 0x00 ∨ offset = 0x08 ∨ offset = 0x38 ∨ (offset = 0x30 ∧ v ≠ 1 ∧ v ≠ 2 ∧ v ≠ 3) := by
  by_cases hw : width = 8
  · subst hw
    have ho := inWindow_eight h
    simp only [List.mem_cons, List.not_mem_nil, or_false] at ho
    obtain rfl | rfl | rfl | rfl | rfl | rfl | rfl | rfl := ho
    case inr.inr.inr.inr.inr.inr.inl =>
      simpa [registerWrite] using commandWrite_ignored_iff v
    all_goals simp [registerWrite]
  · simp [registerWrite, hw]

theorem ignoredWrite_iff (offset width : Nat) (v : BitVec 64) :
    ignoredWrite offset width v = true
      ↔ width ≠ 8 ∨ offset = 0x00 ∨ offset = 0x08 ∨ offset = 0x38 ∨ (offset = 0x30 ∧ v ≠ 1 ∧ v ≠ 2 ∧ v ≠ 3) := by
  simp [ignoredWrite, or_assoc, and_assoc]

/-- Settles O16. -/
theorem registerWrites : Obligations.RegisterWrites := by
  refine ⟨fun s v offset width hp => ⟨run_ends_of (exec_attnWrite v s) hp rfl, run_ends_of (exec_attnEnWrite v s) hp rfl,
    run_ends_of (exec_registerWriteIgnored offset width v s) hp rfl⟩, fun s => ?reads, fun v offset width hw => ?writes⟩
  case reads =>
    refine ⟨rfl, ?_, rfl, ?_, ?_, fun offset width => s.readRegister_other⟩
    · change s.linkReg.toNat = _
      rw [s.linkReg_toNat]
      cases s.link.attach <;> cases s.box.st <;> cases s.cat.st <;> cases s.link.pageError <;> rfl
    · change (s.attn.setWidth 64).toNat = s.attn.toNat
      exact BitVec.toNat_setWidth_of_le (by decide)
    · change (s.attnEn.setWidth 64).toNat = s.attnEn.toNat
      exact BitVec.toNat_setWidth_of_le (by decide)
  case writes =>
    refine ⟨rfl, rfl, rfl, rfl, rfl, rfl, rfl, registerWrite_ignored_iff v hw, ?_⟩
    rw [ignoredWrite_iff, registerWrite_ignored_iff v hw]

end Sys2Proof.Machine

/-! # Take attempts and the attach (R1 to R7) -/

namespace Sys2Proof.Machine

/-! ## One update of a chain -/

/-- One chain changed, CHAIN_FAULT set or not, and more actions: all that a take attempt does. -/
def State.chainStep (s : State) (c : Fin 4) (x : Chain) (fault : Bool) (l : List Out) : State :=
  { s with
    chains := s.chains.set c x
    attn := if fault then s.attn ||| 2 else s.attn
    out := { s.out with acts := s.out.acts ++ l } }

theorem vector_set_self {α : Type} {n : Nat} (v : Vector α n) (c : Fin n) : v.set c v[c] = v := by
  simp

theorem State.chainStep_self (s : State) (c : Fin 4) : s.chainStep c s.chains[c] false [] = s := by
  simp only [State.chainStep, vector_set_self, Bool.false_eq_true, if_false, List.append_nil]

theorem State.modChain_eq_chainStep (s : State) (c : Fin 4) (f : Chain → Chain) : s.modChain c f = s.chainStep c (f s.chains[c]) false [] := by
  simp only [State.chainStep, Bool.false_eq_true, if_false, List.append_nil]
  rfl

theorem State.modChain_modChain (s : State) (c : Fin 4) (f g : Chain → Chain) :
    (s.modChain c f).modChain c g = s.modChain c fun x => g (f x) := by
  simp [State.modChain]

/-- A chain as its take attempt begins: FAULTED where the anchor is bad (R4). -/
def Chain.attempt (x : Chain) : Chain :=
  if goodAddr 64 x.anchor then { x with take := .linkRead, poll := none, again := none, faultedMeanwhile := false }
  else { x with st := .faulted, take := .idle, poll := none, again := none, faultedMeanwhile := false }

/-- The read that a take attempt begins with. -/
def Chain.attemptRead (x : Chain) : List Out := if goodAddr 64 x.anchor then [.hostRead x.anchor 8] else []

theorem State.takeAttempt_eq (s : State) (c : Fin 4) :
    s.takeAttempt c = s.chainStep c s.chains[c].attempt (!goodAddr 64 s.chains[c].anchor) s.chains[c].attemptRead := by
  cases hgood : goodAddr 64 s.chains[c].anchor
  · rw [State.takeAttempt_bad hgood]
    simp only [State.chainStep, Chain.attempt, Chain.attemptRead, hgood, Bool.not_false, if_true, Bool.false_eq_true, if_false,
      List.append_nil]
    rfl
  · rw [State.takeAttempt_good hgood]
    simp only [State.chainStep, Chain.attempt, Chain.attemptRead, hgood, Bool.not_true, if_true, Bool.false_eq_true, if_false]
    rfl

/-- CHAIN_FAULT set by either of two updates. -/
theorem fault_fault (a : BitVec 12) (b c : Bool) :
    (if c then (if b then a ||| 2 else a) ||| 2 else if b then a ||| 2 else a) = if b || c then a ||| 2 else a := by
  have twice : a ||| 2 ||| 2 = a ||| 2 := by rw [BitVec.or_assoc, BitVec.or_self]
  cases b <;> cases c <;> simp only [twice, Bool.or_false, Bool.or_true, Bool.false_eq_true, if_false, if_true]

theorem exists_fin4 (p : Fin 4 → Bool) : (∃ c, p c = true) ↔ (p 0 || p 1 || p 2 || p 3) = true := by
  simp [Fin.exists_fin_succ, or_assoc]

/-- Four entries set one after another. -/
theorem vector_set4 {α : Type} (v : Vector α 4) (f : Fin 4 → α) :
    (((v.set (0 : Fin 4) (f 0)).set (1 : Fin 4) (f 1)).set (2 : Fin 4) (f 2)).set (3 : Fin 4) (f 3) = Vector.ofFn f := by
  ext i hi
  interval_cases i <;> simp

/-- The four chains in turn, each by an update that looks at its own chain alone. -/
theorem foldl_chains4 {F : State → Fin 4 → State} (G : Fin 4 → Chain → Chain) (B : Fin 4 → Chain → Bool)
    (A : Fin 4 → Chain → List Out) (h : ∀ s c, F s c = s.chainStep c (G c s.chains[c]) (B c s.chains[c]) (A c s.chains[c])) (s : State) :
    chains4.foldl F s =
      { s with
        chains := Vector.ofFn fun c => G c s.chains[c]
        attn := if ∃ c, B c s.chains[c] = true then s.attn ||| 2 else s.attn
        out := { s.out with acts := s.out.acts ++ chains4.flatMap fun c => A c s.chains[c] } } := by
  have h1 : (1 : Fin 4) ≠ 0 := by decide
  have h2 : (2 : Fin 4) ≠ 0 ∧ (2 : Fin 4) ≠ 1 := by decide
  have h3 : (3 : Fin 4) ≠ 0 ∧ (3 : Fin 4) ≠ 1 ∧ (3 : Fin 4) ≠ 2 := by decide
  simp only [chains4, List.foldl_cons, List.foldl_nil, h, State.chainStep, List.flatMap_cons, List.flatMap_nil, List.append_nil,
    List.append_assoc, exists_fin4 fun c => B c s.chains[c], vector_set_other _ h1, vector_set_other _ h2.1, vector_set_other _ h2.2,
    vector_set_other _ h3.1, vector_set_other _ h3.2.1, vector_set_other _ h3.2.2, fault_fault]
  rw [← vector_set4 s.chains fun c => G c s.chains[c]]

/-- The chain may make a take attempt (R4). -/
def Chain.takes (x : Chain) (c : Fin 4) : Bool := x.st == .running && decide (x.inFlight < chainLimit c) && x.take == .idle

theorem State.tryTake_eq (s : State) (c : Fin 4) :
    s.tryTake c = s.chainStep c (if s.chains[c].takes c then s.chains[c].attempt else s.chains[c])
      (s.chains[c].takes c && !goodAddr 64 s.chains[c].anchor) (if s.chains[c].takes c then s.chains[c].attemptRead else []) := by
  have htakes : s.chains[c].takes c = true
      ↔ s.chains[c].st = .running ∧ s.chains[c].inFlight < chainLimit c ∧ s.chains[c].take = .idle := by
    simp only [Chain.takes, Bool.and_eq_true, beq_iff_eq, decide_eq_true_iff, and_assoc]
  obtain ⟨h1, h2, h3, e⟩ | ⟨h, e⟩ := s.tryTake_cases c
  · rw [e, htakes.mpr ⟨h1, h2, h3⟩, s.takeAttempt_eq]
    simp only [if_true, Bool.true_and]
  · rw [e, Bool.eq_false_iff.mpr (mt htakes.mp h)]
    simp only [Bool.false_eq_true, if_false, Bool.false_and]
    exact (s.chainStep_self c).symm

/-! ## The attach -/

/-- An attach that fails (R1). -/
theorem State.attachFail_eq (s : State) :
    s.attachFail = { s with link := {}, chains := Vector.replicate 4 {}, attn := s.attn ||| 2 } := rfl

theorem execSetupBlockReadDone_ends {s : State} (hp : s.powered = true) (ha : s.link.attach = .attaching)
    (hs : s.link.stage = .readingSetup) :
    Ends s (.setupBlockReadDone none) { s with link := {}, chains := Vector.replicate 4 {}, attn := s.attn ||| 2, out := {} }
    ∧ ∀ b : List Byte,
      (goodAddr 4096 (setupPage b) = false → Ends s (.setupBlockReadDone (some b))
        { s with link := {}, chains := Vector.replicate 4 {}, attn := s.attn ||| 2, out := {} })
      ∧ (goodAddr 4096 (setupPage b) = true →
        let t := { s with
          chains := Vector.ofFn fun c => startChain (setupRoot b c)
          link := { s.link with stage := .writingPage, pageAddr := setupPage b } }
        Ends s (.setupBlockReadDone (some b)) { t with out := { acts := [.pageZeroUnused], notes := [[], t.pageFields] } }) := by
  have hbusy : ¬(s.mute.link.attach ≠ .attaching ∨ s.mute.link.stage ≠ .readingSetup) := by
    simp only [State.mute_link, ha, hs, ne_eq, not_true_eq_false, or_self, not_false_eq_true]
  refine ⟨?_, fun b => ⟨fun hbad => ?_, fun hgood => ?_⟩⟩ <;>
    refine run_ends_of (exec_setupBlockReadDone _ s) hp ?_ <;> rw [State.setupRead, if_neg hbusy]
  · rfl
  · simp only [hbad, Bool.false_eq_true, if_false]
    rfl
  · simp only [hgood, if_true]
    rfl

/-- The full page write has ended: every chain that did not start FAULTED makes its first take attempt (R2 to R4). -/
theorem execStatusPageFullWriteDone_ends {s : State} (hp : s.powered = true) (ha : s.link.attach = .attaching)
    (hs : s.link.stage = .writingPage)
    (hc : ∀ c : Fin 4, s.chains[c].st = .faulted ∨ s.chains[c].st = .running ∧ s.chains[c].inFlight = 0 ∧ s.chains[c].take = .idle
      ∧ goodAddr 64 s.chains[c].anchor = true) :
    Ends s .statusPageFullWriteDone
      { s with
        link := { s.link with attach := .attached, stage := .idle }
        chains := s.chains.map fun (x : Chain) =>
          if x.st = .faulted then x else { x with take := .linkRead, poll := none, again := none, faultedMeanwhile := false }
        attn := if ∃ c : Fin 4, s.chains[c].st = .faulted then s.attn ||| 2 else s.attn
        out := { acts := (chains4.filter fun c => s.chains[c].st == .running).map fun c => .hostRead s.chains[c].anchor 8 } } := by
  have hbusy : ¬(s.mute.link.attach ≠ .attaching ∨ s.mute.link.stage ≠ .writingPage) := by
    simp only [State.mute_link, ha, hs, ne_eq, not_true_eq_false, or_self, not_false_eq_true]
  have htakes : ∀ c : Fin 4, s.chains[c].takes c = (s.chains[c].st == .running) := fun c => by
    have hlimit : 0 < chainLimit c := by revert c; decide
    obtain h | ⟨h1, h2, h3, _⟩ := hc c
    · simp only [Chain.takes, h]
      rfl
    · simp only [Chain.takes, h1, h2, h3, hlimit, decide_true]
      rfl
  have hgood : ∀ c : Fin 4, s.chains[c].st = .running → goodAddr 64 s.chains[c].anchor = true := fun c h => by
    obtain h' | ⟨_, _, _, hg⟩ := hc c
    · exact nomatch h.symm.trans h'
    · exact hg
  have hattempts : ∀ c : Fin 4, (if s.chains[c].st == .running then s.chains[c].attempt else s.chains[c])
      = if s.chains[c].st = .faulted then s.chains[c]
        else { s.chains[c] with take := .linkRead, poll := none, again := none, faultedMeanwhile := false } := fun c => by
    obtain h | ⟨h, _, _, hg⟩ := hc c
    · simp only [h, if_true]
      rfl
    · simp only [h, beq_self_eq_true, if_true, Chain.attempt, hg]
      rfl
  have hchains : (Vector.ofFn fun c : Fin 4 => if s.chains[c].st == .running then s.chains[c].attempt else s.chains[c])
      = s.chains.map fun (x : Chain) =>
          if x.st = .faulted then x else { x with take := .linkRead, poll := none, again := none, faultedMeanwhile := false } := by
    ext i hi
    rw [Vector.getElem_ofFn, Vector.getElem_map]
    exact hattempts ⟨i, hi⟩
  have hnone : ¬∃ c : Fin 4, ((s.chains[c].st == .running) && !goodAddr 64 s.chains[c].anchor) = true := by
    rintro ⟨c, h⟩
    rw [Bool.and_eq_true, beq_iff_eq] at h
    exact absurd h.2 (by rw [hgood c h.1]; decide)
  have hreads : (chains4.flatMap fun c => if s.chains[c].st == .running then s.chains[c].attemptRead else [])
      = (chains4.filter fun c => s.chains[c].st == .running).map fun c => Out.hostRead s.chains[c].anchor 8 := by
    rw [filter_map_eq_flatMap]
    congr 1
    funext c
    by_cases h : s.chains[c].st = .running
    · simp only [h, beq_self_eq_true, if_true, Chain.attemptRead, hgood c h]
    · simp only [beq_eq_false_iff_ne.mpr h, Bool.false_eq_true, if_false]
  have hfaulted : (chains4.any fun c => s.chains[c].st == .faulted) = true ↔ ∃ c : Fin 4, s.chains[c].st = .faulted := by
    simp [chains4, Fin.exists_fin_succ]
  refine run_ends_of (exec_statusPageFullWriteDone s) hp ?_
  rw [if_neg hbusy]
  simp only [State.mute_chains, hfaulted]
  rw [foldl_chains4 (fun c x => if x.takes c then x.attempt else x) (fun c x => x.takes c && !goodAddr 64 x.anchor)
    (fun c x => if x.takes c then x.attemptRead else []) fun s c => s.tryTake_eq c]
  split <;> simp only [State.setCause_chains, State.setCause_attn, State.setCause_out, htakes, hchains,
    hnone, if_false, hreads, withCause_chainFault] <;> rfl

/-- Settles O9. -/
theorem attach : Obligations.Attach := by
  refine ⟨fun s v hp => ⟨fun h0 hd hr hv => ?_, fun h0 hd hr hv => ?_, fun h => ?_⟩,
    fun s hp ha hs => execSetupBlockReadDone_ends hp ha hs, fun s hp ha hs hc => execStatusPageFullWriteDone_ends hp ha hs hc⟩
  · have hfree : ¬(v = 0 ∨ s.mute.link.attach ≠ .detached ∨ s.mute.box.st ≠ .run) := by
      simp only [State.mute_link, State.mute_box, h0, hd, hr, ne_eq, not_true_eq_false, or_self, not_false_eq_true]
    refine run_ends_of (exec_setupAddrWrite v s) hp ?_
    rw [State.attachRequest, if_neg hfree, if_pos hv]
    rfl
  · have hfree : ¬(v = 0 ∨ s.mute.link.attach ≠ .detached ∨ s.mute.box.st ≠ .run) := by
      simp only [State.mute_link, State.mute_box, h0, hd, hr, ne_eq, not_true_eq_false, or_self, not_false_eq_true]
    refine run_ends_of (exec_setupAddrWrite v s) hp ?_
    rw [State.attachRequest, if_neg hfree, if_neg hv]
    rfl
  · exact run_ends_of (exec_setupAddrWrite v s) hp (if_pos h)

end Sys2Proof.Machine

/-! # Nudges, the poll timer and the steps of a take attempt (R4 to R7) -/

namespace Sys2Proof.Machine

/-! ## NUDGE -/

/-- A NUDGE bit meets a chain that it acts on (R7). -/
def Chain.nudged (x : Chain) (v : BitVec 64) (c : Fin 4) : Bool := v.getLsbD c.val && (x.st == .stalled || x.st == .faulted)

theorem Chain.nudged_iff (x : Chain) (v : BitVec 64) (c : Fin 4) :
    x.nudged v c = true ↔ v.getLsbD c.val = true ∧ (x.st = .stalled ∨ x.st = .faulted) := by
  simp only [Chain.nudged, Bool.and_eq_true, Bool.or_eq_true, beq_iff_eq]

theorem State.nudgeChain_eq (s : State) (v : BitVec 64) (c : Fin 4) :
    s.nudgeChain v c =
      let x := s.chains[c]
      let begins := x.nudged v c && x.take == .idle
      s.chainStep c (if begins then x.attempt else if x.nudged v c then { x with again := some .nudge } else x)
        (begins && !goodAddr 64 x.anchor) (if begins then x.attemptRead else []) := by
  simp only [State.nudgeChain]
  cases hn : s.chains[c].nudged v c
  · rw [if_neg (mt (Chain.nudged_iff ..).mpr (Bool.eq_false_iff.mp hn))]
    simp only [Bool.false_and, Bool.false_eq_true, if_false]
    exact (s.chainStep_self c).symm
  · rw [if_pos ((Chain.nudged_iff ..).mp hn)]
    by_cases ht : s.chains[c].take = .idle
    · simp only [ht, if_true, beq_self_eq_true, Bool.and_self, Bool.true_and, s.takeAttempt_eq]
    · simp only [ht, if_false, beq_eq_false_iff_ne.mpr ht, Bool.and_false, Bool.false_and, Bool.false_eq_true, if_true]
      exact s.modChain_eq_chainStep c _

/-- The reads that a NUDGE begins. -/
def State.nudgeReads (s : State) (v : BitVec 64) : List Out :=
  (chains4.filter fun c => (s.chains[c].nudged v c && s.chains[c].take == .idle) && goodAddr 64 s.chains[c].anchor).map fun c =>
    .hostRead s.chains[c].anchor 8

/-- The part after the chains have been nudged, before a page in error is written again. -/
def State.afterNudge (s : State) (v : BitVec 64) : State :=
  { s with
    chains := Vector.ofFn fun c =>
      if s.chains[c].nudged v c && s.chains[c].take == .idle then s.chains[c].attempt
      else if s.chains[c].nudged v c then { s.chains[c] with again := some .nudge } else s.chains[c]
    attn := if ∃ c : Fin 4, (s.chains[c].nudged v c && s.chains[c].take == .idle) = true ∧ goodAddr 64 s.chains[c].anchor = false
      then s.attn ||| 2 else s.attn
    out := { acts := s.nudgeReads v } }

theorem State.nudgeReads_eq (s : State) (v : BitVec 64) :
    s.nudgeReads v = chains4.flatMap fun c =>
      if s.chains[c].nudged v c && s.chains[c].take == .idle then s.chains[c].attemptRead else [] := by
  rw [State.nudgeReads, filter_map_eq_flatMap]
  congr 1
  funext c
  rw [Chain.attemptRead]
  cases s.chains[c].nudged v c && s.chains[c].take == .idle <;> cases goodAddr 64 s.chains[c].anchor <;> rfl

theorem State.nudgeChains_eq (s : State) (v : BitVec 64) (h : s.out = {}) :
    chains4.foldl (fun s c => s.nudgeChain v c) s = s.afterNudge v := by
  rw [foldl_chains4
    (fun c x => if x.nudged v c && x.take == .idle then x.attempt else if x.nudged v c then { x with again := some .nudge } else x)
    (fun c x => (x.nudged v c && x.take == .idle) && !goodAddr 64 x.anchor)
    (fun c x => if x.nudged v c && x.take == .idle then x.attemptRead else []) fun s c => s.nudgeChain_eq v c]
  have hfault : (∃ c : Fin 4, ((s.chains[c].nudged v c && s.chains[c].take == .idle) && !goodAddr 64 s.chains[c].anchor) = true)
      ↔ ∃ c : Fin 4, (s.chains[c].nudged v c && s.chains[c].take == .idle) = true ∧ goodAddr 64 s.chains[c].anchor = false := by
    simp only [Bool.and_eq_true (_ && _) (!_), Bool.not_eq_true']
  rw [State.afterNudge, s.nudgeReads_eq, h]
  simp only [hfault, List.nil_append]

theorem execNudge_ends {s : State} (hp : s.powered = true) (v : BitVec 64) (ha : s.link.attach = .attached) :
    (s.link.pageError = false ∨ s.link.rewriting = true → Ends s (.nudge v) (s.afterNudge v))
      ∧ (s.link.pageError = true → s.link.rewriting = false →
        let t := { s.afterNudge v with link := { s.link with rewriting := true } }
        Ends s (.nudge v) { t with out := { acts := (s.afterNudge v).out.acts ++ [.pageZeroUnused], notes := [[], t.pageFields] } }) := by
  have hattached : ¬s.mute.link.attach ≠ .attached := not_not.mpr ha
  refine ⟨fun h => ?_, fun he hr => ?_⟩ <;> refine run_ends_of (exec_nudge v s) hp ?_ <;>
    rw [if_neg hattached, s.mute.nudgeChains_eq v rfl]
  · refine if_neg ?_
    change ¬(s.link.pageError = true ∧ (!s.link.rewriting) = true)
    obtain h | h := h <;> simp only [h, Bool.not_true, Bool.false_eq_true, and_false, false_and, not_false_eq_true]
  · refine if_pos ?_
    change s.link.pageError = true ∧ (!s.link.rewriting) = true
    simp only [he, hr, Bool.not_false, and_self]

/-- Settles O10. -/
theorem takeAttemptBegins : Obligations.TakeAttemptBegins := by
  intro s hp
  refine ⟨fun v ha => execNudge_ends hp v ha, fun v ha => ?_, fun c => ⟨fun hs ht hpoll => ?_, fun hs ht hpoll hagain => ?_, fun hs => ?_⟩⟩
  · exact run_ends_of (exec_nudge v s) hp (if_pos ha)
  · refine run_ends_of (exec_chainPollTimerExpiry c s) hp ?_
    refine (if_neg (not_not.mpr hs)).trans ((if_neg (not_not.mpr ht)).trans ((if_pos hpoll).trans ?_))
    rw [State.takeAttempt_eq]
    cases hgood : goodAddr 64 s.chains[c].anchor <;>
      simp only [State.chainStep, Chain.attempt, Chain.attemptRead, State.mute_chains, hgood] <;> rfl
  · have hfree : ¬(s.mute.cfg.poll = 0 ∨ s.mute.chains[c].again.isSome = true) := by
      rintro (h | h)
      · exact hpoll h
      · rw [State.mute_chains, hagain] at h
        exact nomatch h
    exact run_ends_of (exec_chainPollTimerExpiry c s) hp
      ((if_neg (not_not.mpr hs)).trans ((if_pos ht).trans (if_neg hfree)))
  · exact run_ends_of (exec_chainPollTimerExpiry c s) hp (if_pos hs)

end Sys2Proof.Machine

/-! # The steps of a take attempt, completion and detach (R4, R5, R8 to R11) -/

namespace Sys2Proof.Machine

/-! ## How a take attempt ends -/

/-- A chain with nothing that waits for the end of its take attempt. -/
def Chain.calm (x : Chain) : Prop := x.again = none ∧ x.faultedMeanwhile = false

theorem State.faultChain_calm {s : State} {c : Fin 4} (h : s.chains[c].calm) :
    s.faultChain c =
      { s with
        chains := s.chains.set c { s.chains[c] with st := .faulted, take := .idle, poll := none, again := none }
        attn := s.attn ||| 2 } := by
  obtain ⟨-, hf⟩ := h
  simp only [hf]
  rfl

theorem State.failTake_calm {s : State} {c : Fin 4} (h : s.chains[c].calm) :
    s.failTake c =
      { s with
        chains := s.chains.set c { s.chains[c] with st := .faulted, take := .idle, poll := none, again := none }
        attn := s.attn ||| 2 } := by
  rw [← State.faultChain_calm h]
  exact if_neg (by rw [h.1]; exact nofun)

theorem State.stallTake_calm {s : State} {c : Fin 4} (h : s.chains[c].calm) :
    s.stallTake c =
      { s with
        chains := s.chains.set c
          { s.chains[c] with st := .stalled, take := .idle, again := none, poll := if s.cfg.poll = 0 then none else some s.cfg.poll } } := by
  obtain ⟨ha, hf⟩ := h
  simp only [State.stallTake, ha, hf, Bool.false_eq_true, if_false, Option.isSome_none]
  simp only [State.modChain, hf]
  rfl

/-! ## The link and the record -/

theorem State.linkRead_none {s : State} {c : Fin 4} (ht : s.chains[c].take = .linkRead) : s.linkRead c none = s.failTake c :=
  if_neg (not_not.mpr ht)

theorem State.linkRead_some {s : State} {c : Fin 4} (ht : s.chains[c].take = .linkRead) (b : List Byte) :
    s.linkRead c (some b) =
      if recordLink b = 0 then s.stallTake c
      else if (recordLink b).toNat % 64 = 0 then
        (s.modChain c fun x => { x with take := .recordRead (recordLink b) }).emit (.hostRead (recordLink b) 64)
      else s.failTake c :=
  if_neg (not_not.mpr ht)

theorem State.recordRead_none {s : State} {c : Fin 4} {link : Addr} (ht : s.chains[c].take = .recordRead link) :
    s.recordRead c none = s.failTake c := by
  simp only [State.recordRead, ht]

theorem State.recordRead_some {s : State} {c : Fin 4} {link : Addr} (ht : s.chains[c].take = .recordRead link) (b : List Byte) :
    s.recordRead c (some b) =
      if recordPosted b then
        (s.modChain c fun x => { x with take := .takenWrite link b }).emit (.hostWrite (link + 9) [2])
      else s.stallTake c := by
  simp only [State.recordRead, ht]

/-- A link that is no multiple of 64 is not 0. -/
theorem addr_ne_zero_of_mod {a : Addr} (h : a.toNat % 64 ≠ 0) : a ≠ 0 := by
  rintro rfl
  exact h rfl

/-- The read of the anchor's link (R4 steps 1 to 3). -/
theorem anchorLinkReadDone_ends {s : State} {c : Fin 4} (hp : s.powered = true) (hcalm : s.chains[c].calm)
    (ht : s.chains[c].take = .linkRead) :
    let faulted := { s with
      chains := s.chains.set c { s.chains[c] with st := .faulted, take := .idle, poll := none, again := none }
      attn := s.attn ||| 2, out := {} }
    (∀ b : List Byte,
      (recordLink b = 0 → Ends s (.anchorLinkReadDone c (some b))
        { s with
          chains := s.chains.set c
            { s.chains[c] with st := .stalled, take := .idle, again := none, poll := if s.cfg.poll = 0 then none else some s.cfg.poll }
          out := {} })
      ∧ (recordLink b ≠ 0 → (recordLink b).toNat % 64 = 0 → Ends s (.anchorLinkReadDone c (some b))
        { s with
          chains := s.chains.set c { s.chains[c] with take := .recordRead (recordLink b) }
          out := { acts := [.hostRead (recordLink b) 64] } })
      ∧ ((recordLink b).toNat % 64 ≠ 0 → Ends s (.anchorLinkReadDone c (some b)) faulted))
    ∧ Ends s (.anchorLinkReadDone c none) faulted
    ∧ Ends s (.hostReadTimeout (.anchorLink c)) faulted := by
  have hfails : s.mute.linkRead c none = _ := (State.linkRead_none (s := s.mute) ht).trans (State.failTake_calm (s := s.mute) hcalm)
  refine ⟨fun b => ⟨fun h0 => ?_, fun h0 h64 => ?_, fun h64 => ?_⟩, ?_, ?_⟩
  · refine run_ends_of (exec_anchorLinkReadDone c _ s) hp ?_
    rw [State.linkRead_some (s := s.mute) ht, if_pos h0]
    exact State.stallTake_calm (s := s.mute) hcalm
  · refine run_ends_of (exec_anchorLinkReadDone c _ s) hp ?_
    rw [State.linkRead_some (s := s.mute) ht, if_neg h0, if_pos h64]
    rfl
  · refine run_ends_of (exec_anchorLinkReadDone c _ s) hp ?_
    rw [State.linkRead_some (s := s.mute) ht, if_neg (addr_ne_zero_of_mod h64), if_neg h64]
    exact State.failTake_calm (s := s.mute) hcalm
  · exact run_ends_of (exec_anchorLinkReadDone c _ s) hp hfails
  · exact run_ends_of (exec_hostReadTimeout _ s) hp hfails

/-- The read of the linked record (R4 steps 4 to 6). -/
theorem jobRecordReadDone_ends {s : State} {c : Fin 4} {link : Addr} (b : List Byte) (hp : s.powered = true) (hcalm : s.chains[c].calm)
    (ht : s.chains[c].take = .recordRead link) :
    (b.getD 9 0 = 1 →
      Ends s (.jobRecordReadDone c (some b))
        { s with chains := s.chains.set c { s.chains[c] with take := .takenWrite link b }, out := { acts := [.hostWrite (link + 9) [2]] } })
    ∧ (b.getD 9 0 ≠ 1 →
      Ends s (.jobRecordReadDone c (some b))
        { s with
          chains := s.chains.set c
            { s.chains[c] with st := .stalled, take := .idle, again := none, poll := if s.cfg.poll = 0 then none else some s.cfg.poll }
          out := {} })
    ∧ Ends s (.jobRecordReadDone c none)
        { s with
          chains := s.chains.set c { s.chains[c] with st := .faulted, take := .idle, poll := none, again := none }
          attn := s.attn ||| 2, out := {} } := by
  refine ⟨fun hb => ?_, fun hb => ?_, ?_⟩ <;> refine run_ends_of (exec_jobRecordReadDone c _ s) hp ?_
  · rw [State.recordRead_some (s := s.mute) ht, recordPosted, hb]
    rfl
  · rw [State.recordRead_some (s := s.mute) ht, recordPosted, if_neg (mt beq_iff_eq.mp hb)]
    exact State.stallTake_calm (s := s.mute) hcalm
  · rw [State.recordRead_none (s := s.mute) ht]
    exact State.failTake_calm (s := s.mute) hcalm

/-! ## The dispatch -/

/-- What DRIVE_CONTROL's action code must be for its job to be dispatched (R151). -/
def JobReq.actionOk (q : JobReq) : Prop := ∀ d a, q = .driveControl d a → 1 ≤ a ∧ a ≤ 6

theorem dispatchRefusal_accepted {c : Fin 4} {b : List Byte} {q : JobReq} (hq : parseJob b = some q) (hc : q.chain = c)
    (ha : q.actionOk) : dispatchRefusal c b = none := by
  rw [dispatchRefusal, hq]
  simp only [hc, ne_eq, not_true_eq_false, if_false]
  split
  · rename_i d a
    exact if_pos (ha d a rfl)
  · rfl

theorem dispatchRefusal_badKind {c : Fin 4} {b : List Byte} (h : ∀ q : JobReq, parseJob b = some q → q.chain ≠ c) :
    dispatchRefusal c b = some .badKind := by
  rw [dispatchRefusal]
  split
  · rfl
  · rename_i q hq
    exact if_pos (h q hq)

/-- A job as it is taken (R5). -/
def takenJob (id : Nat) (c : Fin 4) (link : Addr) (b : List Byte) (p : JobPhase) : Job :=
  { id := id, chain := c, record := link, notify := recordNotify b, req := (parseJob b).getD .load, phase := p }

theorem State.dispatch_accepted {s : State} {c : Fin 4} {link : Addr} {b : List Byte} (h : dispatchRefusal c b = none) :
    s.dispatch c link b = { s with jobs := s.jobs ++ [takenJob s.nextId c link b .dispatched], nextId := s.nextId + 1 } := by
  simp only [State.dispatch, h]
  rfl

/-- A refused job is the one with its name, the names in use being others. -/
theorem State.dispatch_refused {s : State} {c : Fin 4} {link : Addr} {b : List Byte} {x : Status} (h : dispatchRefusal c b = some x)
    (hid : ∀ j ∈ s.jobs, j.id ≠ s.nextId) :
    s.dispatch c link b =
      { s with
        jobs := s.jobs ++ [takenJob s.nextId c link b (.writingResults { status := x })]
        nextId := s.nextId + 1
        out := { s.out with acts := s.out.acts ++ [.hostWrite (link + 48) (Result.bytes { status := x })] } } := by
  let t : State := { s with jobs := s.jobs ++ [takenJob s.nextId c link b .dispatched], nextId := s.nextId + 1 }
  have hjob : t.job s.nextId = some (takenJob s.nextId c link b .dispatched) := by
    simp only [State.job, t]
    rw [List.find?_append, List.find?_eq_none.mpr (by simpa using hid)]
    simp [takenJob]
  have hmap : s.jobs.map (fun j => if j.id = s.nextId then { j with phase := .writingResults { status := x } } else j) = s.jobs := by
    rw [List.map_congr_left fun j hj => if_neg (hid j hj), List.map_id']
  have hcomplete : s.dispatch c link b = t.complete s.nextId { status := x } := by
    simp only [State.dispatch, h]
    rfl
  rw [hcomplete, State.complete_eq hjob]
  simp only [State.setPhase, State.emit, t, List.map_append, hmap]
  simp [takenJob]

/-! ## The TAKEN write -/

section
variable {s : State} {c : Fin 4} {link : Addr} {b : List Byte} (hp : s.powered = true)
  (ht : s.chains[c].take = .takenWrite link b) (hcalm : s.chains[c].calm)
include hp ht hcalm

/-- The chain as its job is taken (R4 step 7). -/
def Chain.taking (x : Chain) (link : Addr) : Chain :=
  { x with anchor := link, taken := x.taken + 1, inFlight := x.inFlight + 1, take := .idle, poll := none, again := none, st := .running }

theorem takenWrite_dispatches :
    Ends s (.takenWriteDone c true)
      (State.tryTake
        (State.dispatch { s with chains := s.chains.set c (s.chains[c].taking link), out := {} } c link b) c) := by
  obtain ⟨ha, hf⟩ := hcalm
  refine run_ends_of (exec_takenWriteDone c true s) hp ?_
  simp only [State.mute_chains, ht, hf, Bool.not_true, Bool.false_eq_true, if_false, false_and, State.modChain, Chain.taking]
  rfl

theorem takenWrite_fails :
    Ends s (.takenWriteDone c false)
      { s with
        chains := s.chains.set c { s.chains[c] with st := .faulted, take := .idle, poll := none, again := none }
        attn := s.attn ||| 2, out := {} } := by
  refine run_ends_of (exec_takenWriteDone c false s) hp ?_
  simp only [State.mute_chains, ht, Bool.not_false, if_true]
  exact State.failTake_calm (s := s.mute) hcalm

end

/-- The chain's own context after a job is taken. -/
theorem Chain.taking_takes (x : Chain) (link : Addr) (c : Fin 4) : (x.taking link).takes c = decide (x.inFlight + 1 < chainLimit c) := by
  simp only [Chain.taking, Chain.takes, beq_self_eq_true, Bool.true_and, Bool.and_true]
  rfl

theorem State.tryTake_of_not_takes {s : State} {c : Fin 4} (h : s.chains[c].takes c = false) : s.tryTake c = s := by
  rw [s.tryTake_eq, h]
  simp only [Bool.false_and, Bool.false_eq_true, if_false]
  exact s.chainStep_self c

theorem State.tryTake_of_takes {s : State} {c : Fin 4} (h : s.chains[c].takes c = true)
    (hgood : goodAddr 64 s.chains[c].anchor = true) :
    s.tryTake c =
      { s with
        chains := s.chains.set c { s.chains[c] with take := .linkRead, poll := none, again := none, faultedMeanwhile := false }
        out := { s.out with acts := s.out.acts ++ [.hostRead s.chains[c].anchor 8] } } := by
  rw [s.tryTake_eq, h]
  simp only [Chain.attempt, Chain.attemptRead, hgood, State.chainStep, if_true, Bool.not_true, Bool.and_false, Bool.false_eq_true,
    if_false]

section
variable {s : State} {c : Fin 4} {link : Addr} {b : List Byte} (hp : s.powered = true)
  (ht : s.chains[c].take = .takenWrite link b) (hcalm : s.chains[c].calm)
include hp ht hcalm

/-- The chain is at its limit: the job is dispatched. -/
theorem takenWriteDone_dispatched (hlimit : s.chains[c].inFlight + 1 = chainLimit c) {q : JobReq} (hq : parseJob b = some q)
    (hc : q.chain = c) (ha : q.actionOk) :
    Ends s (.takenWriteDone c true)
      { s with
        chains := s.chains.set c (s.chains[c].taking link), nextId := s.nextId + 1, out := {}
        jobs := s.jobs ++ [{ id := s.nextId, chain := c, record := link, notify := recordNotify b, req := q, phase := .dispatched }] } := by
  have h := takenWrite_dispatches hp ht hcalm
  rw [State.dispatch_accepted (dispatchRefusal_accepted hq hc ha), State.tryTake_of_not_takes, takenJob, hq] at h
  · exact h
  · rw [vector_set_same, Chain.taking_takes, hlimit]
    simp

/-- A kind that the chain does not accept (R5). -/
theorem takenWriteDone_badKind (hlimit : s.chains[c].inFlight + 1 = chainLimit c)
    (hq : ∀ q : JobReq, parseJob b = some q → q.chain ≠ c) (hid : ∀ j ∈ s.jobs, j.id ≠ s.nextId) :
    Ends s (.takenWriteDone c true)
      { s with
        chains := s.chains.set c (s.chains[c].taking link), nextId := s.nextId + 1
        out := { acts := [.hostWrite (link + 48) (Result.bytes { status := .badKind })] }
        jobs := s.jobs ++
          [{ id := s.nextId, chain := c, record := link, notify := recordNotify b, req := (parseJob b).getD .load
             phase := .writingResults { status := .badKind } }] } := by
  have h := takenWrite_dispatches hp ht hcalm
  rw [State.dispatch_refused (dispatchRefusal_badKind hq) (by exact hid), State.tryTake_of_not_takes, takenJob] at h
  · exact h
  · rw [vector_set_same, Chain.taking_takes, hlimit]
    simp

/-- A chain still below its limit makes its next take attempt (R4). -/
theorem takenWriteDone_goes_on (hlimit : s.chains[c].inFlight + 1 < chainLimit c) (hgood : goodAddr 64 link = true) {q : JobReq}
    (hq : parseJob b = some q) (hc : q.chain = c) (ha : q.actionOk) :
    Ends s (.takenWriteDone c true)
      { s with
        chains := s.chains.set c { s.chains[c].taking link with take := .linkRead, faultedMeanwhile := false }, nextId := s.nextId + 1
        jobs := s.jobs ++ [{ id := s.nextId, chain := c, record := link, notify := recordNotify b, req := q, phase := .dispatched }]
        out := { acts := [.hostRead link 8] } } := by
  have h := takenWrite_dispatches hp ht hcalm
  rw [State.dispatch_accepted (dispatchRefusal_accepted hq hc ha), State.tryTake_of_takes, takenJob, hq] at h
  · simpa only [vector_set_same, Chain.taking, Vector.set_set, List.nil_append, Option.getD_some] using h
  · rw [vector_set_same, Chain.taking_takes, decide_eq_true hlimit]
  · rw [vector_set_same]
    exact hgood

end

/-! ## Job records -/

/-- Every code that is no kind's (13, Job record). -/
theorem parseJob_none {b : List Byte}
    (h : field b 8 1 ∉ [1, 2, 3, 4, 5, 6, 7, 8, 0x10, 0x11, 0x20, 0x21, 0x22, 0x23, 0x24, 0x25, 0x30]) : parseJob b = none := by
  simp only [List.mem_cons, List.not_mem_nil, or_false, not_or] at h
  unfold parseJob
  split <;> simp_all

/-- Settles O11: the reads and the write of a take attempt by their cases, and the kinds of a record by its code. -/
theorem takeAttempt : Obligations.TakeAttempt := by
  refine ⟨fun s c hp ht ha hf => anchorLinkReadDone_ends hp ⟨ha, hf⟩ ht, fun s c link b hp ht ha hf =>
    jobRecordReadDone_ends b hp ⟨ha, hf⟩ ht, fun s c link b hp ht hf ha => ?taken, by decide, fun b => ?kinds⟩
  case taken =>
    exact ⟨fun hlimit => ⟨fun q => takenWriteDone_dispatched hp ht ⟨ha, hf⟩ hlimit, takenWriteDone_badKind hp ht ⟨ha, hf⟩ hlimit⟩,
      fun hlimit hgood q => takenWriteDone_goes_on hp ht ⟨ha, hf⟩ hlimit hgood, takenWrite_fails hp ht ⟨ha, hf⟩⟩
  case kinds =>
    refine ⟨?_, ?_, ?_, ?_, ?_, ?_, ?_, ?_, ?_, ?_, ?_, ?_, ?_, ?_, ?_, ?_, ?_, parseJob_none, rfl⟩ <;>
      exact fun h => ⟨by simp only [parseJob, h, flagBit], rfl⟩

end Sys2Proof.Machine

/-! # Completion, DETACH, POWER_CONSENT and ENGINE_RESET (R8 to R12, R138, R187) -/

namespace Sys2Proof.Machine

/-! ## What follows a job that has ended -/

theorem State.drainCheck_of_not_drain {s : State} (h : s.box.drain = false) : s.drainCheck = s :=
  if_neg fun hd => Bool.false_ne_true (h.symm.trans hd.1)

theorem State.detachIfIdle_of_attached {s : State} (h : s.link.attach = .attached) : s.detachIfIdle = s :=
  if_neg fun hd => Attach.noConfusion (h.symm.trans hd.1)

/-- The page gets the writes due until the part is DETACHED (R11). -/
theorem State.detachIfIdle_of_detaching {s : State} (h : s.link.attach = .detaching) (hn : s.noneInFlight = true) :
    s.detachIfIdle =
      { s with link := {}, chains := Vector.replicate 4 {}, out := { s.out with notes := s.out.notes ++ [s.pageFields] } } := by
  have hstage : s.stage = [s.pageFields] := if_pos (s.kept_iff.mpr (.inr h))
  rw [State.detachIfIdle, if_pos ⟨h, hn⟩, State.note, hstage]
  rfl

theorem State.jobLeft_attached {s : State} {c : Fin 4} (h : s.link.attach = .attached) (hd : s.box.drain = false) :
    s.jobLeft c = s.tryTake c := by
  rw [State.jobLeft, State.tryTake_eq, State.detachIfIdle_of_attached (by exact h), State.drainCheck_of_not_drain (by exact hd)]

theorem State.jobLeft_detaching {s : State} {c : Fin 4} (h : s.link.attach = .detaching) (hs : s.chains[c].st = .stopped)
    (hn : s.noneInFlight = true) (hd : s.box.drain = false) :
    s.jobLeft c =
      { s with link := {}, chains := Vector.replicate 4 {}, out := { s.out with notes := s.out.notes ++ [s.pageFields] } } := by
  have hno : s.chains[c].takes c = false := by rw [Chain.takes, hs]; rfl
  rw [State.jobLeft, State.tryTake_of_not_takes hno, State.detachIfIdle_of_detaching h hn]
  exact State.drainCheck_of_not_drain hd

theorem State.noneInFlight_iff (s : State) : s.noneInFlight = true ↔ ∀ c : Fin 4, s.chains[c].inFlight = 0 := by
  simp [State.noneInFlight, Fin.forall_fin_succ, and_assoc]

/-! ## Completion (R8) -/

/-- The part as a completed job has left it, before what then follows. -/
def State.jobDone (s : State) (j : Job) : State :=
  { s with
    jobs := s.jobs.filter fun k => k.id != j.id
    chains := s.chains.set j.chain
      { s.chains[j.chain] with inFlight := s.chains[j.chain].inFlight - 1, done := s.chains[j.chain].done + 1 }
    attn := if j.notify then s.attn ||| 1 else s.attn
    out := {} }

theorem completion_results {s : State} {j : Job} {r : Result} (hj : s.holds j) (hphase : j.phase = .writingResults r) :
    Ends s (.completionWriteDelivered j.id) (s.goesTo j (.writingDone r) [.hostWrite (j.record + 9) [3]]) := by
  obtain ⟨hp, hjob⟩ := hj
  have hm : s.mute.job j.id = some j := hjob
  refine run_ends_of (exec_completionWriteDelivered j.id s) hp ?_
  simp only [hm, hphase]
  rfl

theorem completion_done {s : State} {j : Job} {r : Result} (hj : s.holds j) (hphase : j.phase = .writingDone r) :
    Ends s (.completionWriteDelivered j.id) ((s.jobDone j).jobLeft j.chain) := by
  obtain ⟨hp, hjob⟩ := hj
  have hm : s.mute.job j.id = some j := hjob
  refine run_ends_of (exec_completionWriteDelivered j.id s) hp ?_
  have hdone : (if j.notify then (((s.mute.dropJob j.id).leaveChain j.chain).modChain j.chain fun x => { x with done := x.done + 1 }).setCause
      .jobNotify else ((s.mute.dropJob j.id).leaveChain j.chain).modChain j.chain fun x => { x with done := x.done + 1 }) = s.jobDone j := by
    rw [State.leaveChain, State.modChain_modChain]
    cases h : j.notify <;> simp only [Bool.false_eq_true, if_false, if_true, State.jobDone, h] <;> rfl
  simp only [hm, hphase]
  exact congrArg (State.jobLeft · j.chain) hdone

theorem faultByCompletion_idle {x : Chain} (hst : x.st ≠ .stopped) (ht : x.take = .idle) :
    faultByCompletion x = { x with st := .faulted, poll := none, faultedMeanwhile := false } := by
  rw [faultByCompletion, if_neg hst, ht]
  rfl

theorem completion_fault {s : State} {j : Job} {r : Result} (hj : s.holds j) (hphase : j.phase = .writingResults r ∨ j.phase = .writingDone r)
    (hst : s.chains[j.chain].st = .running ∨ s.chains[j.chain].st = .stalled) (htake : s.chains[j.chain].take = .idle)
    (ha : s.link.attach = .attached) (hd : s.box.drain = false) :
    Ends s (.completionFault j.id)
      { s with
        jobs := s.jobs.filter fun k => k.id != j.id
        chains := s.chains.set j.chain
          { s.chains[j.chain] with
            inFlight := s.chains[j.chain].inFlight - 1, st := .faulted, poll := none, faultedMeanwhile := false }
        attn := s.attn ||| 2, out := {} } := by
  obtain ⟨hp, hjob⟩ := hj
  have hm : s.mute.job j.id = some j := hjob
  have hstop : s.chains[j.chain].st ≠ .stopped := fun h => by rw [h] at hst; exact hst.elim nofun nofun
  refine run_ends_of (exec_completionFault j.id s) hp ?_
  have hleft : ((((s.mute.dropJob j.id).leaveChain j.chain).modChain j.chain faultByCompletion).setCause .chainFault).detachIfIdle.drainCheck
      = ((((s.mute.dropJob j.id).leaveChain j.chain).modChain j.chain faultByCompletion).setCause .chainFault) := by
    rw [State.detachIfIdle_of_attached (by exact ha), State.drainCheck_of_not_drain (by exact hd)]
  have hfault : faultByCompletion { s.chains[j.chain] with inFlight := s.chains[j.chain].inFlight - 1 }
      = { s.chains[j.chain] with
          inFlight := s.chains[j.chain].inFlight - 1, st := .faulted, poll := none, faultedMeanwhile := false } :=
    faultByCompletion_idle hstop htake
  have hstate : (((s.mute.dropJob j.id).leaveChain j.chain).modChain j.chain faultByCompletion).setCause .chainFault
      = { s with
          jobs := s.jobs.filter fun k => k.id != j.id
          chains := s.chains.set j.chain
            { s.chains[j.chain] with
              inFlight := s.chains[j.chain].inFlight - 1, st := .faulted, poll := none, faultedMeanwhile := false }
          attn := s.attn ||| 2, out := {} } := by
    rw [State.leaveChain, State.modChain_modChain, ← hfault]
    rfl
  obtain h | h := hphase <;> simp only [hm, h] <;> exact hleft.trans hstate

/-- Settles O13. -/
theorem completion : Obligations.Completion := by
  refine ⟨fun s j r hj hd => ⟨completion_results hj, fun hphase ha => ⟨fun hst => ?rests, fun hst hlimit htake hgood => ?takes⟩,
    fun hphase ha hst hone hothers => ?detached⟩, fun s j r hj hphase hst htake ha hd => completion_fault hj hphase hst htake ha hd⟩
  case rests =>
    have h := completion_done hj hphase
    have hno : (s.jobDone j).chains[j.chain].takes j.chain = false := by
      rw [State.jobDone, vector_set_same, Chain.takes, beq_eq_false_iff_ne.mpr hst]
      rfl
    rw [State.jobLeft_attached (s := s.jobDone j) ha hd, State.tryTake_of_not_takes hno] at h
    exact h
  case takes =>
    have h := completion_done hj hphase
    have htakes : (s.jobDone j).chains[j.chain].takes j.chain = true := by
      rw [State.jobDone, vector_set_same, Chain.takes, Bool.and_eq_true, Bool.and_eq_true]
      exact ⟨⟨beq_iff_eq.mpr hst, decide_eq_true hlimit⟩, beq_iff_eq.mpr htake⟩
    rw [State.jobLeft_attached (s := s.jobDone j) ha hd, State.tryTake_of_takes htakes (by rw [State.jobDone, vector_set_same]; exact hgood)] at h
    simp only [State.jobDone, vector_set_same, Vector.set_set] at h
    exact h
  case detached =>
    have h := completion_done hj hphase
    have hnone : (s.jobDone j).noneInFlight = true := by
      refine (State.noneInFlight_iff _).mpr fun c => ?_
      by_cases hc : c = j.chain
      · rw [hc, State.jobDone, vector_set_same, hone]
      · rw [State.jobDone, vector_set_other _ hc]
        exact hothers c hc
    rw [State.jobLeft_detaching (s := s.jobDone j) ha (by rw [State.jobDone, vector_set_same]; exact hst) hnone hd] at h
    exact h

/-! ## DETACH (R11) -/

theorem State.scrubRest_none {s : State} (h : s.scrub = none) : s.scrubRest = s := by
  rw [State.scrubRest, h]

theorem State.detachIfIdle_of_inFlight {s : State} (h : s.noneInFlight = false) : s.detachIfIdle = s :=
  if_neg fun hd => Bool.false_ne_true (h.symm.trans hd.2)

theorem State.detachIfIdle_of_detached {s : State} (h : s.link.attach = .detached) : s.detachIfIdle = s :=
  if_neg fun hd => Attach.noConfusion (h.symm.trans hd.1)

/-- The chains stopped and the part DETACHING (R11). -/
def State.goDetaching (s : State) : State :=
  { s with chains := s.chains.map stopChain, link := { s.link with attach := .detaching } }

theorem State.noneInFlight_goDetaching (s : State) : s.goDetaching.noneInFlight = s.noneInFlight := by
  simp [State.goDetaching, State.noneInFlight, stopChain]

theorem State.detachChains_attached {s : State} (ha : s.link.attach = .attached) (hscrub : s.scrub = none)
    (hn : s.noneInFlight = false) : s.detachChains = s.goDetaching := by
  have hg : s.goDetaching.noneInFlight = false := s.noneInFlight_goDetaching.trans hn
  have hd : s.detach = s.goDetaching := by
    simp only [State.detach, ha]
    exact State.detachIfIdle_of_inFlight hg
  rw [State.detachChains, hd, State.scrubRest_none (by exact hscrub), State.detachIfIdle_of_inFlight hg]

theorem State.detachChains_idle {s : State} (ha : s.link.attach = .attached) (hscrub : s.scrub = none)
    (hn : s.noneInFlight = true) :
    s.detachChains =
      { s with
        link := {}, chains := Vector.replicate 4 {}
        out := { s.out with notes := s.out.notes ++ [s.goDetaching.pageFields] } } := by
  have hg : s.goDetaching.noneInFlight = true := s.noneInFlight_goDetaching.trans hn
  have hd := State.detachIfIdle_of_detaching (s := s.goDetaching) rfl hg
  have hdetach : s.detach = s.goDetaching.detachIfIdle := by simp only [State.detach, ha]; rfl
  rw [State.detachChains, hdetach, hd, State.scrubRest_none (by exact hscrub), State.detachIfIdle_of_detached rfl]
  rfl

/-- Settles O15. -/
theorem detach : Obligations.Detach := by
  intro s hp hscrub going
  refine ⟨fun ha hn => ?going, fun ha hn => ?gone, fun ha => ?attaching, fun h => ?nothing⟩
  all_goals refine run_ends_of (exec_detach s) hp ?_
  case going => exact State.detachChains_attached (s := s.mute) ha hscrub hn
  case gone => exact State.detachChains_idle (s := s.mute) ha hscrub hn
  case attaching =>
    have hd : s.mute.detach = s.mute.detachNow := by simp only [State.detach, State.mute_link, ha]
    rw [State.detachChains, hd, State.scrubRest_none (by exact hscrub), State.detachIfIdle_of_detached rfl]
    rfl
  case nothing =>
    have hd : s.mute.detach = s.mute := by
      obtain h | ⟨h, -⟩ := h <;> simp only [State.detach, State.mute_link, h]
    have hi : s.mute.detachIfIdle = s.mute := by
      obtain h | ⟨-, hn⟩ := h
      · exact State.detachIfIdle_of_detached h
      · exact State.detachIfIdle_of_inFlight hn
    rw [State.detachChains, hd, State.scrubRest_none (by exact hscrub), hi]
    rfl

end Sys2Proof.Machine

/-! # Entry into SLEEP, POWER_CONSENT and ENGINE_RESET (R12, R138, R187) -/

namespace Sys2Proof.Machine

/-! ## The four drives in turn -/

/-- One drive changed, and more actions. -/
def State.driveStep (s : State) (d : Fin 4) (x : Drive) (l : List Out) : State :=
  { s with drives := s.drives.set d x, out := { s.out with acts := s.out.acts ++ l } }

/-- The state with other drives and more actions. -/
def State.withDrives (s : State) (v : Vector Drive 4) (l : List Out) : State :=
  { s with drives := v, out := { s.out with acts := s.out.acts ++ l } }

/-- The four drives in turn, each by an update that looks at its own drive alone, and at nothing that such updates change. -/
theorem foldl_drives4 {F : State → Fin 4 → State} {s : State} (G : Fin 4 → Drive) (A : Fin 4 → List Out)
    (h : ∀ d v l, v[d] = s.drives[d] → F (s.withDrives v l) d = (s.withDrives v l).driveStep d (G d) (A d)) :
    drives4.foldl F s = s.withDrives (Vector.ofFn G) (drives4.flatMap A) := by
  have h1 : (1 : Fin 4) ≠ 0 := by decide
  have h2 : (2 : Fin 4) ≠ 0 ∧ (2 : Fin 4) ≠ 1 := by decide
  have h3 : (3 : Fin 4) ≠ 0 ∧ (3 : Fin 4) ≠ 1 ∧ (3 : Fin 4) ≠ 2 := by decide
  have step : ∀ d v l, v[d] = s.drives[d] → F (s.withDrives v l) d = s.withDrives (v.set d (G d)) (l ++ A d) := by
    intro d v l hv
    rw [h d v l hv, State.driveStep, State.withDrives, State.withDrives, List.append_assoc]
  have start : s = s.withDrives s.drives [] := by rw [State.withDrives, List.append_nil]
  rw [start]
  simp only [drives4, List.foldl_cons, List.foldl_nil, List.flatMap_cons, List.flatMap_nil, List.append_nil]
  rw [step 0 _ _ rfl, step 1 _ _ (vector_set_other _ h1 _),
    step 2 _ _ ((vector_set_other _ h2.2 _).trans (vector_set_other _ h2.1 _)),
    step 3 _ _ ((vector_set_other _ h3.2.2 _).trans ((vector_set_other _ h3.2.1 _).trans (vector_set_other _ h3.1 _)))]
  rw [vector_set4, List.nil_append, List.append_assoc, List.append_assoc]
  simp only [State.withDrives, List.append_nil]

theorem State.driveStep_same (s : State) (d : Fin 4) (x : Drive) (l : List Out) : (s.driveStep d x l).drives[d] = x :=
  vector_set_same s.drives d x

theorem State.modDrive_driveStep (s : State) (d : Fin 4) (x : Drive) (l : List Out) (f : Drive → Drive) :
    (s.driveStep d x l).modDrive d f = s.driveStep d (f x) l := by
  simp [State.driveStep, State.modDrive]

theorem State.modDrive_eq_driveStep (s : State) (d : Fin 4) (f : Drive → Drive) : s.modDrive d f = s.driveStep d (f s.drives[d]) [] := by
  rw [State.driveStep, List.append_nil]
  rfl

/-- A drive whose rail is commanded off. -/
def Drive.poweredOff (x : Drive) : Drive :=
  { x with power := .unpowered, rail := false, startTimer := none, wakeAsked := false, standbyAsked := false }

theorem State.powerOff_eq (s : State) (d : Fin 4) : s.powerOff d = s.driveStep d s.drives[d].poweredOff [.rail d false] := rfl

theorem vector_ofFn_map {α β : Type} (v : Vector α 4) (g : α → β) : Vector.ofFn (fun d : Fin 4 => g v[d]) = v.map g := by
  ext i hi
  simp

/-! ## Entry into SLEEP -/

theorem State.tellOnce_quiet {s : State} (hload : s.loadJob = none) (hckpt : s.engine.ckpt = none) (d : Fin 4) (b : Bool) :
    s.tellOnce d b = s := by
  simp only [State.tellOnce, hload, hckpt]
  cases catIndex d <;> rfl

theorem State.endNotReady_empty {s : State} {d : Fin 4} (h : s.drives[d].ops = [] ∧ s.drives[d].room = []) : s.endNotReady d = s := by
  have hno : s.notReadyOps d [] = [] := by simp [State.notReadyOps]
  simp only [State.endNotReady, h.1, h.2, hno, List.isEmpty_nil, Bool.and_self, if_true]

theorem Drive.fallsAsleep_off {x : Drive} (h : x.power = .absent ∨ x.power = .unpowered) (credit : Nat) :
    x.fallsAsleep credit = { x.asleep credit with demands := [] } := by
  have hpower : (if x.power = .absent then Power.absent else .unpowered) = x.power := by
    obtain h | h := h <;> rw [h] <;> rfl
  rw [Drive.fallsAsleep, Drive.asleep, if_pos h, hpower]

theorem Drive.fallsAsleep_on {x : Drive} (h : ¬(x.power = .absent ∨ x.power = .unpowered)) (credit : Nat) :
    x.fallsAsleep credit = { x.poweredOff.asleep credit with demands := [] } := by
  rw [Drive.fallsAsleep, if_neg h, if_neg fun ha => h (.inl ha)]
  rfl

theorem State.sleepDrive_empty {s : State} (hload : s.loadJob = none) (hckpt : s.engine.ckpt = none) {d : Fin 4}
    (h : s.drives[d].ops = [] ∧ s.drives[d].room = []) :
    s.sleepDrive d = s.driveStep d (s.drives[d].fallsAsleep s.cfg.credit)
      (if s.drives[d].power != .absent && s.drives[d].power != .unpowered then [.rail d false] else []) := by
  have rest : ∀ (x : Drive) (l : List Out), x.ops = [] → x.room = [] → x.power ≠ .ready →
      (((s.driveStep d x l).modDrive d fun x => x.asleep s.cfg.credit).releaseDemands d).endNotReady d
        = s.driveStep d { x.asleep s.cfg.credit with demands := [] } l := by
    intro x l hops hroom hpower
    have hnot : ¬(s.driveStep d (x.asleep s.cfg.credit) l).drives[d].power = .ready := by rw [State.driveStep_same]; exact hpower
    rw [State.modDrive_driveStep, State.releaseDemands, if_neg hnot, State.modDrive_driveStep,
      State.tellOnce_quiet (by exact hload) (by exact hckpt),
      State.endNotReady_empty (by rw [State.driveStep_same]; exact ⟨hops, hroom⟩)]
  by_cases hoff : s.drives[d].power = .absent ∨ s.drives[d].power = .unpowered
  · have hbool : (s.drives[d].power != .absent && s.drives[d].power != .unpowered) = false := by
      obtain h | h := hoff <;> rw [h] <;> rfl
    have hready : s.drives[d].power ≠ .ready := by
      obtain h | h := hoff <;> rw [h] <;> exact nofun
    have hsame : s = s.driveStep d s.drives[d] [] := by rw [State.driveStep, List.append_nil, vector_set_self]
    rw [hbool, Drive.fallsAsleep_off hoff, if_neg Bool.false_ne_true, ← rest _ [] h.1 h.2 hready, ← hsame, State.sleepDrive,
      if_pos hoff]
  · have hbool : (s.drives[d].power != .absent && s.drives[d].power != .unpowered) = true := by
      simpa [not_or] using hoff
    have hready : s.drives[d].poweredOff.power ≠ .ready := Power.noConfusion
    rw [hbool, Drive.fallsAsleep_on hoff, if_pos rfl, ← rest s.drives[d].poweredOff [.rail d false] h.1 h.2 hready, State.sleepDrive,
      if_neg hoff, State.powerOff_eq]

/-- The part as the drives fall asleep one after another (R187). -/
def State.sleepStart (s : State) : State :=
  { (s.emit (.hostRail 0 false)).emit (.hostRail 1 false) with startQueue := [] }.modBox fun b =>
    { b with st := .sleep, rail1 := false, rail2 := false, seq := none, drain := false, consentTimer := false
             consentWait := false, consentKept := false, hold := .stopped }

/-- The test of the pending MAINS_RETURN wake (R187). -/
def State.sleepEnd (s : State) : State :=
  let pending := s.box.pendingMains
  let t := s.modBox fun b => { b with pendingMains := false }
  if pending ∧ t.cfg.wakeMains ∧ t.box.supply = .mains then t.enterWaking .mains else t

theorem State.enterSleep_eq (s : State) : s.enterSleep = (drives4.foldl State.sleepDrive s.sleepStart).sleepEnd := by
  unfold State.enterSleep State.sleepEnd State.sleepStart
  with_reducible rfl

theorem State.sleepEnd_of_not_pending {s : State} (h : s.box.pendingMains = false) :
    s.sleepEnd = s.modBox fun b => { b with pendingMains := false } :=
  if_neg fun hw => Bool.false_ne_true (h.symm.trans hw.1)

/-- The part enters SLEEP with nothing on a list (R187). -/
theorem State.enterSleep_empty {s : State} (hpending : s.box.pendingMains = false) (hload : s.loadJob = none)
    (hckpt : s.engine.ckpt = none) (h : ∀ d : Fin 4, s.drives[d].ops = [] ∧ s.drives[d].room = []) :
    s.mute.enterSleep = s.asleep := by
  have hdrives := foldl_drives4 (F := State.sleepDrive) (s := s.mute.sleepStart) (fun d => s.drives[d].fallsAsleep s.cfg.credit)
    (fun d => if s.drives[d].power != .absent && s.drives[d].power != .unpowered then [.rail d false] else [])
    (fun d v l hv => by
      have hd : (s.mute.sleepStart.withDrives v l).drives[d] = s.drives[d] := hv
      rw [State.sleepDrive_empty (by exact hload) (by exact hckpt) (by rw [hd]; exact h d), hd]
      rfl)
  rw [vector_ofFn_map s.drives fun x => x.fallsAsleep s.cfg.credit, ← filter_map_eq_flatMap] at hdrives
  rw [State.enterSleep_eq, hdrives, State.sleepEnd_of_not_pending (by exact hpending)]
  rfl

/-- Settles O17. -/
theorem powerConsent : Obligations.PowerConsent := by
  intro s hp
  refine ⟨fun q hq hwait => ⟨fun hstep => ?kept, fun hstep hpending hload hckpt hlists => ?sleeps⟩, fun h => ?nothing⟩
  all_goals have h' := run_ends (exec_powerConsent s) hp
  case kept =>
    simp only [State.mute_box, hq, hwait, Bool.not_true, Bool.false_eq_true, if_false, hstep] at h'
    exact h'
  case sleeps =>
    simp only [State.mute_box, hq, hwait, Bool.not_true, Bool.false_eq_true, if_false, hstep, if_true,
      State.enterSleep_empty hpending hload hckpt hlists] at h'
    exact h'
  case nothing =>
    obtain h | h := h
    · simp only [State.mute_box, h] at h'
      exact h'
    · cases hq : s.box.seq <;> simp only [State.mute_box, hq, h, Bool.not_false, if_true] at h' <;> exact h'

/-! ## ENGINE_RESET (R12, R138) -/

theorem Power.resetsPort_eq (x : Power) : x.resetsPort = (x == .ready || x == .starting || x == .stopping) := by
  cases x <;> rfl

theorem Power.resetsPort_iff (x : Power) : x.resetsPort = true ↔ x = .ready ∨ x = .starting ∨ x = .stopping := by
  simp [x.resetsPort_eq, or_assoc]

theorem Drive.engineReset_eq (x : Drive) (credit : Nat) :
    x.engineReset credit =
      { x with
        label := none, identified := false, ops := [], room := [], credit := credit, startup := none, demands := []
        park := none, noAnswer := 0, startFails := 0, railGrace := none, idle := none, idleCond := false, idleHeld := false
        port := if x.power = .ready ∨ x.power = .starting ∨ x.power = .stopping then .engineResetting else .idle
        wakeAsked := x.power == .starting && x.fromParked
        standbyAsked := x.power == .stopping } := by
  simp only [Drive.engineReset, x.power.resetsPort_iff]

/-- A box without a sequence after ENGINE_RESET. -/
theorem box_engineReset {b : Box} (h : b.seq = none) :
    { b with seq := b.seq.map Seq.engineReset, consentWait := b.consentWait || b.seq.isSome } = b := by
  rw [h, Option.map_none, Option.isSome_none, Bool.or_false, ← h]

theorem State.remakeParks_none {s : State} (h : s.box.seq = none) : s.remakeParks = s := by
  rw [State.remakeParks, h]

/-- Settles O18. -/
theorem engineReset : Obligations.EngineReset := by
  intro s hp hseq
  refine run_ends_of (exec_engineReset s) hp ?_
  have hmissed : (s.mute.box.seq.any fun q => q.shutdown && q.ckpt == .waiting) = false := by rw [State.mute_box, hseq]; rfl
  simp only [State.engineReset, hmissed, Bool.false_eq_true, if_false]
  refine congrArg State.settle ((State.remakeParks_none ?_).trans ?_)
  · rw [State.modBox]
    simp only [State.emits, State.detachNow, State.mute_box, hseq]
    rfl
  · rw [State.modBox]
    simp only [State.emits, State.detachNow, State.mute_box, box_engineReset hseq]
    simp only [Drive.engineReset_eq, Power.resetsPort_eq]
    rfl

end Sys2Proof.Machine

/-! # CONFIGURE, SET_CLOCK and SET_ALARM (R20 to R30) -/

namespace Sys2Proof.Machine

theorem foldl_stays {α β : Type} {f : β → α → β} {b : β} (l : List α) (h : ∀ a, f b a = b) : l.foldl f b = b := by
  induction l with
  | nil => rfl
  | cons a l ih => rw [List.foldl_cons, h, ih]

/-! ## CONFIGURE -/

theorem State.limitCheck_below {s : State} {d : Fin 4} (h : s.drives[d].score < s.cfg.mediaLimit) : s.limitCheck d = s :=
  if_neg fun hl => Nat.not_le_of_lt h hl.1

theorem State.install_below {s : State} {c : Cfg} (h : ∀ d : Fin 4, s.drives[d].score < c.mediaLimit) :
    s.install c =
      State.settle
        { s with
          cfg := c
          chains := s.chains.map (pollRestart (if c.poll = 0 then none else some c.poll))
          drives := Vector.ofFn fun d => s.drives[d].installed c c.drive[d] } := by
  rw [State.install]
  refine congrArg State.settle (foldl_stays drives4 fun d => State.limitCheck_below ?_)
  simp only [Fin.getElem_fin, Vector.getElem_ofFn]
  exact h d

/-- Settles O20. -/
theorem configure : Obligations.Configure := by
  intro s j block
  refine ⟨fun hj hreq => ?command, fun hj hconfig => ⟨?busError, fun b hscore => ?installs⟩⟩
  case command =>
    obtain ⟨hp, hd, hjob⟩ := hj
    have hm : s.mute.dispatched 0 = some j := hd
    have h' := run_ends (exec_configure s) hp
    obtain ⟨id, chain, rec, notify, req, phase, fails⟩ := j
    obtain rfl : req = .configure block := hreq
    simp only [hm] at h'
    refine ⟨fun hb => ?_, fun hb => ?_⟩
    · rw [if_pos hb, State.complete_reports hjob] at h'
      exact h'
    · rw [if_neg hb] at h'
      exact h'
  case busError =>
    obtain ⟨hp, hjob⟩ := hj
    have hm : s.mute.configJob = some j.id := hconfig
    refine run_ends_of (exec_configBlockReadDone none s) hp ?_
    simp only [State.configRead, hm]
    exact State.complete_reports hjob _
  case installs =>
    obtain ⟨hp, hjob⟩ := hj
    have hm : s.mute.configJob = some j.id := hconfig
    refine run_ends_of (exec_configBlockReadDone (some b) s) hp ?_
    simp only [State.configRead, hm]
    rw [State.install_below (by exact hscore)]
    rfl

/-! ## The clock -/

theorem State.evalAlarm_not_due {s : State} {n : Fin 4} (h : s.clock.alarms[n].due s.clock = false) : s.evalAlarm n = s :=
  if_neg (Bool.eq_false_iff.mp h)

theorem State.evalAlarms_none {s : State} (h : ∀ n : Fin 4, s.clock.alarms[n].due s.clock = false) : s.evalAlarms = s :=
  foldl_stays drives4 fun n => State.evalAlarm_not_due (h n)

/-- Settles O23. -/
theorem setClock : Obligations.SetClock := by
  intro s j v hj hreq hdue
  obtain ⟨hp, hd, hjob⟩ := hj
  have hm : s.mute.dispatched 0 = some j := hd
  refine run_ends_of (exec_setClock s) hp ?_
  obtain ⟨id, chain, rec, notify, req, phase, fails⟩ := j
  obtain rfl : req = .setClock v := hreq
  simp only [hm]
  have hreports := State.complete_reports (s := { s with clock := { s.clock with count := v, valid := true } }) hjob s.clock.setResult
  exact (congrArg (fun t => (t.clearCause .clockInvalid).evalAlarms) hreports).trans (State.evalAlarms_none (by exact hdue))

/-! ## SET_ALARM -/

theorem Alarm.word_eq (a : Alarm) :
    a.word = (if a.wake then 1 else 0) + (if a.prestart then 2 else 0) + (if a.attention then 4 else 0) + 256 * a.mask.toNat
      + if a.enable then 65536 else 0 := by
  cases h1 : a.wake <;> cases h2 : a.prestart <;> cases h3 : a.attention <;> cases h4 : a.enable <;>
    simp [Alarm.word, bitOf, h1, h2, h3, h4]

theorem Alarm.setResult_eq (a : Alarm) (period : Nat) :
    a.setResult period =
      { status := if clampPeriod period = period then .ok else .okClamped, aux := if clampPeriod period = period then 0 else 1
        w0 := a.time, w1 := BitVec.ofNat 32 a.period, w2 := BitVec.ofNat 32 a.word } := by
  by_cases h : clampPeriod period = period
  · simp [Alarm.setResult, h, Status.when, bitOf]
  · simp [Alarm.setResult, h, Status.when, bitOf]

/-- Settles O24. -/
theorem setAlarm : Obligations.SetAlarm := by
  intro s j slot actions mask enable time period hj hreq
  obtain ⟨hp, hd, hjob⟩ := hj
  have hm : s.mute.dispatched 0 = some j := hd
  obtain ⟨id, chain, rec, notify, req, phase, fails⟩ := j
  obtain rfl : req = .setAlarm slot actions mask enable time period := hreq
  refine ⟨fun hslot => ?refused, ?taken⟩
  case refused =>
    refine run_ends_of (exec_setAlarm s) hp ?_
    simp only [hm]
    exact (dif_neg (Nat.not_lt.mpr hslot)).trans (State.complete_reports hjob _)
  case taken =>
    rintro n rfl a hdue
    refine run_ends_of (exec_setAlarm s) hp ?_
    simp only [hm]
    refine (dif_pos n.isLt).trans ?_
    have hreports := State.complete_reports (s := { s with clock := { s.clock with alarms := s.clock.alarms.set n a } }) hjob
      (s.clock.alarms[n].setResult period)
    have hresult := s.clock.alarms[n].setResult_eq period
    rw [Alarm.word_eq] at hresult
    have hnew : (s.clock.alarms.set n a)[n] = a := vector_set_same s.clock.alarms n a
    refine (congrArg (State.evalAlarm · n) (hreports.trans (congrArg (State.reports _ _) hresult))).trans (State.evalAlarm_not_due ?_)
    exact (congrArg (Alarm.due · s.clock) hnew).trans hdue

end Sys2Proof.Machine

/-! # Jobs of a stream (R34, R48 to R50)

A stream settles by turns: it does its own work, then its list advances when it can. With an empty window, no held cut and no FEED
the own work is nothing, so a job that joins the list of such a stream is at the head at once. -/

namespace Sys2Proof.Machine

/-! ## A stream's own work -/

section
variable {s : State} {n : Fin 8}

theorem State.makeHeld_free (h : s.streams[n].held = false) : s.makeHeld n = s := by
  rw [State.makeHeld, h, Bool.false_and, if_neg Bool.false_ne_true]

theorem State.pump_not_feeding (h : s.streams[n].st ≠ .feeding) : s.pump n = s := by
  unfold State.pump
  split
  · rename_i hst _
    exact absurd hst h
  · rfl

/-- No chunk is to be resolved next: one is RESOLVING, or the oldest WAITING one has no owner, or none is WAITING (R52). -/
def Stream.resolvesNone (x : Stream) : Prop :=
  (∃ c ∈ x.window, c.phase.resolvingNow = true) ∨ ∀ c, (x.window.find? fun c => c.phase == .waiting) = some c → c.owner = none

theorem Stream.resolvesNone_empty {x : Stream} (h : x.window = []) : x.resolvesNone :=
  .inr (by simp [h])

theorem State.resolveNext_none (h : s.streams[n].resolvesNone) : s.resolveNext n = s := by
  simp only [State.resolveNext]
  split
  · rfl
  · rename_i hany
    obtain ⟨c, hc, hnow⟩ | h := h
    · exact absurd (List.any_eq_true.mpr ⟨c, hc, hnow⟩) hany
    · split
      · rfl
      · rename_i c hc
        rw [h c hc, Option.isSome_none, if_neg Bool.false_ne_true]

theorem State.streamWork_none (hheld : s.streams[n].held = false) (hst : s.streams[n].st ≠ .feeding)
    (hres : s.streams[n].resolvesNone) : s.streamWork n = s := by
  rw [State.streamWork, State.makeHeld_free hheld, State.pump_not_feeding hst, State.resolveNext_none hres]

/-! ## The list -/

/-- The stream takes no bytes and is not about to close: OPEN or CLOSED. -/
def Stream.quiet (x : Stream) : Prop := x.st = .opened ∨ x.st = .closed

theorem Stream.quiet.not_feeding {x : Stream} (h : x.quiet) : x.st ≠ .feeding := by
  obtain h | h := h <;> rw [h] <;> exact nofun

theorem State.listAdvance_empty (hst : s.streams[n].quiet) (hlist : s.streams[n].list = []) : s.listAdvance n = none := by
  obtain h | h := hst <;> simp only [State.listAdvance, h, hlist, List.head?_nil]

theorem State.listAdvance_head (hst : s.streams[n].quiet) {id : Nat} {l : List Nat} (hlist : s.streams[n].list = id :: l) {j : Job}
    (hj : s.job id = some j) : s.listAdvance n = some (s.headJob n j) := by
  obtain h | h := hst <;> simp only [State.listAdvance, h, hlist, List.head?_cons, hj]

theorem State.settleLoop_quiet (k : Nat) (hst : s.streams[n].quiet) (hheld : s.streams[n].held = false)
    (hres : s.streams[n].resolvesNone) (hlist : s.streams[n].list = []) : s.settleLoop (k + 1) n = s := by
  have hwork := State.streamWork_none hheld hst.not_feeding hres
  rw [State.settleLoop_stop (by rw [hwork]; exact State.listAdvance_empty hst hlist), hwork]

/-- A job alone on its stream's list, with its progress. -/
def State.joined (s : State) (n : Fin 8) (id : Nat) (p : JobPhase) : State :=
  { s.setPhase id p with streams := s.streams.set n { s.streams[n] with list := [id] } }

theorem State.joined_stream (n : Fin 8) (id : Nat) (p : JobPhase) :
    (s.joined n id p).streams[n] = { s.streams[n] with list := [id] } := vector_set_same s.streams n _

theorem State.joined_modStream (n : Fin 8) (id : Nat) (p : JobPhase) (f : Stream → Stream) :
    (s.joined n id p).modStream n f =
      { s.setPhase id p with streams := s.streams.set n (f { s.streams[n] with list := [id] }) } := by
  rw [State.modStream, State.joined_stream]
  simp only [State.joined, Fin.getElem_fin, Vector.set_set]

/-- A job that joins the empty list of a quiet stream is at its head at once (R48). -/
theorem State.joinList_quiet (hst : s.streams[n].quiet) (hheld : s.streams[n].held = false) (hres : s.streams[n].resolvesNone)
    (hlist : s.streams[n].list = []) {id : Nat} {j : Job} (hj : s.job id = some j) (p : JobPhase) :
    s.joinList n id p = ((s.joined n id p).headJob n { j with phase := p }).settleLoop 19 n := by
  have hjoined : ((s.setPhase id p).modStream n fun x => { x with list := x.list ++ [id] }) = s.joined n id p := by
    rw [State.modStream, State.setPhase_streams, hlist, List.nil_append]
    rfl
  have hx := s.joined_stream n id p
  have hwork : (s.joined n id p).streamWork n = s.joined n id p :=
    State.streamWork_none (by rw [hx]; exact hheld) (by rw [hx]; exact hst.not_feeding) (by rw [hx]; exact hres)
  rw [State.joinList, hjoined, State.settleStream]
  refine State.settleLoop_go ?_
  rw [hwork]
  exact State.listAdvance_head (by rw [hx]; exact hst) (by rw [hx]) (State.job_setPhase hj p)

end

/-! ## Reports at the head of a list -/

/-- A job that completes at the head of a list, its progress having changed before. -/
theorem State.complete_setPhase {s t : State} {j : Job} (h : s.job j.id = some j) {p : JobPhase} (ht : t.jobs = (s.setPhase j.id p).jobs)
    (hout : t.out = {}) (r : Result) : t.complete j.id r = { t with jobs := (s.reports j r).jobs, out := (s.reports j r).out } := by
  have hjob : t.job j.id = some { j with phase := p } := by
    rw [State.job, ht]
    exact State.job_setPhase h p
  have hjobs : (t.setPhase j.id (.writingResults r)).jobs = (s.setPhase j.id (.writingResults r)).jobs := by
    rw [← State.setPhase_setPhase s j.id p, State.setPhase_jobs, State.setPhase_jobs, ht]
  rw [State.complete_eq hjob, State.emit, State.setPhase, hout]
  exact congrArg (fun l => { t with jobs := l, out := { acts := [.hostWrite (j.record + 48) r.bytes] } }) hjobs

/-- A job that completes as its stream becomes quiet ends the settling. -/
theorem State.complete_settles {s : State} {j : Job} (h : s.job j.id = some j) (p : JobPhase) (r : Result) (n : Fin 8) {x : Stream}
    (hst : x.quiet) (hheld : x.held = false) (hres : x.resolvesNone) (hlist : x.list = []) :
    (State.complete { s.mute.setPhase j.id p with streams := s.streams.set n x } j.id r).settleLoop 19 n =
      { s.reports j r with streams := s.streams.set n x } := by
  have hx : (s.streams.set n x)[n] = x := vector_set_same s.streams n x
  let t : State := { s.mute.setPhase j.id p with streams := s.streams.set n x }
  refine (congrArg (State.settleLoop 19 n) (State.complete_setPhase (t := t) h rfl rfl r)).trans ?_
  exact State.settleLoop_quiet 18 (n := n) (by rw [hx]; exact hst) (by rw [hx]; exact hheld) (by rw [hx]; exact hres) (by rw [hx]; exact hlist)

/-! ## OPEN_STREAM -/

theorem State.headJob_openStream {s : State} {n : Fin 8} {j : Job} {m k v c mn mx : Nat} (hreq : j.req = .openStream m k v c mn mx)
    (hst : s.streams[n].st = .closed) :
    s.headJob n j =
      if s.cat.st ≠ .ready then (s.modStream n fun x => { x with list := x.list.tail }).complete j.id (.refusal .noCatalogue)
      else
        (s.modStream n fun _ => (openStream s.cfg s.streams[n].list.tail k v c mn mx).1).complete j.id
          (openStream s.cfg s.streams[n].list.tail k v c mn mx).2 := by
  simp only [State.headJob, hreq, hst]

/-- OPEN_STREAM joins the list of a CLOSED stream, and is carried out there at once (R48, R49). -/
theorem State.joinList_openStream {s : State} {j : Job} (hjob : s.job j.id = some j) {n : Fin 8} {m k v c mn mx : Nat}
    (hreq : j.req = .openStream m k v c mn mx) (hclosed : s.streams[n] = {}) :
    s.mute.joinList n j.id .openListed =
      if s.cat.st ≠ .ready then s.reports j { status := .noCatalogue }
      else
        { s.reports j (openStream s.cfg [] k v c mn mx).2 with
          streams := s.streams.set n (openStream s.cfg [] k v c mn mx).1 } := by
  have hst : s.streams[n].quiet := .inr (by rw [hclosed])
  have hx := s.mute.joined_stream n j.id .openListed
  have hself : s.streams.set n {} = s.streams := by rw [← hclosed, vector_set_self]
  rw [State.mute_streams, hclosed] at hx
  rw [State.joinList_quiet (s := s.mute) hst (by rw [State.mute_streams, hclosed])
    (Stream.resolvesNone_empty (by rw [State.mute_streams, hclosed])) (by rw [State.mute_streams, hclosed]) hjob .openListed,
    State.headJob_openStream (j := { j with phase := .openListed }) hreq (by rw [hx]), hx, State.joined_modStream,
    State.joined_modStream, State.mute_streams, hclosed]
  by_cases hcat : s.cat.st = .ready
  · rw [if_neg (not_not.mpr hcat)]
    refine (congrArg (State.settleLoop 19 n) (if_neg (not_not.mpr hcat))).trans ?_
    exact State.complete_settles hjob .openListed _ n (.inl rfl) rfl (Stream.resolvesNone_empty rfl) rfl
  · rw [if_pos hcat]
    refine (congrArg (State.settleLoop 19 n) (if_pos hcat)).trans ?_
    refine (State.complete_settles hjob .openListed _ n (x := {}) (.inr rfl) rfl (Stream.resolvesNone_empty rfl) rfl).trans ?_
    rw [hself]
    rfl

/-- Settles O25. -/
theorem openStream_holds : Obligations.OpenStream := by
  intro s j k v c mn mx hj
  obtain ⟨hp, hd, hjob⟩ := hj
  have hm : s.mute.dispatched 2 = some j := hd
  obtain ⟨id, chain, rec, notify, req, phase, fails⟩ := j
  refine ⟨fun n hn hreq => ?refused, fun n hreq hclosed => ?joins⟩
  case refused =>
    obtain rfl : req = .openStream n k v c mn mx := hreq
    refine run_ends_of (exec_openStream s) hp ?_
    simp only [hm]
    exact (dif_neg (Nat.not_lt.mpr hn)).trans (State.complete_reports hjob _)
  case joins =>
    obtain rfl : req = .openStream n k v c mn mx := hreq
    have hjoin := State.joinList_openStream hjob rfl hclosed
    have h' := run_ends (exec_openStream s) hp
    simp only [hm, dif_pos n.isLt] at h'
    rw [hjoin] at h'
    refine ⟨fun hcat => ?_, fun hcat => ?_⟩
    · rw [if_pos hcat] at h'
      exact h'
    · rw [if_neg (not_not.mpr hcat)] at h'
      exact h'

end Sys2Proof.Machine

/-! # FEED and the source reads (R35 to R41, R50, R51) -/

namespace Sys2Proof.Machine

/-! ## A FEED that waits for its source -/

theorem State.work_of_job {s : State} {id : Nat} {j : Job} {w : StreamWork} (h : s.job id = some j) (hphase : j.phase = .stream w) :
    s.work id = some w := by
  obtain ⟨i, chain, rec, notify, req, phase, fails⟩ := j
  obtain rfl : phase = .stream w := hphase
  simp only [State.work, h]

theorem State.work_setPhase {s : State} {id : Nat} {j : Job} (h : s.job id = some j) (w : StreamWork) :
    (s.setPhase id (.stream w)).work id = some w :=
  State.work_of_job (State.job_setPhase h _) rfl

section
variable {s : State} {n : Fin 8} {id : Nat} {w : StreamWork} {l : List Nat}

theorem Stream.active_of_feeding {x : Stream} (hst : x.st = .feeding) (hlist : x.list = id :: l) :
    x.active = if x.internal then none else some id := by
  simp only [Stream.active, hst, hlist, List.head?_cons]

/-- With no byte delivered nothing is taken into the cut state (R38). -/
theorem State.pump_waiting (hlist : s.streams[n].list = id :: l) (hwork : s.work id = some w) (hbuf : w.buf = [])
    (hstop : w.stopped = false) (hleft : w.left ≠ 0) (hsame : s.setPhase id (.stream w) = s) : s.pump n = s := by
  by_cases hst : s.streams[n].st = .feeding
  · have hactive := Stream.active_of_feeding hst hlist
    cases hint : s.streams[n].internal
    · rw [hint, if_neg Bool.false_ne_true] at hactive
      have hwork' : ({ w with buf := [], left := w.left - 0, stopped := w.left - 0 == 0 } : StreamWork) = w := by
        obtain ⟨⟩ := w
        simp only [Nat.sub_zero, beq_eq_false_iff_ne.mpr hleft]
        obtain rfl := hbuf
        obtain rfl := hstop
        rfl
      simp only [State.pump, hst, hactive, hwork, hstop, hbuf, State.takeBytes, List.length_nil, Nat.sub_self, Bool.false_eq_true,
        if_false]
      exact (congrArg (fun w => s.setPhase id (.stream w)) hwork').trans hsame
    · rw [hint, if_pos rfl] at hactive
      simp only [State.pump, hst, hactive]
  · exact State.pump_not_feeding hst

theorem State.listAdvance_waiting (hst : s.streams[n].st = .feeding) (hlist : s.streams[n].list = id :: l)
    (hwork : s.work id = some w) (hstop : w.stopped = false) : s.listAdvance n = none := by
  simp only [State.listAdvance, hst, hlist, List.head?_cons, hwork, hstop, Bool.false_eq_true, false_and, if_false]

/-- A stream whose FEED waits for its source stays as it is. -/
theorem State.settleLoop_waiting (k : Nat) (hst : s.streams[n].st = .feeding) (hheld : s.streams[n].held = false)
    (hres : s.streams[n].resolvesNone) (hlist : s.streams[n].list = id :: l) (hwork : s.work id = some w) (hbuf : w.buf = [])
    (hstop : w.stopped = false) (hleft : w.left ≠ 0) (hsame : s.setPhase id (.stream w) = s) : s.settleLoop (k + 1) n = s := by
  have hown : s.streamWork n = s := by
    rw [State.streamWork, State.makeHeld_free hheld, State.pump_waiting hlist hwork hbuf hstop hleft hsame, State.resolveNext_none hres]
  rw [State.settleLoop_stop (by rw [hown]; exact State.listAdvance_waiting hst hlist hwork hstop), hown]

end

/-! ## FEED -/

theorem State.headJob_feed {s : State} {n : Fin 8} {j : Job} {m len cap : Nat} {src recipe : Addr} {w : StreamWork}
    (hreq : j.req = .feed m len src recipe cap) (hst : s.streams[n].st = .opened) (hwork : s.work j.id = some w) :
    s.headJob n j = s.startFeed n j.id w := by
  simp only [State.headJob, hreq, hst, hwork]

/-- A FEED joins the list of an OPEN stream, and reads its source at once (R48, R50). -/
theorem State.joinList_feed {s : State} {j : Job} (hjob : s.job j.id = some j) {n : Fin 8} {m len cap : Nat} {src recipe : Addr}
    (hreq : j.req = .feed m len src recipe cap) {w : StreamWork} (hbuf : w.buf = []) (hstop : w.stopped = false) (hleft : w.left ≠ 0)
    (hst : s.streams[n].st = .opened) (hlist : s.streams[n].list = []) (hwindow : s.streams[n].window = [])
    (hheld : s.streams[n].held = false) :
    s.mute.joinList n j.id (.stream w) =
      { s.goesTo j (.stream { w with active := true }) [.hostRead w.src w.left] with
        streams := s.streams.set n { s.streams[n] with st := .feeding, list := [j.id] } } := by
  have hnone : s.streams[n].resolvesNone := Stream.resolvesNone_empty hwindow
  have hx := s.mute.joined_stream n j.id (.stream w)
  have hwork : (s.mute.joined n j.id (.stream w)).work j.id = some w := State.work_setPhase (s := s) hjob w
  have hadopt : adoptChunks s.streams[n].window j.id = s.streams[n].window := by rw [hwindow, adoptChunks, List.map_nil]
  rw [State.joinList_quiet (s := s.mute) (.inl hst) hheld hnone hlist hjob,
    State.headJob_feed (j := { j with phase := .stream w }) (w := w) hreq (by rw [hx]; exact hst) hwork, State.startFeed,
    State.joined_modStream]
  let t : State :=
    { s.goesTo j (.stream { w with active := true }) [.hostRead w.src w.left] with
      streams := s.streams.set n { s.streams[n] with st := .feeding, list := [j.id] } }
  have hstart : (State.setPhase
      { s.mute.setPhase j.id (.stream w) with
        streams := s.streams.set n
          { s.streams[n] with st := .feeding, list := [j.id], window := adoptChunks s.streams[n].window j.id } }
      j.id (.stream { w with active := true })).emit (.hostRead w.src w.left) = t := by
    rw [hadopt]
    exact congrArg (fun u : State => { t with jobs := u.jobs }) (State.setPhase_setPhase s j.id _ _)
  have hts : t.streams[n] = { s.streams[n] with st := .feeding, list := [j.id] } := vector_set_same s.streams n _
  have hsame : t.setPhase j.id (.stream { w with active := true }) = t :=
    congrArg (fun u : State => { t with jobs := u.jobs }) (State.setPhase_setPhase s j.id _ _)
  refine (congrArg (State.settleLoop 19 n) hstart).trans ?_
  exact State.settleLoop_waiting 18 (by rw [hts]) (by rw [hts]; exact hheld) (by rw [hts]; exact hnone) (by rw [hts])
    (State.work_setPhase (s := s) hjob _) hbuf hstop hleft hsame

/-- Settles O27. -/
theorem feedStarts : Obligations.FeedStarts := by
  intro s j len src recipe cap hj
  obtain ⟨hp, hd, hjob⟩ := hj
  have hm : s.mute.dispatched 2 = some j := hd
  obtain ⟨id, chain, rec, notify, req, phase, fails⟩ := j
  refine ⟨fun n hn hreq => ?refused, fun n hreq => ⟨fun hbad => ?badParam, fun hsrc hlen hmax hrecipe hcap hst hlist hwindow hheld => ?reads⟩⟩
  all_goals obtain rfl : req = _ := hreq
  all_goals
    refine run_ends_of (exec_feed s) hp ?_
    simp only [hm]
  case refused => exact (dif_neg (Nat.not_lt.mpr hn)).trans (State.complete_reports hjob _)
  case badParam =>
    refine (dif_pos n.isLt).trans ((if_pos ?_).trans (State.complete_reports hjob _))
    simpa only [Bool.not_eq_true'] using hbad
  case reads =>
    refine (dif_pos n.isLt).trans ((if_neg ?_).trans (State.joinList_feed hjob rfl rfl rfl hlen hst hlist hwindow hheld))
    simp only [Bool.not_eq_true', not_or, hrecipe, Bool.true_eq_false, not_false_eq_true, and_self, hsrc, hlen, hcap, not_lt, hmax]

/-! ## The end of a source read -/

section
variable {s : State} {n : Fin 8}

/-- Another current chunk, rolling hash and register leave the rest of the stream. -/
theorem Stream.withCur_keeps (x : Stream) (l : List Byte) (h : BitVec 32) (r : BitVec 64) (own : Nat) :
    let y : Stream := { x with cur := l, h := h, crc := r, curOwn := own }
    y.held = x.held ∧ y.minLen = x.minLen ∧ y.maxLen = x.maxLen ∧ y.window = x.window ∧ y.st = x.st ∧ y.list = x.list :=
  ⟨rfl, rfl, rfl, rfl, rfl, rfl⟩

theorem Stream.takeByte_keeps (x : Stream) (b : Byte) :
    (x.takeByte b).held = x.held ∧ (x.takeByte b).minLen = x.minLen ∧ (x.takeByte b).maxLen = x.maxLen
      ∧ (x.takeByte b).window = x.window ∧ (x.takeByte b).st = x.st ∧ (x.takeByte b).list = x.list :=
  x.withCur_keeps _ _ _ _

/-- Below MINLEN and MAXLEN no cut is made (R36). -/
theorem Stream.cutTest_below {x : Stream} (hmin : x.cur.length < x.minLen) (hmax : x.cur.length < x.maxLen) :
    ¬x.cutTest = true := by
  rw [Stream.cutTest_iff]
  rintro (h | ⟨h, -⟩)
  · exact Nat.ne_of_lt hmax h
  · exact Nat.not_lt.mpr h hmin

theorem State.modStream_self (s : State) (n : Fin 8) : (s.modStream n fun x => x) = s := by
  rw [State.modStream, vector_set_self]

/-- Bytes too few for a cut are taken one by one (R35, R36). -/
theorem State.takeBytes_few {bytes : List Byte} (hheld : s.streams[n].held = false)
    (hmin : s.streams[n].cur.length + bytes.length < s.streams[n].minLen)
    (hmax : s.streams[n].cur.length + bytes.length < s.streams[n].maxLen) :
    s.takeBytes n bytes = (s.modStream n fun x => bytes.foldl Stream.takeByte x, []) := by
  induction bytes generalizing s with
  | nil => rw [State.takeBytes]; exact Prod.ext (s.modStream_self n).symm rfl
  | cons b l ih =>
    have hlen : (s.streams[n].takeByte b).cur.length + l.length = s.streams[n].cur.length + (b :: l).length := by
      rw [Stream.takeByte_cur_length, List.length_cons]
      omega
    have hle : (s.streams[n].takeByte b).cur.length ≤ s.streams[n].cur.length + (b :: l).length := hlen ▸ Nat.le_add_right ..
    have hx : (s.modStream n fun x => x.takeByte b).streams[n] = s.streams[n].takeByte b := State.modStream_same ..
    obtain ⟨hh, hmn, hmx, -⟩ := s.streams[n].takeByte_keeps b
    have hno : ¬(s.streams[n].takeByte b).cutTest = true :=
      Stream.cutTest_below (by rw [hmn]; exact Nat.lt_of_le_of_lt hle hmin) (by rw [hmx]; exact Nat.lt_of_le_of_lt hle hmax)
    rw [State.takeBytes_cons hheld, State.takeBytes_singleton_uncut hheld b hno,
      ih (by rw [hx, hh, hheld]) (by rw [hx, hlen, hmn]; exact hmin) (by rw [hx, hlen, hmx]; exact hmax), State.modStream_modStream]
    simp only [List.foldl_cons]

/-- What an active FEED says of its stream. -/
theorem State.activeFeed_some {id : Nat} {w : StreamWork} (h : s.activeFeed n = some (id, w)) :
    s.streams[n].st = .feeding ∧ s.streams[n].active = some id ∧ s.work id = some w ∧ w.stopped = false := by
  unfold State.activeFeed at h
  split at h
  · rename_i hst
    split at h
    · cases h
    · rename_i i hactive
      split at h
      · rename_i v hwork
        split at h
        · cases h
        · rename_i hstop
          obtain ⟨rfl, rfl⟩ := Prod.mk.inj (Option.some.inj h)
          exact ⟨hst, hactive, hwork, Bool.eq_false_iff.mpr hstop⟩
      · cases h
  · cases h

/-- The head of the list of a stream with an active FEED. -/
theorem Stream.list_of_active {x : Stream} {id : Nat} (hst : x.st = .feeding) (h : x.active = some id) :
    ∃ l, x.list = id :: l := by
  simp only [Stream.active, hst] at h
  split at h
  · cases h
  · exact List.head?_eq_some_iff.mp h

/-- Bytes too few for a cut leave the stream as it was but for its current chunk. -/
theorem Stream.foldl_takeByte_keeps (x : Stream) (bytes : List Byte) :
    let y := bytes.foldl Stream.takeByte x
    y.held = x.held ∧ y.window = x.window ∧ y.st = x.st ∧ y.list = x.list := by
  induction bytes generalizing x with
  | nil => exact ⟨rfl, rfl, rfl, rfl⟩
  | cons b l ih =>
    obtain ⟨h1, h2, h3, h4⟩ := ih (x.takeByte b)
    obtain ⟨k1, -, -, k2, k3, k4⟩ := x.takeByte_keeps b
    exact ⟨h1.trans k1, h2.trans k2, h3.trans k3, h4.trans k4⟩

/-- The active FEED takes its bytes, all of them, and goes on. -/
theorem State.pump_takes {id : Nat} {w : StreamWork} (hst : s.streams[n].st = .feeding) (hactive : s.streams[n].active = some id)
    (hwork : s.work id = some w) (hstop : w.stopped = false) {t : State} (htake : s.takeBytes n w.buf = (t, []))
    (hleft : w.buf.length < w.left) :
    s.pump n = t.setPhase id (.stream { w with buf := [], left := w.left - w.buf.length }) := by
  have hmore : (w.left - w.buf.length == 0) = false := beq_eq_false_iff_ne.mpr (Nat.sub_ne_zero_of_lt hleft)
  simp only [State.pump, hst, hactive, hwork, hstop, htake, List.length_nil, Nat.sub_zero, hmore, Bool.false_eq_true, if_false]

end

/-- The stream of a FEED that has handed over (R51). -/
def Stream.handedOver (x : Stream) : Stream := { x with st := .opened, list := x.list.tail, curOwn := 0 }

/-- The hand-over of a FEED with no chunk unfinished completes it (R51, R65). -/
theorem State.handOver_empty {s : State} {j : Job} {w : StreamWork} (hjob : s.job j.id = some j) (hphase : j.phase = .stream w)
    (hwindow : s.streams[w.stream].window = []) :
    s.handOver w.stream j.id =
      ({ s with streams := s.streams.set w.stream s.streams[w.stream].handedOver }.setPhase j.id
        (.stream { w with ended := true, consumed := w.consumed + s.streams[w.stream].curOwn })).complete j.id
        (StreamWork.feedResult { w with consumed := w.consumed + s.streams[w.stream].curOwn }) := by
  let t := s.modStream w.stream fun x => { x with st := .opened, list := x.list.tail, curOwn := 0 }
  let v : StreamWork := { w with ended := true, consumed := w.consumed + s.streams[w.stream].curOwn }
  have htwork : t.work j.id = some w := State.work_of_job (s := s) hjob hphase
  have hmod : (t.modWork j.id fun w' => { w' with ended := true, consumed := w'.consumed + s.streams[w.stream].curOwn })
      = t.setPhase j.id (.stream v) := by
    simp only [State.modWork, htwork]
    rfl
  have hv : (t.setPhase j.id (.stream v)).work j.id = some v := State.work_setPhase (s := s) hjob v
  have hx : t.streams[w.stream].window = [] :=
    (congrArg Stream.window (vector_set_same s.streams w.stream _)).trans hwindow
  have hdone : v.ended = true ∧ (((t.setPhase j.id (.stream v)).streams[v.stream].window.any fun c => c.owner == some j.id) = false) := by
    rw [State.setPhase_streams, hx, List.any_nil]
    exact ⟨rfl, rfl⟩
  rw [State.handOver]
  refine (congrArg (State.feedComplete · j.id) hmod).trans ?_
  simp only [State.feedComplete, hv, if_pos hdone]
  rfl

section
variable {s : State} {j : Job} {n : Fin 8} {w : StreamWork} (hj : s.holds j)
  (hfeed : s.activeFeed n = some (j.id, w)) (hbuf : w.buf = []) (hheld : s.streams[n].held = false) (hwindow : s.streams[n].window = [])
include hj hfeed hbuf hheld hwindow

/-- Source bytes below a cut (R35, R36). -/
theorem sourceReadDone_ends {bytes : List Byte} (hfew : bytes.length < w.left)
    (hmin : s.streams[n].cur.length + bytes.length < s.streams[n].minLen)
    (hmax : s.streams[n].cur.length + bytes.length < s.streams[n].maxLen) :
    Ends s (.sourceReadDone n bytes)
      { s.goesTo j (.stream { w with left := w.left - bytes.length }) [] with
        streams := s.streams.set n (bytes.foldl Stream.takeByte s.streams[n]) } := by
  obtain ⟨hp, hjob⟩ := hj
  obtain ⟨hst, hactive, hwork, hstop⟩ := State.activeFeed_some hfeed
  obtain ⟨l, hlist⟩ := Stream.list_of_active hst hactive
  refine run_ends_of (exec_sourceReadDone n bytes s) hp ?_
  have hm : s.mute.activeFeed n = some (j.id, w) := hfeed
  have hbytes : w.buf ++ bytes.take (w.left - w.buf.length) = bytes := by
    rw [hbuf, List.nil_append, List.length_nil, Nat.sub_zero, List.take_of_length_le (Nat.le_of_lt hfew)]
  simp only [hm, hbytes]
  let u := s.mute.setPhase j.id (.stream { w with buf := bytes })
  let t : State := { s.goesTo j (.stream { w with left := w.left - bytes.length }) [] with
        streams := s.streams.set n (bytes.foldl Stream.takeByte s.streams[n]) }
  have hpump : u.pump n = t := by
    refine (State.pump_takes (s := u) (w := { w with buf := bytes }) hst hactive (State.work_setPhase (s := s) hjob _) hstop
      (State.takeBytes_few (s := u) hheld hmin hmax) hfew).trans ?_
    rw [← hbuf]
    exact congrArg (fun v : State => { t with jobs := v.jobs }) (State.setPhase_setPhase s j.id _ _)
  obtain ⟨-, kwindow, kst, klist⟩ := s.streams[n].foldl_takeByte_keeps bytes
  have hx : t.streams[n] = bytes.foldl Stream.takeByte s.streams[n] := vector_set_same s.streams n _
  have hown : u.streamWork n = t := by
    rw [State.streamWork, State.makeHeld_free (by exact hheld), hpump,
      State.resolveNext_none (Stream.resolvesNone_empty (by rw [hx, kwindow, hwindow]))]
  have hrest : t.listAdvance n = none :=
    State.listAdvance_waiting (by rw [hx, kst, hst]) (by rw [hx, klist, hlist])
      (State.work_setPhase (s := s) hjob { w with left := w.left - bytes.length }) hstop
  have hsettle : u.settleStream n = t := (State.settleLoop_stop (by rw [hown]; exact hrest)).trans hown
  exact (congrArg (State.afterCkpt · s.mute) hsettle).trans (State.afterCkpt_same rfl)

/-- A bus error of the source with every byte taken: the FEED hands over (R41, R51, R65). -/
theorem sourceReadBusError_ends (hstream : w.stream = n) (hlist : s.streams[n].list = [j.id]) :
    Ends s (.sourceReadBusError n)
      { s.reports j
          { status := w.status.worse .hostMemoryError, aux := min w.lost 65535
            w0 := BitVec.ofNat 32 (w.consumed + s.streams[n].curOwn), w1 := BitVec.ofNat 32 w.written, w2 := BitVec.ofNat 32 w.new } with
        streams := s.streams.set n { s.streams[n] with st := .opened, list := [], curOwn := 0 } } := by
  obtain ⟨hp, hjob⟩ := hj
  obtain rfl := hstream
  obtain ⟨hst, hactive, -, -⟩ := State.activeFeed_some hfeed
  refine run_ends_of (exec_sourceReadBusError _ s) hp ?_
  have hm : s.mute.activeFeed w.stream = some (j.id, w) := hfeed
  simp only [State.sourceFault, hm, hbuf, List.length_nil, List.isEmpty_nil]
  let v : StreamWork := { w.meets .hostMemoryError with left := 0, stopped := true }
  let u := s.mute.setPhase j.id (.stream v)
  have huwork : u.work j.id = some v := State.work_setPhase (s := s) hjob v
  have hpump : u.pump w.stream = u := by
    have hst' : u.streams[w.stream].st = .feeding := hst
    have hactive' : u.streams[w.stream].active = some j.id := hactive
    simp only [State.pump, hst', hactive', huwork, v, if_true]
  have hown : u.streamWork w.stream = u := by
    rw [State.streamWork, State.makeHeld_free (by exact hheld), hpump,
      State.resolveNext_none (Stream.resolvesNone_empty (by exact hwindow))]
  have hover : u.listAdvance w.stream = some (u.handOver w.stream j.id) := by
    have hst' : u.streams[w.stream].st = .feeding := hst
    have hlist' : u.streams[w.stream].list = [j.id] := hlist
    have hwindow' : u.streams[w.stream].window = [] := hwindow
    simp only [State.listAdvance, hst', hlist', List.head?_cons, huwork, hwindow', List.any_nil, v, and_self, if_true]
  have hhand : u.handOver w.stream j.id = { s.reports j
          { status := w.status.worse .hostMemoryError, aux := min w.lost 65535
            w0 := BitVec.ofNat 32 (w.consumed + s.streams[w.stream].curOwn), w1 := BitVec.ofNat 32 w.written, w2 := BitVec.ofNat 32 w.new } with
        streams := s.streams.set w.stream { s.streams[w.stream] with st := .opened, list := [], curOwn := 0 } } := by
    have hjobs : ((s.setPhase j.id (.stream v)).setPhase j.id (.stream { v with ended := true, consumed := v.consumed + s.streams[w.stream].curOwn })).jobs
        = (s.setPhase j.id (.stream { v with ended := true, consumed := v.consumed + s.streams[w.stream].curOwn })).jobs :=
      congrArg State.jobs (State.setPhase_setPhase ..)
    refine (State.handOver_empty (s := u) (j := { j with phase := .stream v }) (w := v) (State.job_setPhase (s := s) hjob _) rfl
      hwindow).trans ?_
    refine (State.complete_setPhase (s := s) (t := State.setPhase
      { u with streams := s.streams.set w.stream s.streams[w.stream].handedOver }
      j.id (.stream { v with ended := true, consumed := v.consumed + s.streams[w.stream].curOwn })) hjob hjobs rfl _).trans ?_
    rw [Stream.handedOver, hlist]
    rfl
  have hx := vector_set_same s.streams w.stream { s.streams[w.stream] with st := .opened, list := [], curOwn := 0 }
  have hrest := State.settleLoop_quiet 18 (n := w.stream)
    (s := { s.reports j
          { status := w.status.worse .hostMemoryError, aux := min w.lost 65535
            w0 := BitVec.ofNat 32 (w.consumed + s.streams[w.stream].curOwn), w1 := BitVec.ofNat 32 w.written, w2 := BitVec.ofNat 32 w.new } with
        streams := s.streams.set w.stream { s.streams[w.stream] with st := .opened, list := [], curOwn := 0 } })
    (by rw [hx]; exact .inl rfl) (by rw [hx]; exact hheld) (by rw [hx]; exact Stream.resolvesNone_empty hwindow) (by rw [hx])
  have hsettle := ((State.settleLoop_go (k := 19) (by rw [hown]; exact hover)).trans
    (congrArg (State.settleLoop 19 w.stream) hhand)).trans hrest
  exact (congrArg (State.afterCkpt · s.mute) hsettle).trans (State.afterCkpt_same rfl)

end

/-- Settles O29. -/
theorem sourceReads : Obligations.SourceReads := fun _ _ _ _ hj _ hfeed hbuf hheld hwindow =>
  ⟨fun _ hfew hmin hmax => sourceReadDone_ends hj hfeed hbuf hheld hwindow hfew hmin hmax,
    fun hstream hlist => sourceReadBusError_ends hj hfeed hbuf hheld hwindow hstream hlist⟩

end Sys2Proof.Machine

/-! # CLOSE_STREAM and the reference writes (R42, R53, R54, R64, R66) -/

namespace Sys2Proof.Machine

/-! ## CLOSE_STREAM with a held cut -/

/-- The name that the next thing named in the part after a command gets. -/
def nextName : Host.Outcome State Fault Refusal → Option Nat
  | .next t => some t.nextId
  | _ => none

/-- A command that ends as `u` says leaves the names where `u` has them. -/
theorem Ends.nextName {s u : State} {c : Instr} (h : Ends s c u) : nextName (exec c s) = some u.nextId := by
  obtain ⟨t, ht, hinner, -⟩ := h
  have hname : t.inner.nextId = u.inner.nextId := congrArg (fun w : State => w.nextId) hinner
  rw [ht]
  exact congrArg some hname

/-- CLOSE_STREAM with DISCARD for stream 0. -/
def closeJob : Job :=
  { id := 0, chain := 2, record := 0, notify := false, req := .closeStream 0 32 1 true false, phase := .dispatched }

/-- An OPEN stream with a RESOLVING chunk in its window and a held cut, which has room: a CLOSE_STREAM that joins its list lets the
stream settle, and the held cut is made first, taking a name (R38). -/
def closeHeld : State :=
  { powered := true
    jobs := [closeJob]
    streams := (Vector.replicate 8 {}).set (0 : Fin 8) { st := .opened, held := true, window := [{ id := 5, phase := .resolving }] } }

/-- Refutes O30: its last clause does not take the cut to be free. In `closeHeld` the held cut is made before the close begins, and
its chunk takes a name, though DISCARD withdraws that chunk at once. -/
theorem not_closeStream : ¬Obligations.CloseStream := by
  intro h
  obtain ⟨-, hlist⟩ := h closeHeld closeJob 0 32 1 true false ⟨rfl, rfl, rfl⟩ rfl
  have hends := (hlist (by decide) (by decide) rfl rfl rfl).2 { id := 5, phase := .resolving } rfl rfl rfl
  have hcut : nextName (exec .closeStream closeHeld) = some 1 := by decide
  exact absurd (hcut.symm.trans hends.nextName) (by decide)

/-! ## Windows -/

theorem windowThrough_eq {l : List Chunk} {c : Chunk} (h : (l.find? fun x => x.id == c.id) = some c) :
    windowThrough l c.id = (l.takeWhile fun x => x.id != c.id) ++ [c] := by
  induction l with
  | nil => cases h
  | cons a l ih =>
    by_cases ha : a.id = c.id
    · rw [List.find?_cons_of_pos (by simpa using ha)] at h
      obtain rfl := Option.some.inj h
      simp [windowThrough]
    · rw [List.find?_cons_of_neg (by simpa using ha)] at h
      simp [windowThrough, ha, ih h]

/-- Chunks stand behind a chunk exactly when the window is more than what leads up to it. -/
theorem laterChunks_iff {l : List Chunk} {c : Chunk} (h : (l.find? fun x => x.id == c.id) = some c) :
    laterChunks l c.id = true ↔ l ≠ (l.takeWhile fun x => x.id != c.id) ++ [c] := by
  have hprefix : ∃ m, l = windowThrough l c.id ++ m := by
    clear h
    induction l with
    | nil => exact ⟨[], rfl⟩
    | cons a l ih =>
      by_cases ha : a.id = c.id
      · exact ⟨l, by simp [windowThrough, ha]⟩
      · obtain ⟨m, hm⟩ := ih
        exact ⟨m, by rw [windowThrough, if_neg ha, List.cons_append, ← hm]⟩
  rw [← windowThrough_eq h, laterChunks, decide_eq_true_iff]
  obtain ⟨m, hm⟩ := hprefix
  refine ⟨fun hlt heq => Nat.ne_of_lt hlt (congrArg List.length heq.symm), fun hne => ?_⟩
  have hm' : m ≠ [] := by
    rintro rfl
    exact hne (hm.trans (List.append_nil _))
  have hlen := congrArg List.length hm
  rw [List.length_append] at hlen
  exact hlen ▸ Nat.lt_add_of_pos_right (List.length_pos_iff.mpr hm')

theorem windowThrough_map {f : Chunk → Chunk} (hf : ∀ x, (f x).id = x.id) (l : List Chunk) (id : Nat) :
    windowThrough (l.map f) id = (windowThrough l id).map f := by
  induction l with
  | nil => rfl
  | cons a l ih =>
    by_cases ha : a.id = id
    · simp [windowThrough, hf, ha]
    · simp [windowThrough, hf, ha, ih]

/-- Chunks before a chunk are not that chunk. -/
theorem mem_takeWhile_ne {l : List Chunk} {id : Nat} {x : Chunk} (h : x ∈ l.takeWhile fun y => y.id != id) : x.id ≠ id := by
  simpa using List.mem_takeWhile_imp h

theorem map_takeWhile_ne (l : List Chunk) (id : Nat) (f : Chunk → Chunk) :
    ((l.takeWhile fun y => y.id != id).map fun x => if x.id = id then f x else x) = l.takeWhile fun y => y.id != id := by
  refine (List.map_congr_left fun x hx => ?_).trans (List.map_id _)
  exact if_neg (mem_takeWhile_ne hx)

theorem find?_takeWhile_ne (l : List Chunk) {id : Nat} {c : Chunk} (h : c.id = id) :
    (((l.takeWhile fun y => y.id != id) ++ [c]).find? fun x => x.id == id) = some c := by
  rw [List.find?_append, List.find?_eq_none.mpr fun x hx => by simpa using mem_takeWhile_ne hx]
  simp [h]

/-! ## The rewind -/

section
variable {s : State} {n : Fin 8} {c : Chunk}

theorem State.tryFinish_open {id : Nat} (h : s.chunk n id = some c) (ho : c.outcome = none) : s.tryFinish n id = s := by
  simp only [State.tryFinish, h, ho]
  cases c.phase <;> rfl

/-- The rewind to the end of a chunk that has changed (R40): the chunks up to it stay. -/
theorem State.modChunk_rewindAfter (h : s.chunk n c.id = some c) (f : Chunk → Chunk) (hf : ∀ x, (f x).id = x.id) :
    (s.modChunk n c.id f).rewindAfter n c.id =
      s.modStream n fun x => { x.fresh with window := (s.streams[n].window.takeWhile fun y => y.id != c.id) ++ [f c] } := by
  have hmap : windowThrough (s.streams[n].window.map fun x => if x.id = c.id then f x else x) c.id
      = (s.streams[n].window.takeWhile fun y => y.id != c.id) ++ [f c] := by
    rw [windowThrough_map (f := fun x => if x.id = c.id then f x else x) (fun x => by split <;> simp [hf]),
      windowThrough_eq h, List.map_append, map_takeWhile_ne, List.map_singleton, if_pos rfl]
  rw [State.rewindAfter, State.modChunk, State.modStream_modStream, State.modStream, State.modStream]
  exact congrArg (fun l => { s with streams := s.streams.set n { s.streams[n].fresh with window := l } }) hmap

end

/-! ## A reference delivered -/

/-- A FEED has stream bytes, source bytes or chunks beyond a chunk (R54). -/
theorem State.moreBytes_iff {s : State} {n : Fin 8} {c : Chunk} (hchunk : s.chunk n c.id = some c) (v : StreamWork) :
    (s.modChunk n c.id fun c => { c with phase := .resolved }).moreBytes n c v = true
      ↔ v.left ≠ 0 ∨ s.streams[n].cur ≠ [] ∨ s.streams[n].window ≠ (s.streams[n].window.takeWhile fun x => x.id != c.id) ++ [c] := by
  have hlater : laterChunks (s.streams[n].window.map fun x => if x.id = c.id then { x with phase := .resolved } else x) c.id
      = laterChunks s.streams[n].window c.id := by
    rw [laterChunks, windowThrough_map (fun x => by split <;> rfl), List.length_map, List.length_map, laterChunks]
  rw [State.moreBytes, State.modChunk, State.modStream_same, hlater, Bool.or_eq_true, Bool.or_eq_true, bne_iff_ne,
    laterChunks_iff hchunk, or_assoc, or_comm (a := _ ≠ _ ++ _), Bool.not_eq_true', List.isEmpty_eq_false_iff]

theorem Job.isFeed_iff (j : Job) : j.isFeed = true ↔ ∃ m len src recipe cap, j.req = .feed m len src recipe cap := by
  obtain ⟨id, chain, rec, notify, req, phase, fails⟩ := j
  cases req <;> simp [Job.isFeed]

section
variable {s : State} {j : Job} {n : Fin 8} {c : Chunk} {w : StreamWork} (hjob : s.job j.id = some j) (hphase : j.phase = .stream w)
  (howner : c.owner = some j.id) (hchunk : s.chunk n c.id = some c)
include hjob hphase howner hchunk

/-- What becomes of a chunk whose reference was delivered, and of its owner (R53, R54). -/
theorem State.refDelivered_eq :
    s.refDelivered n c =
      (if j.isFeed = true ∧ w.written + 1 = w.capacity
          ∧ (w.left ≠ 0 ∨ s.streams[n].cur ≠ []
            ∨ s.streams[n].window ≠ (s.streams[n].window.takeWhile fun x => x.id != c.id) ++ [c]) then
        (s.setPhase j.id
          (.stream { w with
            written := w.written + 1, consumed := w.consumed + c.own, stopped := true, buf := [], status := w.status.worse .partialStop })).modStream
          n fun x =>
            { x.fresh with
              window := (s.streams[n].window.takeWhile fun y => y.id != c.id) ++ [{ c with phase := .resolved }] }
      else
        (s.setPhase j.id (.stream { w with written := w.written + 1, consumed := w.consumed + c.own })).modChunk n c.id fun c =>
          { c with phase := .resolved }) := by
  have htjob : (s.modChunk n c.id fun c => { c with phase := .resolved }).job j.id = some j := hjob
  have htwork : (s.modChunk n c.id fun c => { c with phase := .resolved }).work j.id = some w := State.work_of_job htjob hphase
  have hdef : s.refDelivered n c =
      (if j.isFeed = true ∧ w.written + 1 = w.capacity
          ∧ (w.left ≠ 0 ∨ s.streams[n].cur ≠ []
            ∨ s.streams[n].window ≠ (s.streams[n].window.takeWhile fun x => x.id != c.id) ++ [c]) then
        ((s.modChunk n c.id fun c => { c with phase := .resolved }).rewindAfter n c.id).setPhase j.id
          (.stream { w with
            written := w.written + 1, consumed := w.consumed + c.own, stopped := true, buf := [], status := w.status.worse .partialStop })
      else
        (s.modChunk n c.id fun c => { c with phase := .resolved }).setPhase j.id
          (.stream { w with written := w.written + 1, consumed := w.consumed + c.own })) := by
    simp only [State.refDelivered, howner, htjob, htwork, State.moreBytes_iff hchunk]
    rfl
  rw [hdef, State.modChunk_rewindAfter hchunk (fun c => { c with phase := .resolved }) fun _ => rfl]
  rfl

/-- What becomes of a chunk whose reference write failed, and of its owner (R53). -/
theorem State.refFailed_eq :
    s.refFailed n c =
      (s.setPhase j.id (.stream { w with stopped := true, buf := [], status := w.status.worse .hostMemoryError })).modStream n fun x =>
        { x.fresh with
          window := (s.streams[n].window.takeWhile fun y => y.id != c.id) ++ [{ c with phase := .resolved, slot := none, mute := true }] } := by
  have hrewind := State.modChunk_rewindAfter hchunk (fun c => { c with phase := .resolved, slot := none, mute := true }) fun _ => rfl
  have hwork : s.work j.id = some w := State.work_of_job hjob hphase
  rw [State.refFailed, hrewind, howner]
  simp only [State.modOwner, State.modWork]
  rw [show (s.modStream n _).work j.id = some w from hwork]
  rfl

end

/-! ## A chunk that finishes -/

theorem StreamWork.count_ended (w : StreamWork) (c : Chunk) (o : ChunkOutcome) : (w.count c o).ended = w.ended := by
  cases o with
  | new => rw [StreamWork.count]; split <;> rfl
  | duplicate => rfl
  | lost => rfl

/-- The stream of a chunk that finishes with an outcome (R64). -/
def Stream.finishes (x : Stream) (id : Nat) (o : ChunkOutcome) : Stream :=
  { x with
    window := x.window.filter fun y => y.id != id
    finished := x.finished + 1
    new := if o = .new then x.new + 1 else x.new
    lost := if o = .lost then x.lost + 1 else x.lost }

/-- A chunk whose owner has not handed over finishes (R64). -/
theorem State.finishNow_eq {s : State} {j : Job} {n : Fin 8} {c : Chunk} {w : StreamWork} (hjob : s.job j.id = some j)
    (hphase : j.phase = .stream w) (howner : c.owner = some j.id) (hended : w.ended = false) (o : ChunkOutcome) :
    s.finishNow n c o = (s.setPhase j.id (.stream (w.count c o))).modStream n fun x => x.finishes c.id o := by
  have hmod : ∀ t : State, t.jobs = s.jobs → t.modOwner (some j.id) (fun w => w.count c o) = t.setPhase j.id (.stream (w.count c o)) := by
    intro t ht
    have hwork : t.work j.id = some w := State.work_of_job (by rw [State.job, ht]; exact hjob) hphase
    simp only [State.modOwner, State.modWork, hwork]
  have hcomplete : ∀ t : State, t.jobs = s.jobs →
      (t.setPhase j.id (.stream (w.count c o))).feedComplete j.id = t.setPhase j.id (.stream (w.count c o)) := by
    intro t ht
    have hwork : (t.setPhase j.id (.stream (w.count c o))).work j.id = some (w.count c o) :=
      State.work_setPhase (by rw [State.job, ht]; exact hjob) _
    simp only [State.feedComplete, hwork, w.count_ended c o, hended, Bool.false_eq_true, false_and, if_false]
  simp only [State.finishNow, howner]
  exact (congrArg (State.feedComplete · j.id) (hmod (s.modStream n fun x => x.finishes c.id o) rfl)).trans (hcomplete _ rfl)

/-! ## The end of a reference write -/

theorem State.chunk_rewound {s : State} {n : Fin 8} {c x : Chunk} (hid : x.id = c.id) (f : Stream → Stream) :
    (s.modStream n fun y => { f y with window := (s.streams[n].window.takeWhile fun y => y.id != c.id) ++ [x] }).chunk n c.id = some x := by
  rw [State.chunk, State.modStream_same]
  exact find?_takeWhile_ne _ hid

/-- Settles O31. -/
theorem referenceWrites : Obligations.ReferenceWrites := by
  intro s j n c w hj hphase howner
  obtain ⟨hp, hjob⟩ := hj
  refine ⟨fun href hchunk hopen => ⟨fun hfull => ?delivered, fun hfull => ?full, ?failed⟩, fun o delivered hrewriting hout hended => ?rewritten⟩
  case delivered =>
    refine run_ends_of (exec_referenceWriteDone n true s) hp ?_
    have hm : s.mute.referencing n = some c := href
    have hdone := State.refDelivered_eq (s := s.mute) hjob hphase howner hchunk
    rw [if_neg (by rw [Job.isFeed_iff]; exact hfull)] at hdone
    have hstays := State.tryFinish_open
      (State.chunk_modChunk (s := s.mute.setPhase j.id (.stream { w with written := w.written + 1, consumed := w.consumed + c.own }))
        hchunk (fun c => { c with phase := .resolved }) fun _ => rfl) hopen
    simp only [hm, if_true, hdone, hstays]
    rfl
  case full =>
    refine run_ends_of (exec_referenceWriteDone n true s) hp ?_
    have hm : s.mute.referencing n = some c := href
    have hdone := State.refDelivered_eq (s := s.mute) hjob hphase howner hchunk
    rw [if_pos (by rw [Job.isFeed_iff]; exact hfull)] at hdone
    have hstays := State.tryFinish_open (State.chunk_rewound
      (s := s.mute.setPhase j.id
        (.stream { w with
          written := w.written + 1, consumed := w.consumed + c.own, stopped := true, buf := [], status := w.status.worse .partialStop }))
      (n := n) (c := c) (x := { c with phase := .resolved }) rfl Stream.fresh) hopen
    simp only [hm, if_true, hdone]
    exact congrArg (fun t => (State.settleStream t n).afterCkpt s.mute) hstays
  case failed =>
    refine run_ends_of (exec_referenceWriteDone n false s) hp ?_
    have hm : s.mute.referencing n = some c := href
    have hdone := State.refFailed_eq (s := s.mute) hjob hphase howner hchunk
    have hstays := State.tryFinish_open (State.chunk_rewound
      (s := s.mute.setPhase j.id (.stream { w with stopped := true, buf := [], status := w.status.worse .hostMemoryError }))
      (n := n) (c := c) (x := { c with phase := .resolved, slot := none, mute := true }) rfl Stream.fresh) hopen
    simp only [hm, Bool.false_eq_true, if_false, hdone]
    exact congrArg (fun t => (State.settleStream t n).afterCkpt s.mute) hstays
  case rewritten =>
    refine run_ends_of (exec_referenceRewriteDone n c.id delivered s) hp ?_
    have hm : s.mute.chunkIn n c.id .rewriting = some c := hrewriting
    have hwork : s.mute.work j.id = some w := State.work_of_job (s := s) hjob hphase
    simp only [hm, hout]
    cases delivered with
    | true =>
      have hfinish := State.finishNow_eq (s := s.mute) (n := n) hjob hphase howner hended o
      exact congrArg (fun t => (State.settleStream t n).afterCkpt s.mute) hfinish
    | false =>
      have hmod : (s.mute.modOwner c.owner fun w => w.meets .hostMemoryError) = s.mute.setPhase j.id (.stream (w.meets .hostMemoryError)) := by
        simp only [howner, State.modOwner, State.modWork, hwork]
      have hfinish := State.finishNow_eq (s := s.mute.setPhase j.id (.stream (w.meets .hostMemoryError))) (n := n)
        (j := { j with phase := .stream (w.meets .hostMemoryError) }) (State.job_setPhase (s := s) hjob _) rfl howner hended o
      simp only [Bool.false_eq_true, if_false, hmod]
      rw [hfinish, State.setPhase_setPhase]
      rfl

end Sys2Proof.Machine

/-! # RETAIN and RELEASE (R82 to R86) -/

namespace Sys2Proof.Machine

theorem Ends.of_eq {s u v : State} {c : Instr} (h : Ends s c u) (e : u = v) : Ends s c v := e ▸ h

/-! ## The list -/

theorem State.startRefs_badParam {s : State} {id : Nat} {list : Addr} {n : Nat} (h : n = 0 ∨ 4096 < n ∨ goodAddr 32 list = false) :
    s.startRefs id list n = s.complete id (.refusal .badParam) :=
  if_pos (by simpa only [Bool.not_eq_true'] using h)

theorem State.startRefs_good {s : State} {id : Nat} {list : Addr} {n : Nat} (h1 : 1 ≤ n) (h2 : n ≤ 4096) (h3 : goodAddr 32 list = true) :
    s.startRefs id list n =
      if s.cat.st ≠ .ready then s.complete id (.refusal .noCatalogue) else (s.setPhase id .refList).emit (.hostRead list (32 * n)) := by
  refine if_neg ?_
  simp only [h3, Bool.not_true, Bool.false_eq_true, or_false, not_or]
  omega

/-- The row of a RETAIN or a RELEASE starts its job. -/
theorem startRefs_ends {s u : State} {j : Job} {list : Addr} {n : Nat} {c : Instr}
    (hc : (c = .retain ∧ j.req = .retain list n) ∨ (c = .release ∧ j.req = .release list n)) (hj : s.carries 2 j)
    (h : s.mute.startRefs j.id list n = u) : Ends s c u := by
  obtain ⟨hp, hd, hjob⟩ := hj
  have hm : s.mute.dispatched 2 = some j := hd
  obtain ⟨id, chain, rec, notify, req, phase, fails⟩ := j
  obtain ⟨rfl, hreq⟩ | ⟨rfl, hreq⟩ := hc <;> obtain rfl : req = _ := hreq
  · refine run_ends_of (exec_retain s) hp ?_
    simp only [hm]
    exact h
  · refine run_ends_of (exec_release s) hp ?_
    simp only [hm]
    exact h

theorem State.refListRead_some {s : State} {j : Job} (hjob : s.job j.id = some j) (hphase : j.phase = .refList) (b : List Byte) :
    s.refListRead j.id (some b) =
      (s.setPhase j.id (.refs { refs := readRefs j.refCount.2 b })).request
        (if j.refCount.1 then .retainRef j.id else .releaseRef j.id) := by
  simp only [State.refListRead, hjob, hphase, ne_eq, not_true_eq_false, if_false]

/-- Settles O33. -/
theorem referenceLists : Obligations.ReferenceLists := by
  intro s j list n
  refine ⟨fun c hc hj => ⟨fun hbad => ?badParam, fun h1 h2 h3 hcat => ?noCatalogue, fun h1 h2 h3 hcat => ?reads⟩,
    fun hj hphase => ⟨?busError, fun b => ⟨fun hreq => ?retain, fun hreq => ?release⟩⟩⟩
  case badParam => exact startRefs_ends hc hj ((State.startRefs_badParam hbad).trans (State.complete_reports hj.2.2 _))
  case noCatalogue =>
    exact startRefs_ends hc hj ((State.startRefs_good h1 h2 h3).trans ((if_pos hcat).trans (State.complete_reports hj.2.2 _)))
  case reads => exact startRefs_ends hc hj ((State.startRefs_good h1 h2 h3).trans (if_neg (not_not.mpr hcat)))
  all_goals
    obtain ⟨hp, hjob⟩ := hj
    have hm : s.mute.job j.id = some j := hjob
  case busError =>
    refine run_ends_of (exec_referenceListReadDone j.id none s) hp ?_
    simp only [State.refListRead, hm, hphase, ne_eq, not_true_eq_false, if_false]
    exact State.complete_reports hjob _
  all_goals
    refine run_ends_of (exec_referenceListReadDone j.id (some b) s) hp ((State.refListRead_some hm hphase b).trans ?_)
    rw [Job.refCount, hreq]
    rfl

/-! ## One reference -/

/-- The part as the Catalogue Engine has taken its oldest request, before it acts. -/
def State.taking (s : State) (l : List CatReq) : State := { s with engine := { s.engine with requests := l }, out := {} }

/-- A request that leaves the checkpoint as it is ends as what it does. -/
theorem takeRequest_ends {s u : State} {q : CatReq} {l : List CatReq} (hp : s.powered = true) (hq : s.engine.requests = q :: l)
    (hh : s.engine.hold = none) (hu : (s.taking l).takeRequest q = u) (hc : u.engine.ckpt = s.engine.ckpt) : Ends s q.row u := by
  have h := catalogueRequests.2 s q l hp hq hh
  change Ends s q.row (((s.taking l).takeRequest q).afterCkpt s) at h
  rw [hu, State.afterCkpt_same hc] at h
  exact h

theorem RefWork.result_eq (w : RefWork) (retain : Bool) :
    w.result retain =
      { status := if w.missing ≠ 0 then .notFound else if (if retain then w.pinned != 0 else w.accounting) then .okClamped else .ok
        aux := min w.pinned 65535, w0 := BitVec.ofNat 32 w.done, w1 := BitVec.ofNat 32 w.other, w2 := BitVec.ofNat 32 w.missing } := by
  have hstatus : ∀ a b : Bool, (Status.when a .notFound).worse (Status.when b .okClamped)
      = if a then .notFound else if b then .okClamped else .ok := by decide
  rw [RefWork.result, hstatus]
  simp only [bne_iff_ne]

/-- The list goes on behind a reference, or the job reports (R82, R86). -/
def State.refGoesOn (s : State) (j : Job) (l : List CatReq) (rest : List Ref) (retain : Bool) (v : RefWork) : State :=
  if rest = [] then { s.reports j (v.result retain) with engine := { s.engine with requests := l } }
  else
    { s.goesTo j (.refs { v with refs := rest }) [] with
      engine := { s.engine with requests := l ++ [if retain then .retainRef j.id else .releaseRef j.id] } }

theorem State.nextRef_goesOn {s : State} {j : Job} (hjob : s.job j.id = some j) (l : List CatReq) {v : RefWork} {r : Ref} {rest : List Ref}
    (hrefs : v.refs = r :: rest) (retain : Bool) (k : Cat) :
    State.nextRef { s.taking l with cat := k } j.id v retain = { s.refGoesOn j l rest retain v with cat := k } := by
  have hm : State.job { s.taking l with cat := k } j.id = some j := hjob
  cases rest with
  | nil =>
    simp only [State.nextRef, hrefs, List.tail_cons, List.isEmpty_nil, if_true, State.complete_eq hm, State.refGoesOn]
    rfl
  | cons a m =>
    simp only [State.nextRef, hrefs, List.tail_cons, List.isEmpty_cons, Bool.false_eq_true, if_false, State.refGoesOn, reduceCtorEq]
    rfl

theorem State.refGoesOn_ckpt (s : State) (j : Job) (l : List CatReq) (rest : List Ref) (retain : Bool) (v : RefWork) :
    (s.refGoesOn j l rest retain v).engine.ckpt = s.engine.ckpt := by
  rw [State.refGoesOn]
  split <;> rfl

theorem State.refGoesOn_cat (s : State) (j : Job) (l : List CatReq) (rest : List Ref) (retain : Bool) (v : RefWork) :
    { s.refGoesOn j l rest retain v with cat := s.cat } = s.refGoesOn j l rest retain v := by
  rw [State.refGoesOn]
  split <;> rfl

/-- The catalogue holds no entry under the key (R73). -/
theorem Cat.lookup_missing {α : Type} {c : Cat} {k : Key} (h : ∀ slot e, c.lookup k ≠ .found slot e) (f : Nat → Entry → α) (a : α) :
    (match c.lookup k with | .found slot e => f slot e | .room _ => a | .full => a) = a := by
  cases hl : c.lookup k with
  | found slot e => exact absurd hl (h slot e)
  | room slot => rfl
  | full => rfl

/-- A RETAIN meets an entry (R83). -/
theorem State.retainOne_found {s : State} {id : Nat} {w : RefWork} {r : Ref} {slot : Nat} {e : Entry} (hun : r.unindexed = false)
    (h : s.cat.lookup r.key = .found slot e) :
    s.retainOne id w r =
      if e.st = .pending then s.wait (.retainRef id)
      else if e.refcount < 65535 then
        (s.modCat fun c => c.setSlot slot (some { e with refcount := e.refcount + 1 })).nextRef id { w with done := w.done + 1 } true
      else s.nextRef id { w with pinned := w.pinned + 1 } true := by
  simp only [State.retainOne, hun, h, Bool.false_eq_true, if_false]

/-- A RELEASE meets an entry (R84). -/
theorem State.releaseOne_found {s : State} {id : Nat} {w : RefWork} {r : Ref} {slot : Nat} {e : Entry} (hun : r.unindexed = false)
    (h : s.cat.lookup r.key = .found slot e) :
    s.releaseOne id w r =
      if e.st = .pending then s.wait (.releaseRef id)
      else if e.refcount = 65535 then s.nextRef id { w with pinned := w.pinned + 1 } false
      else if 1 < e.refcount then
        (s.modCat fun c => c.setSlot slot (some { e with refcount := e.refcount - 1 })).nextRef id { w with done := w.done + 1 } false
      else
        (s.modCat fun c => c.remove slot e).nextRef id
          { w with done := w.done + 1, other := w.other + 1, accounting := w.accounting || s.cat.errs fun c => c.remove slot e } false := by
  simp only [State.releaseOne, hun, h, Bool.false_eq_true, if_false]

section
variable {s : State} {j : Job} {w : RefWork} {r : Ref} {rest : List Ref} {l : List CatReq} (hj : s.holds j) (hphase : j.phase = .refs w)
  (hrefs : w.refs = r :: rest) (hhold : s.engine.hold = none)
include hj hphase hrefs hhold

theorem retainReference_ends (hq : s.engine.requests = .retainRef j.id :: l) {u : State} (h : (s.taking l).retainOne j.id w r = u)
    (hc : u.engine.ckpt = s.engine.ckpt) : Ends s .retainReference u := by
  obtain ⟨hp, hjob⟩ := hj
  refine takeRequest_ends hp hq hhold (Eq.trans ?_ h) hc
  have hm : (s.taking l).job j.id = some j := hjob
  obtain ⟨id, chain, rec, notify, req, phase, fails⟩ := j
  obtain rfl : phase = .refs w := hphase
  simp only [State.takeRequest, hm, hrefs]

theorem releaseReference_ends (hq : s.engine.requests = .releaseRef j.id :: l) {u : State} (h : (s.taking l).releaseOne j.id w r = u)
    (hc : u.engine.ckpt = s.engine.ckpt) : Ends s .releaseReference u := by
  obtain ⟨hp, hjob⟩ := hj
  refine takeRequest_ends hp hq hhold (Eq.trans ?_ h) hc
  have hm : (s.taking l).job j.id = some j := hjob
  obtain ⟨id, chain, rec, notify, req, phase, fails⟩ := j
  obtain rfl : phase = .refs w := hphase
  simp only [State.takeRequest, hm, hrefs]

/-- A reference of a RETAIN that is answered: the catalogue is `k`, and the list goes on. -/
theorem retainReference_goesOn (hq : s.engine.requests = .retainRef j.id :: l) {v : RefWork} (hv : v.refs = w.refs) (k : Cat)
    (h : (s.taking l).retainOne j.id w r = State.nextRef { s.taking l with cat := k } j.id v true) :
    Ends s .retainReference { s.refGoesOn j l rest true v with cat := k } :=
  retainReference_ends hj hphase hrefs hhold hq (h.trans (State.nextRef_goesOn hj.2 l (hv.trans hrefs) true k))
    (s.refGoesOn_ckpt j l rest true v)

/-- A reference of a RELEASE that is answered: the catalogue is `k`, and the list goes on. -/
theorem releaseReference_goesOn (hq : s.engine.requests = .releaseRef j.id :: l) {v : RefWork} (hv : v.refs = w.refs) (k : Cat)
    (h : (s.taking l).releaseOne j.id w r = State.nextRef { s.taking l with cat := k } j.id v false) :
    Ends s .releaseReference { s.refGoesOn j l rest false v with cat := k } :=
  releaseReference_ends hj hphase hrefs hhold hq (h.trans (State.nextRef_goesOn hj.2 l (hv.trans hrefs) false k))
    (s.refGoesOn_ckpt j l rest false v)

end

/-! ## An UNINDEXED reference given back (R85) -/

theorem Cat.releaseUnindexed_eq (k : Cat) (r : Ref) :
    k.releaseUnindexed r =
      if r.lost then k
      else if r.oneCopy then (k.giveBack r.driveA r.sectorA (sectorsOf r.key.len)).1
      else ((k.giveBack r.driveA r.sectorA (sectorsOf r.key.len)).1.giveBack r.driveB r.sectorB (sectorsOf r.key.len)).1 := rfl

theorem Cat.giveBack_eq (c : Cat) (drive sector n : Nat) :
    (c.giveBack drive sector n).1 =
      if h : drive < 4 then
        let d : Fin 4 := ⟨drive, h⟩
        let a := sector / 1024
        if c.geo.firstChunkAu d ≤ a ∧ a < c.geo.au[d] then
          let live := (c.au d a).live
          let left := c.setAuTested d a { c.au d a with live := live - n }
          if n ≤ live then left else left.countAccounting
        else c.countAccounting
      else c.countAccounting := by
  by_cases hd : drive < 4
  · have hout : (sector / 1024 < c.geo.firstChunkAu ⟨drive, hd⟩ ∨ c.geo.au[(⟨drive, hd⟩ : Fin 4)] ≤ sector / 1024)
        ↔ ¬(c.geo.firstChunkAu ⟨drive, hd⟩ ≤ sector / 1024 ∧ sector / 1024 < c.geo.au[(⟨drive, hd⟩ : Fin 4)]) := by omega
    simp only [Cat.giveBack, dif_pos hd, auOf, hout]
    by_cases hin : c.geo.firstChunkAu ⟨drive, hd⟩ ≤ sector / 1024 ∧ sector / 1024 < c.geo.au[(⟨drive, hd⟩ : Fin 4)]
    · rw [if_neg (not_not.mpr hin), if_pos hin, Cat.giveUp]
      by_cases hlive : n ≤ (c.au ⟨drive, hd⟩ (sector / 1024)).live
      · rw [if_pos hlive]
        exact if_neg (Nat.not_lt.mpr hlive)
      · rw [if_neg hlive, Nat.sub_eq_zero_of_le (Nat.le_of_not_le hlive)]
        exact if_pos (Nat.lt_of_not_le hlive)
    · rw [if_pos hin, if_neg hin]
  · simp only [Cat.giveBack, dif_neg hd]

/-- Settles O34. -/
theorem referenceCounts : Obligations.ReferenceCounts := by
  refine ⟨fun s j w r rest l hj hphase hrefs hhold => ?counts, fun k r => ?unindexed⟩
  case unindexed =>
    rw [Cat.releaseUnindexed_eq]
    simp only [Cat.giveBack_eq]
    rfl
  case counts =>
    intro result goesOn waits
    have hretain : ∀ v, s.refGoesOn j l rest true v = goesOn (.retainRef j.id) v (v.pinned != 0) := fun v => by
      rw [State.refGoesOn, RefWork.result_eq]
      rfl
    have hrelease : ∀ v, s.refGoesOn j l rest false v = goesOn (.releaseRef j.id) v v.accounting := fun v => by
      rw [State.refGoesOn, RefWork.result_eq]
      rfl
    have hrkeep : ∀ v : RefWork, v.refs = w.refs → s.engine.requests = .retainRef j.id :: l →
        (s.taking l).retainOne j.id w r = (s.taking l).nextRef j.id v true →
        Ends s .retainReference (goesOn (.retainRef j.id) v (v.pinned != 0)) := fun v hv hq h =>
      (retainReference_goesOn hj hphase hrefs hhold hq hv s.cat h).of_eq ((s.refGoesOn_cat j l rest true v).trans (hretain v))
    have hlkeep : ∀ v : RefWork, v.refs = w.refs → s.engine.requests = .releaseRef j.id :: l →
        (s.taking l).releaseOne j.id w r = (s.taking l).nextRef j.id v false →
        Ends s .releaseReference (goesOn (.releaseRef j.id) v v.accounting) := fun v hv hq h =>
      (releaseReference_goesOn hj hphase hrefs hhold hq hv s.cat h).of_eq ((s.refGoesOn_cat j l rest false v).trans (hrelease v))
    refine ⟨fun hq => ⟨fun hun => ?retainUnindexed, fun hun hmiss => ?retainMissing, fun slot e hun hfound =>
      ⟨fun hpend => ?retainWaits, fun hpend hlow => ?retainCounts, fun hpend hpin => ?retainPinned⟩⟩,
      fun hq => ⟨fun hun => ?releaseUnindexed, fun hun hmiss => ?releaseMissing, fun slot e hun hfound =>
      ⟨fun hpend => ?releaseWaits, fun hpend h1 hlow => ?releaseCounts, fun hpend h1 => ?releaseRemoves, fun hpend hpin => ?releasePinned⟩⟩⟩
    case retainUnindexed => exact hrkeep { w with other := w.other + 1 } rfl hq (if_pos hun)
    case retainMissing =>
      exact hrkeep { w with missing := w.missing + 1 } rfl hq
        ((if_neg (Bool.eq_false_iff.mp hun)).trans (Cat.lookup_missing hmiss _ _))
    case retainWaits =>
      refine retainReference_ends hj hphase hrefs hhold hq ((State.retainOne_found (s := s.taking l) hun hfound).trans (if_pos hpend)) rfl
    case retainCounts =>
      refine (retainReference_goesOn hj hphase hrefs hhold hq (v := { w with done := w.done + 1 }) rfl _
        ((State.retainOne_found (s := s.taking l) hun hfound).trans ((if_neg hpend).trans (if_pos hlow)))).of_eq ?_
      rw [hretain]
      rfl
    case retainPinned =>
      exact hrkeep { w with pinned := w.pinned + 1 } rfl hq ((State.retainOne_found (s := s.taking l) hun hfound).trans
        ((if_neg hpend).trans (if_neg (by rw [hpin]; exact Nat.lt_irrefl _))))
    case releaseUnindexed =>
      refine (releaseReference_goesOn hj hphase hrefs hhold hq
        (v := { w with done := w.done + 1, accounting := w.accounting || s.cat.errs fun c => c.releaseUnindexed r }) rfl _
        (if_pos hun)).of_eq ?_
      rw [hrelease]
      rfl
    case releaseMissing =>
      exact hlkeep { w with missing := w.missing + 1 } rfl hq
        ((if_neg (Bool.eq_false_iff.mp hun)).trans (Cat.lookup_missing hmiss _ _))
    case releaseWaits =>
      exact releaseReference_ends hj hphase hrefs hhold hq ((State.releaseOne_found (s := s.taking l) hun hfound).trans (if_pos hpend)) rfl
    case releaseCounts =>
      refine (releaseReference_goesOn hj hphase hrefs hhold hq (v := { w with done := w.done + 1 }) rfl _
        ((State.releaseOne_found (s := s.taking l) hun hfound).trans ((if_neg hpend).trans ((if_neg (Nat.ne_of_lt hlow)).trans (if_pos h1))))).of_eq ?_
      rw [hrelease]
      rfl
    case releaseRemoves =>
      refine (releaseReference_goesOn hj hphase hrefs hhold hq
        (v := { w with done := w.done + 1, other := w.other + 1, accounting := w.accounting || s.cat.errs fun c => c.remove slot e })
        rfl _ ((State.releaseOne_found (s := s.taking l) hun hfound).trans ((if_neg hpend).trans ((if_neg ?_).trans (if_neg ?_))))).of_eq ?_
      · rw [h1]
        decide
      · rw [h1]
        exact Nat.lt_irrefl _
      · rw [hrelease]
        rfl
    case releasePinned =>
      exact hlkeep { w with pinned := w.pinned + 1 } rfl hq ((State.releaseOne_found (s := s.taking l) hun hfound).trans
        ((if_neg hpend).trans (if_pos hpin)))

end Sys2Proof.Machine

/-! # Resolution and verdicts (R55 to R63)

A resolution ends in one of three ways: the chunk takes a count, its copies are placed and their writes begin, or it is refused. Each
is one equation over the state that the Catalogue Engine has taken the request from. -/

namespace Sys2Proof.Machine

/-! ## The rows -/

section
variable {s u : State} {n : Fin 8} {c : Chunk} {l : List CatReq} (hp : s.powered = true) (hh : s.engine.hold = none)
include hp hh

theorem resolution_ends (hq : s.engine.requests = .resolution n c.id :: l) (hc : s.chunkIn n c.id .resolving = some c)
    (hu : (s.taking l).resolve n c = u) : Ends s .resolution ((u.settleStream n).afterCkpt s) := by
  have h := catalogueRequests.2 s _ l hp hq hh
  have hm : (s.taking l).chunkIn n c.id .resolving = some c := hc
  change Ends s .resolution (((s.taking l).takeRequest (.resolution n c.id)).afterCkpt s) at h
  simp only [State.takeRequest, hm, hu] at h
  exact h

theorem compareVerdict_ends {v : Verdict} (hq : s.engine.requests = .verdict n c.id v :: l) (hc : s.chunkIn n c.id .verdict = some c)
    (hu : (s.taking l).applyVerdict n c v = u) : Ends s .compareVerdict ((u.settleStream n).afterCkpt s) := by
  have h := catalogueRequests.2 s _ l hp hq hh
  have hm : (s.taking l).chunkIn n c.id .verdict = some c := hc
  change Ends s .compareVerdict (((s.taking l).takeRequest (.verdict n c.id v)).afterCkpt s) at h
  simp only [State.takeRequest, hm, hu] at h
  exact h

end

theorem State.chunkIn_some {s : State} {n : Fin 8} {id : Nat} {p : ChunkPhase} {c : Chunk} (h : s.chunkIn n id p = some c) :
    s.chunk n id = some c ∧ c.phase = p := by
  unfold State.chunkIn at h
  split at h
  · rename_i d hd
    split at h
    · rename_i hphase
      obtain rfl := Option.some.inj h
      exact ⟨hd, hphase⟩
    · cases h
  · cases h

/-! ## A reference issued -/

theorem State.issueRef_owned {s : State} {n : Fin 8} {c : Chunk} {o : Nat} {w : StreamWork} (howner : c.owner = some o)
    (hwork : s.work o = some w) (r : Ref) :
    s.issueRef n c r =
      (s.modChunk n c.id fun c => { c with phase := .referencing, ref := some r, slot := some w.written }).emit
        (.hostWrite (w.recipe + BitVec.ofNat 64 (32 * w.written)) r.bytes) := by
  simp only [State.issueRef, howner, hwork]

theorem State.tryFinish_unresolved {s : State} {n : Fin 8} {id : Nat} {c : Chunk} (h : s.chunk n id = some c) (hp : c.phase ≠ .resolved) :
    s.tryFinish n id = s := by
  simp only [State.tryFinish, h]
  split
  · rename_i hphase _
    exact absurd hphase hp
  · rfl

/-- Two changes of one chunk, the first of which keeps its name. -/
theorem State.modChunk_comp (s : State) (n : Fin 8) (id : Nat) (f g : Chunk → Chunk) (hf : ∀ x, (f x).id = x.id) :
    (s.modChunk n id f).modChunk n id g = s.modChunk n id fun c => g (f c) := State.modChunk_modChunk hf

/-! ## A duplicate -/

/-- A duplicate takes a count and its reference is issued; its outcome is decided at once (R57, R58). -/
theorem State.duplicate_eq {s : State} {n : Fin 8} {c : Chunk} {o : Nat} {w : StreamWork} (hchunk : s.chunk n c.id = some c)
    (howner : c.owner = some o) (hwork : s.work o = some w) (slot : Nat) (e : Entry) {f : Entry} {r : Ref}
    (hf : f = e.counted s.streams[n].copies) (hr : r = { key := c.key, oneCopy := (s.presentCopies f).length == 1 }) :
    s.duplicate n c slot e =
      ((s.modCat fun k => k.setSlot slot (some f)).modChunk n c.id fun x =>
        { x with
          target := .entry slot, phase := .referencing, ref := some r, slot := some w.written, outcome := some .duplicate
          final := r }).emit
        (.hostWrite (w.recipe + BitVec.ofNat 64 (32 * w.written)) r.bytes) := by
  let referred : Chunk → Chunk := fun x =>
    { x with target := .entry slot, phase := .referencing, ref := some r, slot := some w.written }
  let t := ((s.modCat fun k => k.setSlot slot (some f)).modChunk n c.id referred).emit
    (.hostWrite (w.recipe + BitVec.ofNat 64 (32 * w.written)) r.bytes)
  have hfound : ∀ u : State, u.streams = s.streams → ∀ g : Chunk → Chunk, (∀ x, (g x).id = x.id) →
      (u.modChunk n c.id g).chunk n c.id = some (g c) := fun u hu g hg =>
    State.chunk_modChunk (s := u) (by rw [State.chunk, hu]; exact hchunk) g hg
  have htake : s.takeCount n c slot e = t := by
    simp only [State.takeCount, ← hf, ← hr]
    refine (State.issueRef_owned howner (s := (s.modCat fun k => k.setSlot slot (some f)).modChunk n c.id fun c => { c with target := .entry slot })
      hwork r).trans ?_
    exact congrArg (State.emit · (.hostWrite (w.recipe + BitVec.ofNat 64 (32 * w.written)) r.bytes))
      (State.modChunk_comp _ n c.id (fun c => { c with target := .entry slot }) _ fun _ => rfl)
  have hchunk' : t.chunk n c.id = some (referred c) := hfound _ rfl referred fun _ => rfl
  have hdecide : s.duplicate n c slot e = t.decideChunk n c.id .duplicate r := by
    simp only [State.duplicate, htake, hchunk', referred]
  have htwice : (t.modChunk n c.id fun c => { c with outcome := some .duplicate, final := r })
      = ((s.modCat fun k => k.setSlot slot (some f)).modChunk n c.id fun x =>
        { x with
          target := .entry slot, phase := .referencing, ref := some r, slot := some w.written, outcome := some .duplicate
          final := r }).emit (.hostWrite (w.recipe + BitVec.ofNat 64 (32 * w.written)) r.bytes) :=
    congrArg (State.emit · (.hostWrite (w.recipe + BitVec.ofNat 64 (32 * w.written)) r.bytes))
      (State.modChunk_comp (s.modCat fun k => k.setSlot slot (some f)) n c.id referred _ fun _ => rfl)
  rw [hdecide, State.decideChunk, htwice]
  exact State.tryFinish_unresolved (hfound (s.modCat fun k => k.setSlot slot (some f)) rfl _ fun _ => rfl) nofun

/-! ## Placement -/

/-- Two catalogues with the same geometry and AU records: placement finds the same in both (R94). -/
def Cat.sameSpace (k c : Cat) : Prop := k.st = c.st ∧ k.boxId = c.boxId ∧ k.geo = c.geo ∧ k.aus = c.aus

theorem Cat.setSlot_sameSpace (c : Cat) (slot : Nat) (e : Option Entry) : (c.setSlot slot e).sameSpace c := by
  unfold Cat.setSlot
  split
  · exact ⟨rfl, rfl, rfl, rfl⟩
  · split <;> exact ⟨rfl, rfl, rfl, rfl⟩

theorem State.bestCandidate_congr {s t : State} (hd : t.drives = s.drives) (hc : t.cat.sameSpace s.cat) (m : Nat)
    (exclude : List (Fin 4)) (readyOnly : Bool) : t.bestCandidate m exclude readyOnly = s.bestCandidate m exclude readyOnly := by
  obtain ⟨hst, hbox, hgeo, haus⟩ := hc
  have hcand : t.candidate m exclude readyOnly = s.candidate m exclude readyOnly := by
    funext d
    simp only [State.candidate, State.member, State.membership, Cat.room, Cat.filling, Cat.firstFree, hd, hst, hbox, hgeo, haus]
  have hfree : t.cat.freeAus = s.cat.freeAus := by
    funext d
    simp only [Cat.freeAus, hst, hgeo, haus]
  have hrank : t.ranksBefore = s.ranksBefore := by
    funext d e
    simp only [State.ranksBefore, hd, hfree]
  rw [State.bestCandidate, hcand, hrank]
  rfl

/-- Where the copies of a chunk of `m` sectors are placed with copy A on drive `d`, and the catalogue after the reservations (R94,
R95). -/
def State.placed (s : State) (m : Nat) (d : Fin 4) (k : Cat) (two : Bool) : Cat × Loc × Option Loc :=
  let p := k.reserve d m
  match (if two then State.bestCandidate { s with cat := p.2 } m [d] false else none) with
  | some d₂ => let q := p.2.reserve d₂ m; (q.2, (⟨d, p.1⟩ : Loc), some (⟨d₂, q.1⟩ : Loc))
  | none => (p.2, ⟨d, p.1⟩, none)

theorem State.placed_congr {s t : State} (hd : t.drives = s.drives) (m : Nat) (d : Fin 4) (k : Cat) (two : Bool) :
    t.placed m d k two = s.placed m d k two := by
  have h := State.bestCandidate_congr (s := { s with cat := (k.reserve d m).2 }) (t := { t with cat := (k.reserve d m).2 }) hd
    ⟨rfl, rfl, rfl, rfl⟩ m [d] false
  rw [State.placed, State.placed, h]

theorem State.place_some {t : State} {m : Nat} {ex : List (Fin 4)} {r : Bool} {d : Fin 4} (h : t.bestCandidate m ex r = some d) :
    t.place m ex r = some (⟨d, (t.cat.reserve d m).1⟩, { t with cat := (t.cat.reserve d m).2 }) := by
  simp only [State.place, h]

theorem State.place_none {t : State} {m : Nat} {ex : List (Fin 4)} {r : Bool} (h : t.bestCandidate m ex r = none) :
    t.place m ex r = none := by
  simp only [State.place, h]

theorem State.placeChunk_some {t : State} {m : Nat} {d : Fin 4} (h : t.bestCandidate m [] false = some d) (two : Bool) :
    t.placeChunk m two =
      some ((t.placed m d t.cat two).2.1, (t.placed m d t.cat two).2.2, { t with cat := (t.placed m d t.cat two).1 }) := by
  simp only [State.placeChunk, State.place_some h, State.placed]
  cases two with
  | false => rfl
  | true =>
    cases hb : State.bestCandidate { t with cat := (t.cat.reserve d m).2 } m [d] false with
    | none => simp only [if_true, State.place_none hb]
    | some e => simp only [if_true, State.place_some hb]

theorem State.placeChunk_none {t : State} {m : Nat} (h : t.bestCandidate m [] false = none) (two : Bool) : t.placeChunk m two = none := by
  simp only [State.placeChunk, State.place_none h]

/-! ## The writes of a chunk begin -/

/-- The offer of a chunk's CHUNK_WRITE of one copy (R55, R123). -/
def Chunk.copyOffer (c : Chunk) (n : Fin 8) (id : Nat) (x : Loc) (copy : CopyName) : Offer :=
  { drive := x.drive
    op := { id := id, cls := .bulk, kind := .chunkWrite, first := x.sector, count := sectorsOf c.key.len
            owner := .chunkCopy n c.id copy, payload := padTo (sectorsOf c.bytes.length * 4096) c.bytes } }

/-- The offers of the CHUNK_WRITEs of a chunk's placed copies. -/
def Chunk.copyOffers (c : Chunk) (n : Fin 8) (id : Nat) (a : Loc) (b : Option Loc) : List Offer :=
  c.copyOffer n id a .a :: (match b with | some b => [c.copyOffer n (id + 1) b .b] | none => [])

theorem State.beginWrites_eq {s : State} {n : Fin 8} {c : Chunk} {o : Nat} {w : StreamWork} (howner : c.owner = some o)
    (hwork : s.work o = some w) (a : Loc) (b : Option Loc) (target : Target) (r : Ref) :
    s.beginWrites n c a b target r =
      { s.modChunk n c.id fun x =>
          { x with
            target := target, phase := .referencing, ref := some r, slot := some w.written, writes := s.copyWrites a b } with
        nextId := s.nextId + (if b.isSome then 2 else 1)
        offers := s.offers ++ c.copyOffers n s.nextId a b
        out := { s.out with acts := s.out.acts ++ [.hostWrite (w.recipe + BitVec.ofNat 64 (32 * w.written)) r.bytes] } } := by
  have hcomp := s.modChunk_comp n c.id (fun c => { c with target := target, writes := s.copyWrites a b })
    (fun c => { c with phase := .referencing, ref := some r, slot := some w.written }) fun _ => rfl
  let written := fun t : State => t.emit (.hostWrite (w.recipe + BitVec.ofNat 64 (32 * w.written)) r.bytes)
  cases b with
  | none =>
    exact (State.issueRef_owned howner (s := (s.modChunk n c.id fun c =>
        { c with target := target, writes := s.copyWrites a none }).offerCopy n c .a a) hwork r).trans
      (congrArg (fun t : State => written (t.offerCopy n c .a a)) hcomp)
  | some b =>
    refine (State.issueRef_owned howner (s := ((s.modChunk n c.id fun c =>
        { c with target := target, writes := s.copyWrites a (some b) }).offerCopy n c .a a).offerCopy n c .b b) hwork r).trans
      ((congrArg (fun t : State => written ((t.offerCopy n c .a a).offerCopy n c .b b)) hcomp).trans ?_)
    let u : State := s.modChunk n c.id fun x =>
      { x with target := target, phase := .referencing, ref := some r, slot := some w.written, writes := s.copyWrites a (some b) }
    exact congrArg (fun l : List Offer => written { u with nextId := s.nextId + 2, offers := l })
      (List.append_assoc s.offers [c.copyOffer n s.nextId a .a] [c.copyOffer n (s.nextId + 1) b .b])

/-! ## A stored chunk -/

/-- A chunk stored at its placed copies, from the state in which its request is taken (R55, R56, R62). -/
def State.stored (s : State) (l : List CatReq) (n : Fin 8) (c : Chunk) (w : StreamWork) (k : Cat) (a : Loc) (b : Option Loc)
    (target : Target) (collision : Bool) (r : Ref) : State :=
  let write := fun (x : Loc) (copy : CopyName) => ({ copy := copy, loc := x, epoch := s.drives[x.drive].epoch } : CopyWrite)
  { s with
    engine := { s.engine with requests := l }
    cat := k
    streams := s.streams.set n
      { s.streams[n] with
        window := s.streams[n].window.map fun x =>
          if x.id = c.id then
            { x with target := target, phase := .referencing, ref := some r, slot := some w.written
                     collision := x.collision || collision
                     writes := write a .a :: (match b with | some b => [write b .b] | none => []) }
          else x }
    nextId := s.nextId + (if b.isSome then 2 else 1)
    offers := s.offers ++ c.copyOffers n s.nextId a b
    out := { acts := [.hostWrite (w.recipe + BitVec.ofNat 64 (32 * w.written)) r.bytes] } }

theorem State.storeUnindexed_some {t u : State} {n : Fin 8} {c : Chunk} {a : Loc} {b : Option Loc}
    (h : t.placeChunk (sectorsOf c.key.len) (t.streams[n].copies == 2) = some (a, b, u)) :
    t.storeUnindexed n c = u.beginWrites n c a b .unindexed (unindexedRef c.key a b) := by
  simp only [State.storeUnindexed, h]

theorem State.repairIngest_some {t u : State} {n : Fin 8} {c : Chunk} {a : Loc} {b : Option Loc} {slot : Nat} {e : Entry}
    (h : t.placeChunk (sectorsOf c.key.len) ((e.counted t.streams[n].copies).wanted == 2) = some (a, b, u)) :
    t.repairIngest n c slot e =
      (u.modCat fun k => (k.giveUpEntry e).setSlot slot (some
        { e.counted t.streams[n].copies with st := .pending, a := { loc := a }, b := b.map fun l => { loc := l }, day := 0 })).beginWrites
        n c a b (.entry slot) { key := c.key, oneCopy := b.isNone } := by
  simp only [State.repairIngest, h]

section
variable {s : State} {n : Fin 8} {c : Chunk} {o : Nat} {w : StreamWork} {l : List CatReq} (howner : c.owner = some o)
  (hwork : s.work o = some w)
include howner hwork

theorem State.beginWrites_stored (k : Cat) (a : Loc) (b : Option Loc) (target : Target) (r : Ref) :
    State.beginWrites { s.taking l with cat := k } n c a b target r = s.stored l n c w k a b target false r := by
  refine (State.beginWrites_eq howner (w := w) (by exact hwork) a b target r).trans ?_
  simp only [State.stored, Bool.or_false]
  rfl

theorem State.beginWrites_collided (k : Cat) (a : Loc) (b : Option Loc) (target : Target) (r : Ref) :
    State.beginWrites (State.modChunk { s.taking l with cat := k } n c.id fun c => { c with collision := true }) n
      { c with collision := true } a b target r = s.stored l n c w k a b target true r := by
  refine (State.beginWrites_eq (c := { c with collision := true }) howner (w := w) (by exact hwork) a b target r).trans ?_
  let u : State := { s.taking l with cat := k }
  have hcomp := u.modChunk_comp n c.id (fun c => { c with collision := true })
    (fun x => { x with target := target, phase := .referencing, ref := some r, slot := some w.written, writes := s.copyWrites a b })
    fun _ => rfl
  simp only [State.stored, Bool.or_true]
  exact congrArg (fun t : State =>
    { t with
      nextId := s.nextId + (if b.isSome then 2 else 1)
      offers := s.offers ++ c.copyOffers n s.nextId a b
      out := { acts := [.hostWrite (w.recipe + BitVec.ofNat 64 (32 * w.written)) r.bytes] } }) hcomp

/-! ## The four ways to store -/

/-- A chunk stored unindexed with its copies placed (R56). -/
def State.storedUnindexed (s : State) (l : List CatReq) (n : Fin 8) (c : Chunk) (w : StreamWork) (d : Fin 4) (k : Cat)
    (collision : Bool) : State :=
  let p := s.placed (sectorsOf c.key.len) d k (s.streams[n].copies == 2)
  s.stored l n c w p.1 p.2.1 p.2.2 .unindexed collision (unindexedRef c.key p.2.1 p.2.2)

theorem State.storeNew_placed {d : Fin 4} (hd : s.bestCandidate (sectorsOf c.key.len) [] false = some d) (slot : Nat) :
    (s.taking l).storeNew n c slot =
      (let p := s.placed (sectorsOf c.key.len) d s.cat (s.streams[n].copies == 2)
       s.stored l n c w
        (p.1.setSlot slot (some
          { key := c.key, st := .pending, refcount := 1, wanted := s.streams[n].copies, a := { loc := p.2.1 }
            b := p.2.2.map fun b => { loc := b } }))
        p.2.1 p.2.2 (.entry slot) false { key := c.key, oneCopy := p.2.2.isNone }) := by
  have hplace := State.placeChunk_some (t := s.taking l) hd (s.streams[n].copies == 2)
  rw [State.placed_congr (s := s) (t := s.taking l) rfl] at hplace
  have hcopies : (s.taking l).streams[n].copies = s.streams[n].copies := rfl
  simp only [State.storeNew, hcopies, hplace]
  exact State.beginWrites_stored howner hwork _ _ _ _ _

theorem State.storeUnindexed_placed {d : Fin 4} (hd : s.bestCandidate (sectorsOf c.key.len) [] false = some d) :
    (s.taking l).storeUnindexed n c = s.storedUnindexed l n c w d s.cat false := by
  have hplace := State.placeChunk_some (t := s.taking l) hd (s.streams[n].copies == 2)
  rw [State.placed_congr (s := s) (t := s.taking l) rfl] at hplace
  have hcopies : (s.taking l).streams[n].copies = s.streams[n].copies := rfl
  simp only [State.storeUnindexed, hcopies, hplace]
  exact State.beginWrites_stored howner hwork _ _ _ _ _

/-- The catalogue with one more collision counted (R60). -/
def Cat.countCollision (k : Cat) : Cat :=
  { k with collisions := if k.collisions < 4294967295 then k.collisions + 1 else k.collisions }

theorem State.collide_placed {d : Fin 4} (hd : s.bestCandidate (sectorsOf c.key.len) [] false = some d) :
    (s.taking l).collide n c = s.storedUnindexed l n c w d s.cat.countCollision true := by
  let t : State := State.modChunk { s.taking l with cat := s.cat.countCollision } n c.id fun c => { c with collision := true }
  have hd' : t.bestCandidate (sectorsOf c.key.len) [] false = some d :=
    (State.bestCandidate_congr (s := s) (t := t) rfl ⟨rfl, rfl, rfl, rfl⟩ _ _ _).trans hd
  have hcopies : t.streams[n].copies = s.streams[n].copies :=
    (congrArg Stream.copies (vector_set_same s.streams n _) :)
  have hplace := State.placeChunk_some hd' (t.streams[n].copies == 2)
  rw [State.placed_congr (s := s) (t := t) rfl, hcopies, ← hcopies] at hplace
  have hstore := State.storeUnindexed_some (t := t) (c := { c with collision := true }) hplace
  have hcat : t.cat = s.cat.countCollision := rfl
  rw [hcopies, hcat] at hstore
  generalize hp : s.placed (sectorsOf c.key.len) d s.cat.countCollision (s.streams[n].copies == 2) = p at hstore
  rw [State.storedUnindexed, hp]
  exact hstore.trans (State.beginWrites_collided (l := l) howner hwork p.1 p.2.1 p.2.2 .unindexed (unindexedRef c.key p.2.1 p.2.2))

theorem State.repairIngest_placed {k : Cat} (hk : k.sameSpace s.cat) {d : Fin 4}
    (hd : s.bestCandidate (sectorsOf c.key.len) [] false = some d) (slot : Nat) (e : Entry) :
    State.repairIngest { s.taking l with cat := k } n c slot e =
      (let wanted := if s.streams[n].copies = 2 then 2 else e.wanted
       let p := s.placed (sectorsOf c.key.len) d k (wanted == 2)
       s.stored l n c w
        ((p.1.giveUpEntry e).setSlot slot (some
          { e with
            refcount := if e.refcount < 65535 then e.refcount + 1 else e.refcount
            wanted := wanted, st := .pending, a := { loc := p.2.1 }, b := p.2.2.map fun b => { loc := b }, day := 0 }))
        p.2.1 p.2.2 (.entry slot) false { key := c.key, oneCopy := p.2.2.isNone }) := by
  let t : State := { s.taking l with cat := k }
  have hd' : t.bestCandidate (sectorsOf c.key.len) [] false = some d := (State.bestCandidate_congr (s := s) (t := t) rfl hk _ _ _).trans hd
  have hplace := State.placeChunk_some hd' ((e.counted s.streams[n].copies).wanted == 2)
  rw [State.placed_congr (s := s) (t := t) rfl] at hplace
  exact (State.repairIngest_some (t := t) hplace).trans (State.beginWrites_stored howner hwork _ _ _ _ _)

end

/-! ## A refusal -/

theorem windowBefore_eq (l : List Chunk) (id : Nat) : windowBefore l id = l.takeWhile fun x => x.id != id := by
  induction l with
  | nil => rfl
  | cons a l ih =>
    by_cases ha : a.id = id
    · simp [windowBefore, ha]
    · simp [windowBefore, ha, ih]

theorem windowBefore_map (l : List Chunk) (id : Nat) {f : Chunk → Chunk} (hf : ∀ x, (f x).id = x.id) :
    windowBefore (l.map fun x => if x.id = id then f x else x) id = windowBefore l id := by
  induction l with
  | nil => rfl
  | cons a l ih =>
    by_cases ha : a.id = id
    · simp [windowBefore, ha, hf]
    · simp [windowBefore, ha, ih]

theorem State.modChunk_rewindBefore (s : State) (n : Fin 8) (id : Nat) {f : Chunk → Chunk} (hf : ∀ x, (f x).id = x.id) :
    (s.modChunk n id f).rewindBefore n id = s.rewindBefore n id := by
  rw [State.rewindBefore, State.modChunk, State.modStream_modStream, State.rewindBefore, State.modStream, State.modStream]
  exact congrArg (fun l => { s with streams := s.streams.set n { s.streams[n].fresh with window := l } }) (windowBefore_map _ id hf)

/-- A refused chunk's state: it and the later ones are withdrawn, the stream is rewound, and its owner stops (R63). -/
def State.refused (s : State) (l : List CatReq) (n : Fin 8) (c : Chunk) (o : Nat) (w : StreamWork) (k : Cat) : State :=
  { s.setPhase o (.stream { w with stopped := true, buf := [], status := w.status.worse .noSpace }) with
    out := {}
    engine := { s.engine with requests := l }
    cat := k
    streams := s.streams.set n
      { s.streams[n] with
        window := s.streams[n].window.takeWhile fun x => x.id != c.id
        h := 0, crc := BitVec.allOnes 64, held := false, cur := [], curOwn := 0 } }

section
variable {s : State} {n : Fin 8} {c : Chunk} {o : Nat} {w : StreamWork} {l : List CatReq} (howner : c.owner = some o)
  (hwork : s.work o = some w)
include howner hwork

theorem State.refuseChunk_eq (k : Cat) : State.refuseChunk { s.taking l with cat := k } n c = s.refused l n c o w k := by
  have hw : (State.rewindBefore { s.taking l with cat := k } n c.id).work o = some w := hwork
  simp only [State.refuseChunk, State.modOwner, howner, State.modWork, hw, State.refused, ← windowBefore_eq]
  rfl

variable {k : Cat} (hk : k.sameSpace s.cat) (hd : s.bestCandidate (sectorsOf c.key.len) [] false = none)
include hd

theorem State.storeNew_refused (slot : Nat) : (s.taking l).storeNew n c slot = s.refused l n c o w s.cat := by
  have hplace := State.placeChunk_none (t := s.taking l) hd ((s.taking l).streams[n].copies == 2)
  simp only [State.storeNew, hplace]
  exact State.refuseChunk_eq howner hwork s.cat

theorem State.storeUnindexed_refused : (s.taking l).storeUnindexed n c = s.refused l n c o w s.cat := by
  have hplace := State.placeChunk_none (t := s.taking l) hd ((s.taking l).streams[n].copies == 2)
  simp only [State.storeUnindexed, hplace]
  exact State.refuseChunk_eq howner hwork s.cat

theorem State.collide_refused : (s.taking l).collide n c = s.refused l n c o w s.cat.countCollision := by
  let u : State := { s.taking l with cat := s.cat.countCollision }
  let t : State := u.modChunk n c.id fun c => { c with collision := true }
  have hd' : t.bestCandidate (sectorsOf c.key.len) [] false = none :=
    (State.bestCandidate_congr (s := s) (t := t) rfl ⟨rfl, rfl, rfl, rfl⟩ _ _ _).trans hd
  have hplace := State.placeChunk_none hd' (t.streams[n].copies == 2)
  have hstore : t.storeUnindexed n { c with collision := true } = t.refuseChunk n { c with collision := true } := by
    simp only [State.storeUnindexed, hplace]
  have hrewind : t.refuseChunk n { c with collision := true } = u.refuseChunk n c :=
    congrArg (fun v : State => v.modOwner c.owner fun w => w.stopTaking.meets .noSpace)
      (u.modChunk_rewindBefore n c.id (f := fun c => { c with collision := true }) fun _ => rfl)
  exact hstore.trans (hrewind.trans (State.refuseChunk_eq howner hwork _))

include hk in
theorem State.repairIngest_refused (slot : Nat) (e : Entry) :
    State.repairIngest { s.taking l with cat := k } n c slot e = s.refused l n c o w k := by
  let t : State := { s.taking l with cat := k }
  have hd' : t.bestCandidate (sectorsOf c.key.len) [] false = none := (State.bestCandidate_congr (s := s) (t := t) rfl hk _ _ _).trans hd
  have hplace := State.placeChunk_none hd' ((e.counted s.streams[n].copies).wanted == 2)
  have hrefuse : t.repairIngest n c slot e = t.refuseChunk n c := by
    have hplace' : t.placeChunk (sectorsOf c.key.len) ((e.counted t.streams[n].copies).wanted == 2) = none := hplace
    simp only [State.repairIngest, hplace']
  exact hrefuse.trans (State.refuseChunk_eq howner hwork k)

end

/-! ## Which way -/

section
variable {t : State} {n : Fin 8} {c : Chunk}

theorem State.resolve_room {slot : Nat} (h : t.cat.lookup c.key = .room slot) : t.resolve n c = t.storeNew n c slot := by
  simp only [State.resolve, h]

theorem State.resolve_full (h : t.cat.lookup c.key = .full) : t.resolve n c = t.storeUnindexed n c := by
  simp only [State.resolve, h]

variable {slot : Nat} {e : Entry} (h : t.cat.lookup c.key = .found slot e)
include h

theorem State.resolve_live (hst : e.st = .live) (hstrict : t.streams[n].strict = false) : t.resolve n c = t.duplicate n c slot e := by
  simp only [State.resolve, h, hst, hstrict, Bool.false_eq_true, if_false]

theorem State.resolve_differs (hst : e.st = .pending) (hstrict : t.streams[n].strict = true) (hstaged : t.stagedFor slot ≠ some c.bytes) :
    t.resolve n c = t.collide n c := by
  simp only [State.resolve, h, hst]
  exact if_pos ⟨hstrict, hstaged⟩

theorem State.resolve_damaged (hst : e.st = .damaged) : t.resolve n c = t.repairIngest n c slot e := by
  simp only [State.resolve, h, hst]

theorem State.applyVerdict_equal (hst : e.st = .live) : t.applyVerdict n c .equal = t.duplicate n c slot e := by
  simp only [State.applyVerdict, h, hst, if_true]

theorem State.applyVerdict_different (hst : e.st = .live) : t.applyVerdict n c .different = t.collide n c := by
  simp only [State.applyVerdict, h, hst, if_true]

theorem State.applyVerdict_noGoodCopy (hst : e.st = .live) :
    t.applyVerdict n c .noGoodCopy =
      (t.modCat fun k => k.setSlot slot (some { e with st := .damaged })).repairIngest n c slot { e with st := .damaged } := by
  simp only [State.applyVerdict, h, hst, if_true]

end

/-- Settles O35. -/
theorem chunkResolution : Obligations.ChunkResolution := by
  refine ⟨fun s n c o slot w e l hp hh hlookup hst howner hwork => ⟨fun hq hc hstrict => ?notStrict, fun hq hc => ?equal⟩,
    fun s j n c w l hj hphase howner hh => ?_⟩
  case notStrict =>
    refine resolution_ends hp hh hq hc ((State.resolve_live (t := s.taking l) hlookup hst hstrict).trans ?_)
    exact State.duplicate_eq (s := s.taking l) (State.chunkIn_some hc).1 howner hwork slot e rfl rfl
  case equal =>
    refine compareVerdict_ends hp hh hq hc ((State.applyVerdict_equal (t := s.taking l) hlookup hst).trans ?_)
    exact State.duplicate_eq (s := s.taking l) (State.chunkIn_some hc).1 howner hwork slot e rfl rfl
  obtain ⟨hp, hjob⟩ := hj
  have hwork : s.work j.id = some w := State.work_of_job hjob hphase
  refine ⟨fun d hd => ⟨fun slot hr hlookup => ?room, fun hr hlookup => ?full, fun slot e hv hlookup hst => ?differs,
    fun slot e hr hlookup hst hstrict hstaged => ?staged, fun slot e hlookup => ⟨fun hr hst => ?damaged, fun hq hc hst => ?noGoodCopy⟩⟩,
    fun hd => ⟨fun hr hlookup => ?refused, fun slot e hlookup => ⟨fun hv hst => ?refusedDiffers,
      fun hr hst hstrict hstaged => ?refusedStaged, fun hq hc hst => ?refusedNoGoodCopy⟩⟩⟩
  case room =>
    exact resolution_ends hp hh hr.1 hr.2
      ((State.resolve_room (t := s.taking l) hlookup).trans (State.storeNew_placed howner hwork hd slot))
  case full =>
    exact resolution_ends hp hh hr.1 hr.2
      ((State.resolve_full (t := s.taking l) hlookup).trans (State.storeUnindexed_placed howner hwork hd))
  case differs =>
    exact compareVerdict_ends hp hh hv.1 hv.2
      ((State.applyVerdict_different (t := s.taking l) hlookup hst).trans (State.collide_placed howner hwork hd))
  case staged =>
    exact resolution_ends hp hh hr.1 hr.2
      ((State.resolve_differs (t := s.taking l) hlookup hst hstrict hstaged).trans (State.collide_placed howner hwork hd))
  case damaged =>
    exact resolution_ends hp hh hr.1 hr.2 ((State.resolve_damaged (t := s.taking l) hlookup hst).trans
      (State.repairIngest_placed howner hwork ⟨rfl, rfl, rfl, rfl⟩ hd slot e))
  case noGoodCopy =>
    exact compareVerdict_ends hp hh hq hc ((State.applyVerdict_noGoodCopy (t := s.taking l) hlookup hst).trans
      (State.repairIngest_placed howner hwork (Cat.setSlot_sameSpace ..) hd slot { e with st := .damaged }))
  case refused =>
    refine resolution_ends (u := s.refused l n c j.id w s.cat) hp hh hr.1 hr.2 ?_
    cases hfound : s.cat.lookup c.key with
    | room slot => exact (State.resolve_room (t := s.taking l) hfound).trans (State.storeNew_refused howner hwork hd slot)
    | full => exact (State.resolve_full (t := s.taking l) hfound).trans (State.storeUnindexed_refused howner hwork hd)
    | found slot e =>
      exact (State.resolve_damaged (t := s.taking l) hfound (hlookup slot e hfound)).trans
        (State.repairIngest_refused howner hwork ⟨rfl, rfl, rfl, rfl⟩ hd slot e)
  case refusedDiffers =>
    exact compareVerdict_ends hp hh hv.1 hv.2
      ((State.applyVerdict_different (t := s.taking l) hlookup hst).trans (State.collide_refused howner hwork hd))
  case refusedStaged =>
    exact resolution_ends hp hh hr.1 hr.2
      ((State.resolve_differs (t := s.taking l) hlookup hst hstrict hstaged).trans (State.collide_refused howner hwork hd))
  case refusedNoGoodCopy =>
    exact compareVerdict_ends hp hh hq hc ((State.applyVerdict_noGoodCopy (t := s.taking l) hlookup hst).trans
      (State.repairIngest_refused howner hwork (Cat.setSlot_sameSpace ..) hd slot { e with st := .damaged }))

end Sys2Proof.Machine

/-! # The answer to a drive's only operation (R130 to R132, R177) -/

namespace Sys2Proof.Machine

/-- An answer to the command on a port ends that command. -/
theorem commandAnswer_ends {s u : State} {d : Fin 4} {a : Answer} {p : PortUse} {c : DriveCmd} {again : Bool} (hp : s.powered = true)
    (hport : s.drives[d].port = .command p c again)
    (hu : s.mute.commandEnds d p (answerEnding a) (answerData a).1 (answerData a).2 = u) : Ends s (.commandAnswer d a) u := by
  refine run_ends_of (exec_commandAnswer d a s) hp (Eq.trans ?_ hu)
  have hm : s.mute.drives[d].port = .command p c again := hport
  simp only [hm]

/-- A drive whose only operation has left the list, its port IDLE. -/
def Drive.alone (x : Drive) : Drive := { x with port := .idle, ops := [] }

/-- The state with a drive whose only operation has left it. -/
def State.opLeft (s : State) (d : Fin 4) : State := s.modDrive d Drive.alone

section
variable {s : State} {d : Fin 4} {o : Op} (hops : s.drives[d].ops = [o])
include hops

theorem State.portIdle_ops : (s.portIdle d).drives[d].ops = [o] :=
  (congrArg Drive.ops (vector_set_same s.drives d _)).trans hops

theorem State.portIdle_find : ((s.portIdle d).drives[d].ops.find? fun p => p.id == o.id) = some o := by
  rw [State.portIdle_ops hops, List.find?_cons_of_pos (by simp)]

theorem State.portIdle_dropOp : ((s.portIdle d).modDrive d fun x => x.dropOp o.id) = s.opLeft d := by
  have hdrop : Drive.dropOp { s.drives[d] with port := .idle } o.id = s.drives[d].alone := by
    have hfilter : (s.drives[d].ops.filter fun p => p.id != o.id) = [] := by
      rw [hops, List.filter_cons_of_neg (by simp), List.filter_nil]
    exact congrArg (fun l => { s.drives[d] with port := .idle, ops := l }) hfilter
  rw [State.portIdle, State.modDrive, State.modDrive, vector_set_same, hdrop]
  simp only [Vector.set_set]
  rfl

variable (hw : o.withdrawn = false)
include hw

/-- The operation ends with its last segment's answer. -/
theorem State.commandEnds_last (hkind : o.kind ≠ .tempPoll) (hlast : o.segments ≤ o.segsDone + 1) (data : List Byte) (v : Int) :
    s.commandEnds d (.segment o.id) .done data v =
      (((((s.opLeft d).hand d { o with segsDone := o.segsDone + 1, data := o.data ++ data } (.done (o.data ++ data))).integrity d
        .done).refill d).settle) := by
  have hdone : (s.portIdle d).segmentDone d o data v =
      (s.opLeft d).hand d { o with segsDone := o.segsDone + 1, data := o.data ++ data } (.done (o.data ++ data)) := by
    unfold State.segmentDone
    refine (if_neg (by simp [hw])).trans ((if_neg (Nat.not_lt.mpr hlast)).trans ?_)
    rw [if_neg hkind, State.endOp, State.portIdle_dropOp hops]
    exact if_neg (by simp [hw])
  simp only [State.commandEnds, State.useEnds, State.segmentEnds, State.portIdle_find hops, if_true, hdone]

/-- The operation ends with an answer other than DONE. -/
theorem State.commandEnds_failed {e : Ending} (he : e ≠ .done) (data : List Byte) (v : Int) :
    s.commandEnds d (.segment o.id) e data v = ((((s.opLeft d).hand d o e.outcome).integrity d e).refill d).settle := by
  have hend : (s.portIdle d).endOp d o e.outcome = (s.opLeft d).hand d o e.outcome := by
    simp only [State.endOp, hw, Bool.false_eq_true, if_false, State.portIdle_dropOp hops]
  simp only [State.commandEnds, State.useEnds, State.segmentEnds, State.portIdle_find hops, he, if_false, hend]

end

/-! ## The Integrity Unit and the credit -/

section
variable {t : State} {d : Fin 4} {v : Vector Drive 4} {x : Drive} (h : t.drives = v.set d x.alone)
include h

theorem State.refill_alone : t.refill d = { t with drives := v.set d { x with port := .idle, ops := [], credit := t.cfg.credit } } := by
  have hx : t.drives[d] = x.alone := by rw [h, vector_set_same]
  have hfilled : t.drives[d].refilled t.cfg.credit = { x with port := .idle, ops := [], credit := t.cfg.credit } := by
    rw [hx]
    rfl
  rw [State.refill, State.modDrive, hfilled, h, Vector.set_set]

theorem State.refill_done_alone :
    (t.integrity d .done).refill d =
      { t with drives := v.set d { x with port := .idle, ops := [], credit := t.cfg.credit, noAnswer := 0 } } := by
  have hx : t.drives[d] = x.alone := by rw [h, vector_set_same]
  have hset : (t.integrity d .done).drives = v.set d (Drive.alone { x with noAnswer := 0 }) := by
    rw [State.integrity, State.modDrive, hx, h, Vector.set_set]
    rfl
  exact State.refill_alone hset

end

section
variable {s t : State} {d : Fin 4} {o : Op} {c : DriveCmd} {again : Bool} (hp : s.powered = true) (hops : s.drives[d].ops = [o])
  (hw : o.withdrawn = false) (hport : s.drives[d].port = .command (.segment o.id) c again)
  (ht : t.drives = s.drives.set d s.drives[d].alone)
include hp hops hw hport ht

/-- The last segment of a drive's only operation is answered DONE. -/
theorem onlyOp_done_ends (hkind : o.kind ≠ .tempPoll) (hlast : o.segments ≤ o.segsDone + 1) {data : List Byte} {v : Int}
    (hhand : (s.mute.opLeft d).hand d { o with segsDone := o.segsDone + 1, data := o.data ++ data } (.done (o.data ++ data)) = t) :
    Ends s (.commandAnswer d (.done data v))
      (State.settle
        { t with
          drives := s.drives.set d { s.drives[d] with port := .idle, ops := [], credit := t.cfg.credit, noAnswer := 0 } }) := by
  refine commandAnswer_ends (a := .done data v) hp hport ?_
  have hend := State.commandEnds_last (s := s.mute) hops hw hkind hlast data v
  rw [hhand, State.refill_done_alone ht] at hend
  exact hend

/-- A segment of a drive's only operation is answered with an error other than a media error. -/
theorem onlyOp_fails_ends (hhand : (s.mute.opLeft d).hand d o (.error false) = t) :
    Ends s (.commandAnswer d .otherError)
      (State.settle { t with drives := s.drives.set d { s.drives[d] with port := .idle, ops := [], credit := t.cfg.credit } }) := by
  refine commandAnswer_ends (a := .otherError) hp hport ?_
  have hend := State.commandEnds_failed (s := s.mute) (e := .other) hops hw nofun [] 0
  rw [Ending.outcome, hhand, State.integrity, State.refill_alone ht] at hend
  exact hend

end

/-! # CHECKPOINT (R108 to R115) -/

/-! ## The drained AUs that a success frees -/

theorem AuRec.reuse_reuse (r : AuRec) (g : BitVec 64) : (r.reuse g).reuse g = r.reuse g := by
  by_cases h : r.st = .drained ∧ r.drainedGen.toNat + 2 ≤ g.toNat
  · have hfree : r.reuse g = {} := if_pos h
    rw [hfree]
    rfl
  · have hstays : r.reuse g = r := if_neg h
    rw [hstays, hstays]

theorem Geometry.plainAu_reuse (g : Geometry) (d : Fin 4) (a : Nat) (n : BitVec 64) : (g.plainAu d a).reuse n = g.plainAu d a := by
  have hplain : (g.plainAu d a).st ≠ .drained := by
    unfold Geometry.plainAu
    split <;> exact nofun
  exact if_neg fun h => hplain h.1

@[simp] theorem Cat.setAu_generation (c : Cat) (d : Fin 4) (a : Nat) (r : AuRec) : (c.setAu d a r).generation = c.generation := by
  unfold Cat.setAu
  split <;> rfl

theorem Cat.au_foldl_reuse (d e : Fin 4) (a : Nat) (l : List (Nat × AuRec)) :
    ∀ c : Cat, (∀ f : Fin 4, c.geo.canonicalAus f c.aus[f]) →
      (l.foldl (fun c p => c.setAu d p.1 ((c.au d p.1).reuse c.generation)) c).au e a =
        if e = d ∧ a ∈ l.map Prod.fst then (c.au e a).reuse c.generation else c.au e a := by
  induction l with
  | nil =>
    intro c _
    simp
  | cons p l ih =>
    intro c hc
    have hnext : ∀ f : Fin 4, (c.setAu d p.1 ((c.au d p.1).reuse c.generation)).geo.canonicalAus f
        (c.setAu d p.1 ((c.au d p.1).reuse c.generation)).aus[f] := fun f => by
      rw [Cat.setAu_geo]
      exact Cat.setAu_canonicalAus hc d f p.1 _
    rw [List.foldl_cons, ih _ hnext, Cat.setAu_generation, Cat.au_setAu (fun f => (hc f).1)]
    by_cases he : e = d
    · subst he
      by_cases ha : a = p.1
      · subst ha
        simp [AuRec.reuse_reuse]
      · rw [if_neg (c := e = e ∧ a = p.1) fun h => ha h.2]
        exact if_congr (by rw [List.map_cons, List.mem_cons, or_iff_right ha]) rfl rfl
    · simp [he]

theorem tabGet_not_listed {α : Type} {l : List (Nat × α)} {k : Nat} (h : k ∉ l.map Prod.fst) : tabGet l k = none := by
  induction l with
  | nil => rfl
  | cons p l ih =>
    rw [List.map_cons, List.mem_cons, not_or] at h
    rw [tabGet, if_neg fun hk => h.1 hk.symm, ih h.2]

/-- An AU record that no table lists is not DRAINED: the pass over the listed ones reaches every DRAINED AU of the drive (R99). -/
theorem Cat.au_reuseDrive {k : Cat} (hk : k.canonical) (d e : Fin 4) (a : Nat) :
    (k.reuseDrive d).au e a =
      if e = d ∧ (k.au d a).st = .drained ∧ (k.au d a).drainedGen.toNat + 2 ≤ k.generation.toNat then {} else k.au e a := by
  refine (Cat.au_foldl_reuse d e a k.aus[d] k hk.2).trans ?_
  by_cases he : e = d
  · subst he
    by_cases ha : a ∈ k.aus[e].map Prod.fst
    · simp only [ha, and_self, if_true, true_and]
      rfl
    · have hplain : k.au e a = k.geo.plainAu e a := by
        rw [Cat.au, tabGet_not_listed ha]
        rfl
      have hstays := k.geo.plainAu_reuse e a k.generation
      rw [← hplain] at hstays
      rw [if_neg fun h => ha h.2]
      simp only [true_and]
      exact hstays.symm
  · simp [he]

/-! ## The request -/

section
variable {s : State} {i : Fin 2} {l : List CkptReq}

theorem State.ckptStep_prepared (htries : s.ckptTries l i = true) (hready : s.drives[catDrive i].power = .ready) :
    s.ckptStep l i = .prepared := by
  simp only [State.ckptStep, htries, hready, Bool.not_true, Bool.false_eq_true, if_false, if_true]

theorem State.ckptTries_job {id : Nat} (hm : s.member (catDrive i) = true) (hu : s.drives[catDrive i].usable = true) :
    s.ckptTries [.job id] i = true := by
  simp only [State.ckptTries, hm, hu, List.any_cons, List.any_nil, CkptReq.excludes, Bool.or_self, Bool.not_false, Bool.and_self]

/-- A checkpoint for a job with both catalogue drives READY asks for the hold at once (R109). -/
theorem State.beginCkpt_prepared {id : Nat} (h0 : s.ckptStep [.job id] 0 = .prepared) (h1 : s.ckptStep [.job id] 1 = .prepared) :
    s.beginCkpt [.job id] =
      { s with
        engine := { s.engine with
          ckpt := some { reqs := [.job id], d0 := .prepared, d1 := .prepared, asked := true }
          holdQueue := s.engine.holdQueue ++ [.checkpoint] } } := by
  simp only [State.beginCkpt, h0, h1, reduceCtorEq, and_self, if_false]
  exact if_neg fun h => absurd h.2 (by simp)

end

/-! ## The image write begins -/

/-- Operations offered one after the other, each with values from the catalogue, which an offer leaves as it is. -/
theorem State.foldl_offer {α : Type} (d : Fin 4) (cls : WorkClass) (kind : OpKind) (first : Cat → α → Nat) (count : α → Nat) (owner : Owner)
    (payload : Cat → α → List Byte) (l : List α) :
    ∀ s : State, l.foldl (fun s r => s.offer d cls kind (first s.cat r) (count r) owner (payload s.cat r)) s =
      { s with
        nextId := s.nextId + l.length
        offers := s.offers ++ l.zipIdx.map fun p =>
          { drive := d
            op := { id := s.nextId + p.2, cls := cls, kind := kind, first := first s.cat p.1, count := count p.1, owner := owner
                    payload := payload s.cat p.1 } } } := by
  induction l with
  | nil =>
    intro s
    simp
  | cons x l ih =>
    intro s
    rw [List.foldl_cons, ih]
    simp only [State.offer, List.length_cons, List.zipIdx_cons', List.map_cons, List.map_map, List.append_assoc,
      List.singleton_append, Nat.add_zero, Nat.add_assoc, Nat.add_comm 1]
    rfl

/-- A catalogue drive's in-step flag for a slot (R107). -/
def Cat.inStepOf (k : Cat) (x : ImgSlot) (i : Fin 2) : Bool :=
  match x with
  | .a => k.inStepA[i]
  | .b => k.inStepB[i]

/-- The operations of one drive's image write, with pages to write (R110 step 1). -/
theorem State.ckptQueue_runs {s : State} {x : ImgSlot} {i : Fin 2} {runs : List (Nat × Nat)}
    (hruns : s.cat.runs x (s.cat.inStepOf x i) = runs) (h : runs ≠ []) :
    s.ckptQueue x i =
      { s.modCkpt fun c => c.put i (.pages runs.length) with
        nextId := s.nextId + runs.length
        offers := s.offers ++ runs.zipIdx.map fun p =>
          { drive := catDrive i
            op := { id := s.nextId + p.2, cls := .bulk, kind := .areaWrite, first := s.cat.geo.slotSector x + 1 + p.1.1
                    count := p.1.2, owner := .checkpoint, payload := s.cat.pagesBytes p.1.1 p.1.2 } } } := by
  have hempty : (s.cat.runs x (s.cat.inStepOf x i)).isEmpty = false := by rw [hruns]; simpa using h
  subst hruns
  refine Eq.trans ?_ (State.foldl_offer (catDrive i) .bulk .areaWrite (fun k r => k.geo.slotSector x + 1 + r.1) Prod.snd .checkpoint
    (fun k r => k.pagesBytes r.1 r.2) _ (s.modCkpt fun c => c.put i (.pages (s.cat.runs x (s.cat.inStepOf x i)).length)))
  cases x with
  | a => exact if_neg (Bool.eq_false_iff.mp hempty)
  | b => exact if_neg (Bool.eq_false_iff.mp hempty)

theorem State.mayHold_first {s : State} {o : HoldOwner} {l : List HoldOwner} (hhold : s.engine.hold = none)
    (hqueue : s.engine.holdQueue = o :: l) : s.mayHold o = true := by
  simp [State.mayHold, hhold, hqueue]

/-! ## The end of a checkpoint -/

section
variable {u : State} (hhold : u.engine.hold = some .checkpoint) (hckpt : u.engine.ckpt = none) (hqueue : u.engine.holdQueue = [])
  (hheld : u.engine.held = []) (hqueued : u.engine.queued = none)

include hhold hckpt hqueue hheld in
theorem State.dropStaleHold_checkpoint : u.dropStaleHold = { u with engine := { u.engine with hold := none } } := by
  simp only [State.dropStaleHold, hhold, hckpt, Option.isNone_none, if_true, State.releaseHold, hqueue, State.drainHeld, State.modEngine,
    hheld, List.foldl_nil]

include hqueued in
theorem State.startQueued_none : u.startQueued = u := by
  simp only [State.startQueued, hqueued]
  cases u.engine.ckpt <;> rfl

theorem State.dropStaleHold_free (hfree : u.engine.hold = none) (hq : u.engine.holdQueue = []) : u.dropStaleHold = u := by
  simp only [State.dropStaleHold, hfree, State.mayHold, hq]
  rfl

/-- A checkpoint that a job alone asked for ends: the hold is released with nothing held, and CHECKPOINT reports (R113 to R115). -/
theorem State.endCkpt_job {s : State} {j : Job} {c : Ckpt} (hjob : s.job j.id = some j) (hreqs : c.reqs = [.job j.id])
    (hwriting : c.writing = true) (hhold : s.engine.hold = some .checkpoint) (hqueue : s.engine.holdQueue = [])
    (hheld : s.engine.held = []) (hqueued : s.engine.queued = none) {ok : Bool} (hok : (c.d0 == .completed || c.d1 == .completed) = ok) {k : Cat}
    (hk : (if ok then s.cat.checkpointed c else s.cat) = k) :
    s.endCkpt c =
      State.complete { s with cat := k, engine := { s.engine with ckpt := none, hold := none } } j.id
        { status := if ok then .ok else .checkpointFailed, aux := c.target.code, w0 := k.generation.setWidth 32
          w1 := (k.generation >>> 32).setWidth 32, w2 := BitVec.ofNat 32 c.mask } := by
  let r : Result :=
    { status := if ok then .ok else .checkpointFailed, aux := c.target.code, w0 := k.generation.setWidth 32
      w1 := (k.generation >>> 32).setWidth 32, w2 := BitVec.ofNat 32 c.mask }
  let t : State := { s with cat := k, engine := { s.engine with ckpt := none } }
  have hqueue' : (s.engine.holdQueue.filter fun o => o != .checkpoint) = s.engine.holdQueue := by rw [hqueue]; rfl
  have hcat : (if ok then s.modCat fun k => k.checkpointed c else s) = { s with cat := k } := by
    cases ok <;> exact congrArg (fun k => { s with cat := k }) hk
  have hjob' : t.job j.id = some j := hjob
  have hreport : t.answerAll c.reqs ok c.mask c.target = t.complete j.id r := by
    rw [hreqs]
    rfl
  let v : State := (t.setPhase j.id (.writingResults r)).emit (.hostWrite (j.record + 48) r.bytes)
  let v₀ : State := { v with engine := { v.engine with hold := none } }
  have hcomplete : t.complete j.id r = v := State.complete_eq hjob' r
  have hdrop : v.dropStaleHold = v₀ := State.dropStaleHold_checkpoint hhold rfl hqueue hheld
  have hstart : v₀.startQueued = v₀ := State.startQueued_none hqueued
  have hfree : v₀.dropStaleHold = v₀ := State.dropStaleHold_free rfl hqueue
  have hend : s.endCkpt c = (((t.answerAll c.reqs ok c.mask c.target).dropStaleHold).startQueued).dropStaleHold := by
    simp only [State.endCkpt, hok, hcat, hwriting, if_true, State.modEngine, hqueue']
    rfl
  rw [hend, hreport, hcomplete, hdrop, hstart, hfree]
  exact (State.complete_eq (s := { t with engine := { t.engine with hold := none } }) hjob r).symm

/-! ## The catalogue of a success -/

theorem Cat.reuseDrive_generation (k : Cat) (d : Fin 4) : (k.reuseDrive d).generation = k.generation := by
  suffices h : ∀ (l : List (Nat × AuRec)) (c : Cat),
      (l.foldl (fun c p => c.setAu d p.1 ((c.au d p.1).reuse c.generation)) c).generation = c.generation from h _ k
  intro l
  induction l with
  | nil => exact fun c => rfl
  | cons p l ih => exact fun c => (ih _).trans (Cat.setAu_generation ..)

/-- Steps 1 to 4 of R113. -/
def Cat.stepped (k : Cat) (c : Ckpt) (both : Bool) : Cat :=
  match c.target with
  | .a => { k with genA := c.gen + 1, marksA := {}, inStepA := #v[true, both], lastTime := c.time }
  | .b => { k with genB := c.gen + 1, marksB := {}, inStepB := #v[true, both], lastTime := c.time }

theorem vector_pair_true (v : Vector Bool 2) : v = #v[true, true] ↔ v[0] = true ∧ v[1] = true := by
  refine ⟨fun h => by subst h; exact ⟨rfl, rfl⟩, fun ⟨h0, h1⟩ => ?_⟩
  ext i hi
  interval_cases i
  · exact h0.trans rfl
  · exact h1.trans rfl

theorem Cat.checkpointed_eq (k : Cat) {c : Ckpt} (hd : c.d0 = .completed) :
    k.checkpointed c =
      (let after := k.stepped c (c.d1 == .completed)
       if after.inStepA = #v[true, true] ∧ after.inStepB = #v[true, true] then drives4.foldl Cat.reuseDrive after else after) := by
  have hall : ∀ x : Cat, x.allInStep = true ↔ x.inStepA = #v[true, true] ∧ x.inStepB = #v[true, true] := fun x => by
    rw [vector_pair_true, vector_pair_true, Cat.allInStep, Bool.and_eq_true, Bool.and_eq_true, Bool.and_eq_true, and_assoc]
  have hsplit : k.checkpointed c =
      if (k.stepped c (c.d1 == .completed)).allInStep then drives4.foldl Cat.reuseDrive (k.stepped c (c.d1 == .completed))
      else k.stepped c (c.d1 == .completed) := by
    obtain ⟨_, d0, _, _, _, target, _, _, _⟩ := c
    obtain rfl : d0 = .completed := hd
    cases target <;> rfl
  exact hsplit.trans (if_congr (hall _) rfl rfl)

theorem Cat.stepped_generation (k : Cat) {c : Ckpt} (both : Bool) (hmax : c.gen.toNat < 2 ^ 64 - 1)
    (hother : (match c.target with | .a => k.genB | .b => k.genA).toNat ≤ c.gen.toNat) : (k.stepped c both).generation = c.gen + 1 := by
  have hnext : (c.gen + 1).toNat = c.gen.toNat + 1 := by bv_omega
  rw [Cat.stepped]
  cases ht : c.target with
  | a =>
    rw [ht] at hother
    exact if_neg (by simp only at hother ⊢; omega)
  | b =>
    rw [ht] at hother
    exact if_pos (by simp only at hother ⊢; omega)

theorem Cat.checkpointed_generation (k : Cat) {c : Ckpt} (hd : c.d0 = .completed) (hmax : c.gen.toNat < 2 ^ 64 - 1)
    (hother : (match c.target with | .a => k.genB | .b => k.genA).toNat ≤ c.gen.toNat) : (k.checkpointed c).generation = c.gen + 1 := by
  rw [Cat.checkpointed_eq k hd]
  simp only
  split
  · simp only [drives4, List.foldl_cons, List.foldl_nil, Cat.reuseDrive_generation]
    exact Cat.stepped_generation k _ hmax hother
  · exact Cat.stepped_generation k _ hmax hother

end

/-! ## A drive fails the checkpoint -/

theorem Drive.withdraw_none (x : Drive) {p : Op → Bool} (hp : ∀ o, p o = false) : x.withdraw p = x := by
  have hops : ∀ l : List Op, ((l.filter fun o => !p o || x.port.segment == some o.id).map fun o => if p o then { o with withdrawn := true } else o)
      = l := fun l => by simp [hp]
  have hroom : (x.room.filter fun o => !p o) = x.room := by simp [hp]
  rw [Drive.withdraw]
  simp only [hops, hroom]

theorem Drive.withdraw_empty {x : Drive} (hops : x.ops = []) (hroom : x.room = []) (p : Op → Bool) : x.withdraw p = x := by
  obtain ⟨⟩ := x
  subst hops hroom
  rfl

theorem State.ckptFailDrive_empty {s : State} {i : Fin 2} (hoffers : s.offers = []) (hops : s.drives[catDrive i].ops = [])
    (hroom : s.drives[catDrive i].room = []) : s.ckptFailDrive i = s.modCkpt fun c => c.put i .failed := by
  let p : Fin 4 → Op → Bool := fun d o => d == catDrive i && o.owner == .checkpoint
  have hdrives : (Vector.ofFn fun d => s.drives[d].withdraw (p d)) = s.drives := by
    have hsame : ∀ d : Fin 4, s.drives[d].withdraw (p d) = s.drives[d] := fun d => by
      by_cases hd : d = catDrive i
      · subst hd
        exact Drive.withdraw_empty hops hroom _
      · exact Drive.withdraw_none _ fun o => by simp [p, hd]
    simp only [hsame]
    exact vector_ofFn_map s.drives id |>.trans (Vector.map_id _)
  have hlist : (s.offers.filter fun f => !p f.drive f.op) = s.offers := by rw [hoffers]; rfl
  change { s.modCkpt (fun c => c.put i .failed) with
    drives := Vector.ofFn fun d => s.drives[d].withdraw (p d), offers := s.offers.filter fun f => !p f.drive f.op } = _
  rw [hdrives, hlist]
  rfl

section
variable {s : State} {c : Ckpt} (h : s.engine.ckpt = some c)
include h

theorem State.ckptCheck_busy (hw : c.writing = true) (hb : (c.d0.busy || c.d1.busy) = true) : s.ckptCheck = s := by
  simp only [State.ckptCheck, h, hw, if_true, hb]

theorem State.ckptCheck_ends (hw : c.writing = true) (hb : (c.d0.busy || c.d1.busy) = false) : s.ckptCheck = s.endCkpt c := by
  simp only [State.ckptCheck, h, hw, if_true, hb, Bool.false_eq_true, if_false]

theorem State.ckptOp_done {i : Fin 2} (hb : (c.at i).busy = true) (data : List Byte) : s.ckptOp i (.done data) = s.ckptAdvance c i := by
  simp only [State.ckptOp, h, hb, Bool.not_true, Bool.false_eq_true, if_false]

theorem State.ckptOp_error {i : Fin 2} (hb : (c.at i).busy = true) (media : Bool) : s.ckptOp i (.error media) = s.ckptFailDrive i := by
  simp only [State.ckptOp, h, hb, Bool.not_true, Bool.false_eq_true, if_false]

theorem State.modCkpt_some (f : Ckpt → Ckpt) : s.modCkpt f = { s with engine := { s.engine with ckpt := some (f c) } } := by
  rw [State.modCkpt, State.modEngine, h, Option.map_some]

end

/-- Settles O41. -/
theorem checkpointBegins : Obligations.CheckpointBegins := by
  refine ⟨fun s j hj hreq => ?request, fun s c l hp hckpt hasked hwriting h0 h1 hhold hqueue hl => ?begins,
    fun s j c o again hj hckpt hwriting hreqs hd1 hoffers => ?answer, fun k d e a hk => Cat.au_reuseDrive hk d e a⟩
  case request =>
    obtain ⟨hp, hd, hjob⟩ := hj
    have hm : s.mute.dispatched 0 = some j := hd
    obtain ⟨id, chain, rec, notify, req, phase, fails⟩ := j
    obtain rfl : req = .checkpoint := hreq
    have hrow := run_ends (exec_checkpoint s) hp
    simp only [hm] at hrow
    refine ⟨fun hst => ?_, fun hst hckpt hqueued hdrives => ?_, fun hst hckpt hqueued => ?_⟩
    · exact Ends.of_eq hrow ((if_pos hst).trans (State.complete_reports hjob _))
    · have hprepared : ∀ i : Fin 2, (s.mute.setPhase id .checkpointing).ckptStep [.job id] i = .prepared := fun i =>
        State.ckptStep_prepared (s := s.mute.setPhase id .checkpointing)
          (State.ckptTries_job (s := s.mute.setPhase id .checkpointing) (hdrives i).1 (hdrives i).2.1) (hdrives i).2.2
      have hbegin : (s.mute.setPhase id .checkpointing).requestCkpt (.job id) = (s.mute.setPhase id .checkpointing).beginCkpt [.job id] := by
        have hckpt' : (s.mute.setPhase id .checkpointing).engine.ckpt = none := hckpt
        have hqueued' : (s.mute.setPhase id .checkpointing).engine.queued = none := hqueued
        simp only [State.requestCkpt, hckpt', hqueued']
        exact if_neg fun h => h hst
      refine Ends.of_eq hrow ((if_neg fun h => h hst).trans ?_)
      rw [hbegin, State.beginCkpt_prepared (hprepared 0) (hprepared 1)]
      rfl
    · obtain ⟨c, hc⟩ := Option.isSome_iff_exists.mp hckpt
      have hjoin : (s.mute.setPhase id .checkpointing).requestCkpt (.job id) =
          (s.mute.setPhase id .checkpointing).modEngine fun e => { e with queued := some [.job id] } := by
        have hckpt' : (s.mute.setPhase id .checkpointing).engine.ckpt = some c := hc
        have hqueued' : (s.mute.setPhase id .checkpointing).engine.queued = none := hqueued
        simp only [State.requestCkpt, hckpt', hqueued']
        exact if_neg fun h => h hst
      refine Ends.of_eq hrow ((if_neg fun h => h hst).trans ?_)
      rw [hjoin]
      rfl
  case begins =>
    intro x runs begun hruns
    have hmay : s.mute.ckptMayHold c = true := by
      simp [State.ckptMayHold, State.mayHold_first (s := s.mute) hhold hqueue, hasked, hwriting]
    have hleft : (s.mute.engine.holdQueue.filter fun o => o != .checkpoint) = l := by
      have hqueue' : s.mute.engine.holdQueue = .checkpoint :: l := hqueue
      rw [hqueue', List.filter_cons_of_neg (by decide)]
      exact List.filter_eq_self.mpr fun o ho => by simpa using hl o ho
    have hckpt' : s.mute.engine.ckpt = some c := hckpt
    have hfixed : (s.mute.ckptTakeHold.modCkpt fun c =>
        { c with writing := true, target := x, gen := s.cat.generation, crc := s.cat.imageCrc, time := s.stamp }) =
        { s.mute with engine := { s.engine with hold := some .checkpoint, holdQueue := l, ckpt := some begun } } := by
      simp only [State.modCkpt, State.modEngine, State.ckptTakeHold, hleft, hckpt', Option.map_some]
      rfl
    refine run_ends_of (exec_checkpointImageWriteBegin s) hp ?_
    simp only [hckpt', hmay, if_true]
    refine (if_neg (by rw [h1]; decide)).trans ((if_pos h0).trans ((congrArg (fun t : State => t.ckptQueue x 0) hfixed).trans ?_))
    exact State.ckptQueue_runs (i := 0) (runs := runs) rfl hruns
  case answer =>
    intro x hops hroom howner hkind hw hport idle
    obtain ⟨hp, hjob⟩ := hj
    have hlast : o.segments ≤ o.segsDone + 1 := by
      have hone : o.segments = 1 := by simp only [Op.segments, hkind]
      omega
    let t : State := s.mute.opLeft 0
    have ht : t.engine.ckpt = some c := hckpt
    have hjob' : t.job j.id = some j := hjob
    have hhand : ∀ (p : Op) (r : OpOutcome), p.kind = .flush → p.owner = .checkpoint → t.hand 0 p r = (t.ckptOp 0 r).ckptCheck := by
      intro p r hkind howner
      obtain ⟨id, cls, kind, first, count, owner, payload, st, segsDone, data, withdrawn⟩ := p
      obtain rfl : kind = .flush := hkind
      obtain rfl : owner = .checkpoint := howner
      rfl
    have hkind' : o.kind ≠ .tempPoll := by rw [hkind]; exact nofun
    refine ⟨fun data v hd0 => ?header, fun hd0 hhold hqueue hheld hqueued => ⟨fun data v hmax hother => ?succeeds, fun hd1' => ?fails⟩⟩
    case header =>
      have hop : t.ckptOp 0 (.done (o.data ++ data)) =
          State.offer { t with engine := { t.engine with ckpt := some { c with d0 := .header } } } 0 .bulk .areaWrite
            (s.cat.geo.slotSector c.target) 1 .checkpoint (s.cat.header (c.gen + 1) c.crc c.time).sector := by
        rw [State.ckptOp_done ht (by simp [Ckpt.at, hd0, CkptStep.busy])]
        simp only [State.ckptAdvance, Ckpt.at, if_true, hd0, State.modCkpt_some ht]
        rfl
      have hcheck : (t.ckptOp 0 (.done (o.data ++ data))).ckptCheck = t.ckptOp 0 (.done (o.data ++ data)) := by
        rw [hop]
        exact State.ckptCheck_busy (c := { c with d0 := .header }) rfl hwriting rfl
      have hends := onlyOp_done_ends hp hops hw hport (t := t.ckptOp 0 (.done (o.data ++ data))) (by rw [hop]; rfl) hkind' hlast
        (data := data) (v := v) ((hhand _ _ hkind howner).trans hcheck)
      refine Ends.of_eq hends (congrArg State.settle ?_)
      rw [hop]
      have hnone : t.offers = [] := hoffers
      simp only [State.offer, hnone, List.nil_append]
      rfl
    case succeeds =>
      intro both after
      let d : Ckpt := { c with d0 := .completed }
      let u : State := { t with engine := { t.engine with ckpt := some d } }
      have hop : t.ckptOp 0 (.done (o.data ++ data)) = u := by
        rw [State.ckptOp_done ht (by simp [Ckpt.at, hd0, CkptStep.busy])]
        simp only [State.ckptAdvance, Ckpt.at, if_true, hd0, State.modCkpt_some ht]
        rfl
      have hidle : (d.d0.busy || d.d1.busy) = false := by
        obtain h | h := hd1 <;> simp [d, h, CkptStep.busy]
      let k : Cat := if after.inStepA = #v[true, true] ∧ after.inStepB = #v[true, true] then drives4.foldl Cat.reuseDrive after else after
      have hstepped : s.cat.stepped d (d.d1 == .completed) = after := by
        obtain ⟨_, _, _, _, _, target, _, _, _⟩ := c
        cases target <;> rfl
      have hk : s.cat.checkpointed d = k := (Cat.checkpointed_eq s.cat (c := d) rfl).trans (by rw [hstepped])
      have hgen : k.generation = c.gen + 1 := hk ▸ Cat.checkpointed_generation _ rfl hmax hother
      have hmask : BitVec.ofNat 32 d.mask = if both = true then 3 else 1 := by
        obtain h | h := hd1 <;> simp [Ckpt.mask, bitOf, d, both, h]
      have hslot : d.target.code = match c.target with | .a => 0 | .b => 1 := by
        obtain ⟨_, _, _, _, _, target, _, _, _⟩ := c
        cases target <;> rfl
      have hend := State.endCkpt_job (s := u) (c := d) hjob' hreqs hwriting hhold hqueue hheld hqueued (ok := true) rfl (k := k) hk
      rw [State.complete_eq (by exact hjob'), hgen, hmask, hslot] at hend
      have hends := onlyOp_done_ends hp hops hw hport (t := u.endCkpt d) (by rw [hend]; rfl) hkind' hlast
        (data := data) (v := v) ((hhand _ _ hkind howner).trans (by rw [hop]; exact State.ckptCheck_ends rfl hwriting hidle))
      rw [hend] at hends
      exact hends
    case fails =>
      let d : Ckpt := { c with d0 := .failed }
      let u : State := { t with engine := { t.engine with ckpt := some d } }
      have hop : t.ckptOp 0 (.error false) = u := by
        have hleft : t.drives[(0 : Fin 4)] = s.drives[(0 : Fin 4)].alone := vector_set_same s.drives 0 _
        have hfail := State.ckptFailDrive_empty (s := t) (i := 0) hoffers (congrArg Drive.ops hleft)
          ((congrArg Drive.room hleft).trans hroom)
        rw [State.ckptOp_error ht (by simp [Ckpt.at, hd0, CkptStep.busy]), hfail, State.modCkpt_some ht]
        rfl
      have hidle : (d.d0.busy || d.d1.busy) = false := by simp [d, hd1', CkptStep.busy]
      have hmask : BitVec.ofNat 32 d.mask = 0 := by simp [Ckpt.mask, bitOf, d, hd1']
      have hok : (d.d0 == .completed || d.d1 == .completed) = false := by simp [d, hd1']
      have hslot : d.target.code = match c.target with | .a => 0 | .b => 1 := by
        obtain ⟨_, _, _, _, _, target, _, _, _⟩ := c
        cases target <;> rfl
      have hend := State.endCkpt_job (s := u) (c := d) hjob' hreqs hwriting hhold hqueue hheld hqueued hok (k := s.cat) rfl
      rw [State.complete_eq (by exact hjob'), hmask, hslot] at hend
      have hends := onlyOp_fails_ends hp hops hw hport (t := u.endCkpt d) (by rw [hend]; rfl)
        ((hhand _ _ hkind howner).trans (by rw [hop]; exact State.ckptCheck_ends rfl hwriting hidle))
      rw [hend] at hends
      exact hends

end Sys2Proof.Machine

/-! # The drives settle (R126 to R129, R141 to R150)

`settle` is a row of passes, each over the four drives. Where a pass finds nothing to do on three of them it is the pass over the fourth;
at rest it finds nothing to do at all. -/

namespace Sys2Proof.Machine

/-! ## Passes over the drives -/

theorem foldl_drives4_stays {F : State → Fin 4 → State} {s : State} (h : ∀ d, F s d = s) : drives4.foldl F s = s := foldl_stays _ h

/-- A pass that finds nothing to do on the other drives, before and after it has looked at drive `d`. -/
theorem foldl_drives4_one {F : State → Fin 4 → State} {s t : State} (d : Fin 4) (hd : F s d = t) (hs : ∀ e, e ≠ d → F s e = s)
    (ht : ∀ e, e ≠ d → F t e = t) : drives4.foldl F s = t := by
  simp only [drives4, List.foldl_cons, List.foldl_nil]
  fin_cases d
  · rw [show F s 0 = t from hd, ht 1 (by decide), ht 2 (by decide), ht 3 (by decide)]
  · rw [hs 0 (by decide), show F s 1 = t from hd, ht 2 (by decide), ht 3 (by decide)]
  · rw [hs 0 (by decide), hs 1 (by decide), show F s 2 = t from hd, ht 3 (by decide)]
  · rw [hs 0 (by decide), hs 1 (by decide), hs 2 (by decide), show F s 3 = t from hd]

/-- Nothing to issue: a busy port, or an idle one whose drive has no WAKE, STANDBY, start-up command or operation to send. -/
def Drive.issuesNone (x : Drive) : Prop :=
  x.port ≠ .idle
    ∨ (x.power = .starting → x.wakeAsked = false) ∧ (x.power = .stopping → x.standbyAsked = false)
      ∧ (x.power = .ready → x.startup = none ∧ x.ops = [])

section
variable {s : State} {d : Fin 4}

theorem State.issueNext_empty (h : s.drives[d].ops = []) : s.issueNext d = s := by
  simp only [State.issueNext, Drive.choose, Drive.nextInteractive, Drive.nextOther, h, List.find?_nil]

theorem State.kickPort_none (h : s.drives[d].issuesNone) : s.kickPort d = s := by
  obtain h | ⟨hwake, hstandby, hready⟩ := h
  · exact State.kickPort_busy h
  · have h1 : ¬(s.drives[d].power = .starting ∧ s.drives[d].wakeAsked = true) := fun ⟨hp, hw⟩ => by
      rw [hwake hp] at hw
      cases hw
    have h2 : ¬(s.drives[d].power = .stopping ∧ s.drives[d].standbyAsked = true) := fun ⟨hp, hw⟩ => by
      rw [hstandby hp] at hw
      cases hw
    simp only [State.kickPort, h1, h2, if_false]
    split
    · rfl
    · split
      · rename_i hp
        simp only [(hready hp).1, State.issueNext_empty (hready hp).2]
      · rfl

theorem State.kickAll_none (h : ∀ d : Fin 4, s.drives[d].issuesNone) : s.kickAll = s :=
  foldl_drives4_stays fun d => State.kickPort_none (h d)

theorem State.parkPass_none (hpark : s.drives[d].park = none) (hheld : s.drives[d].idleHeld = false) : s.parkPass d = s := by
  simp only [State.parkPass, hpark, hheld, Bool.not_false, if_true]

theorem State.syncRequest_none (hr : s.reason d = none) (hq : ∀ r ∈ s.startQueue, r.drive ≠ d) : s.syncRequest d = s := by
  have hrest : (s.startQueue.filter fun r => r.drive != d) = s.startQueue :=
    List.filter_eq_self.mpr fun r hr => by simpa using hq r hr
  simp only [State.syncRequest, hr, hrest]

end

theorem State.jobPass_still {s : State} {j : Job} (h : j.phase.waitsOnDrive = false) : s.jobPass j = s := by
  obtain ⟨id, chain, rec, notify, req, phase, fails⟩ := j
  cases phase <;> try rfl
  case starting d => cases h
  case parking d a => cases h
  case adopting w =>
    have hstage : w.stage ≠ .starting := by simpa [JobPhase.waitsOnDrive] using h
    exact if_pos hstage
  case resyncing d g =>
    cases g with
    | starting => cases h
    | _ => rfl
  case formatting w =>
    have hwriting : w.writing = true := by simpa [JobPhase.waitsOnDrive] using h
    exact if_pos hwriting

theorem State.jobs_still {s : State} (h : ∀ j ∈ s.jobs, j.phase.waitsOnDrive = false) : s.jobs.foldl State.jobPass s = s := by
  have hl : ∀ l : List Job, (∀ j ∈ l, j.phase.waitsOnDrive = false) → l.foldl State.jobPass s = s := by
    intro l
    induction l with
    | nil => exact fun _ => rfl
    | cons j l ih =>
      intro hj
      rw [List.foldl_cons, State.jobPass_still (hj j List.mem_cons_self), ih fun k hk => hj k (List.mem_cons_of_mem _ hk)]
  exact hl _ h

/-- The timers that follow the drives' states, the last of the passes (R149, R175, R176). -/
def State.withTimers (s : State) : State := { s with drives := Vector.ofFn fun d => s.drives[d].timers s.cfg.drive[d].idlePark }

/-- The passes of `settle` one by one, where no operation ends NOT_READY and nobody waits for room, for a drive or for a host-area
copy. -/
theorem State.settle_passes {s a b c e f g : State} (hend : ∀ d, s.endNotReady d = s) (hroom : ∀ d : Fin 4, s.drives[d].room = [])
    (ha : s.kickAll = a) (hb : drives4.foldl State.parkPass a = b) (hc : b.kickAll = c)
    (hjobs : ∀ j ∈ c.jobs, j.phase.waitsOnDrive = false) (hcopy : c.engine.hostCopy = none) (he : c.syncQueue = e)
    (hf : State.grantLoop 4 e = f) (hg : f.kickAll = g) :
    s.settle = g.withTimers := by
  have hfill : (s.drives.map fun (x : Drive) => fillRoom x.room.length x) = s.drives := by
    ext i hi
    have hi' := hroom ⟨i, hi⟩
    simp only [Fin.getElem_fin] at hi'
    rw [Vector.getElem_map, hi']
    rfl
  have hkick : c.copyKick = c := by simp only [State.copyKick, hcopy]
  have hsettle : ∀ t u : State, drives4.foldl State.endNotReady s = t →
      ({ t with drives := t.drives.map fun (x : Drive) => fillRoom x.room.length x } : State).kickAll = u →
      s.settle = ((State.grantLoop 4 (State.copyKick (List.foldl State.jobPass ((drives4.foldl State.parkPass u).kickAll)
        (drives4.foldl State.parkPass u).kickAll.jobs)).syncQueue).kickAll).withTimers := by
    rintro _ _ rfl rfl
    rfl
  rw [hsettle s a (foldl_drives4_stays hend) (by rw [hfill]; exact ha), hb, hc, State.jobs_still hjobs, hkick, he, hf, hg]

/-! ## At rest -/

theorem Drive.resting.issuesNone {x : Drive} {p : Nat} (h : x.resting p) : x.issuesNone := by
  obtain ⟨hops, -, -, -, -, -, hstarting, hstopping, hready, -⟩ := h
  exact .inr ⟨fun h => absurd h hstarting, fun h => absurd h hstopping, fun h => ⟨hready h, hops⟩⟩

theorem Drive.reason_none {x : Drive} (hops : x.ops = []) (hdemands : x.demands = []) : x.reason = none := by
  simp [Drive.reason, Drive.workClass, hops, hdemands]

theorem State.reason_none {s : State} {d : Fin 4} (h : s.drives[d].reason = none) (hckpt : s.drives[d].ckptOnly.reason = none) :
    s.reason d = none := by
  simp only [State.reason, h, hckpt, ite_self]

theorem State.reason_idle {s : State} {d : Fin 4} (hops : s.drives[d].ops = []) (hdemands : s.drives[d].demands = []) :
    s.reason d = none := by
  refine State.reason_none (Drive.reason_none hops hdemands) (Drive.reason_none ?_ ?_)
  · rw [Drive.ckptOnly, hops]
    rfl
  · rw [Drive.ckptOnly, hdemands]
    rfl

/-- A drive that is neither UNPOWERED nor PARKED asks for no start (R141). -/
theorem State.reason_powered {s : State} {d : Fin 4} (hu : s.drives[d].power ≠ .unpowered) (hp : s.drives[d].power ≠ .parked) :
    s.reason d = none :=
  State.reason_none (if_neg fun h => h.1.elim hu hp) (if_neg fun h => h.1.elim hu hp)

section
variable {s : State} (h : s.resting)
include h

theorem State.resting_settles : s.settle = s := by
  obtain ⟨hdrives, hqueue, hcopy, hjobs⟩ := h
  have hkick : s.kickAll = s := State.kickAll_none fun d => (hdrives d).issuesNone
  have hpark : drives4.foldl State.parkPass s = s := foldl_drives4_stays fun d => by
    obtain ⟨-, -, -, hpark, hheld, -⟩ := hdrives d
    exact State.parkPass_none hpark hheld
  have hsync : s.syncQueue = s := foldl_drives4_stays fun d => by
    obtain ⟨hops, -, hdemands, -⟩ := hdrives d
    exact State.syncRequest_none (State.reason_idle hops hdemands) (by rw [hqueue]; exact nofun)
  have htimers : (Vector.ofFn fun d => s.drives[d].timers s.cfg.drive[d].idlePark) = s.drives := by
    have hsame : ∀ d : Fin 4, s.drives[d].timers s.cfg.drive[d].idlePark = s.drives[d] := fun d => by
      obtain ⟨-, -, -, -, -, -, -, -, -, htimers⟩ := hdrives d
      exact htimers
    simp only [hsame]
    exact (vector_ofFn_map s.drives id).trans (Vector.map_id _)
  have hpasses := State.settle_passes (fun d => State.endNotReady_empty ⟨(hdrives d).1, (hdrives d).2.1⟩) (fun d => (hdrives d).2.1)
    hkick hpark hkick hjobs hcopy hsync (State.grantLoop_empty 4 hqueue) hkick
  rw [hpasses, State.withTimers, htimers]

/-! ## One drive that does not rest -/

/-- One drive of a resting state changed. -/
def State.withDrive (s : State) (d : Fin 4) (y : Drive) : State := { s with drives := s.drives.set d y }

omit h in
theorem State.withDrive_same (d : Fin 4) (y : Drive) : (s.withDrive d y).drives[d] = y := vector_set_same s.drives d y

omit h in
theorem State.withDrive_other {d e : Fin 4} (he : e ≠ d) (y : Drive) : (s.withDrive d y).drives[e] = s.drives[e] :=
  vector_set_other s.drives he y

omit h in
theorem forall_drives {P : Drive → Prop} {v : Vector Drive 4} {d : Fin 4} {y : Drive} (hy : P y) (hs : ∀ e, e ≠ d → P v[e]) :
    ∀ e : Fin 4, P (v.set d y)[e] := fun e => by
  by_cases he : e = d
  · rw [he, vector_set_same]
    exact hy
  · rw [vector_set_other v he]
    exact hs e he

theorem State.resting.kickAll {t : State} {d : Fin 4} {y : Drive} (ht : t.drives = s.drives.set d y) (hy : y.issuesNone) : t.kickAll = t :=
  State.kickAll_none (by rw [ht]; exact forall_drives hy fun e _ => (h.1 e).issuesNone)

theorem State.resting.parkPass {t : State} {d e : Fin 4} {y : Drive} (ht : t.drives = s.drives.set d y) (he : e ≠ d) : t.parkPass e = t := by
  obtain ⟨-, -, -, hpark, hheld, -⟩ := h.1 e
  have hsame : t.drives[e] = s.drives[e] := by rw [ht, vector_set_other s.drives he]
  exact State.parkPass_none (by rw [hsame]; exact hpark) (by rw [hsame]; exact hheld)

theorem State.resting.parkPasses {t : State} {d : Fin 4} {y : Drive} (ht : t.drives = s.drives.set d y) (hpark : y.park = none)
    (hheld : y.idleHeld = false) : drives4.foldl State.parkPass t = t := by
  have hsame : t.drives[d] = y := by rw [ht, vector_set_same]
  have hd : t.parkPass d = t := State.parkPass_none (by rw [hsame]; exact hpark) (by rw [hsame]; exact hheld)
  exact foldl_drives4_one d hd (fun e he => h.parkPass ht he) fun e he => h.parkPass ht he

theorem State.resting.syncRequest {t : State} {d e : Fin 4} {y : Drive} (ht : t.drives = s.drives.set d y) (he : e ≠ d)
    (hq : ∀ r ∈ t.startQueue, r.drive = d) : t.syncRequest e = t := by
  obtain ⟨hops, -, hdemands, -⟩ := h.1 e
  have hsame : t.drives[e] = s.drives[e] := by rw [ht, vector_set_other s.drives he]
  exact State.syncRequest_none (State.reason_idle (by rw [hsame]; exact hops) (by rw [hsame]; exact hdemands)) fun r hr hd =>
    he (hd.symm.trans (hq r hr))

/-- A drive without a request to make leaves the start queue empty. -/
theorem State.resting.syncQueue {t : State} {d : Fin 4} {y : Drive} (ht : t.drives = s.drives.set d y) (hq : t.startQueue = [])
    (hr : t.reason d = none) : t.syncQueue = t :=
  foldl_drives4_one d (State.syncRequest_none hr (by rw [hq]; exact nofun)) (fun e he => h.syncRequest ht he (by rw [hq]; exact nofun))
    fun e he => h.syncRequest ht he (by rw [hq]; exact nofun)

theorem State.resting.withTimers {t : State} {d : Fin 4} {y : Drive} (ht : t.drives = s.drives.set d y) (hcfg : t.cfg = s.cfg) :
    t.withTimers = { t with drives := s.drives.set d (y.timers s.cfg.drive[d].idlePark) } := by
  have htimers : (Vector.ofFn fun e => t.drives[e].timers t.cfg.drive[e].idlePark) = s.drives.set d (y.timers s.cfg.drive[d].idlePark) := by
    ext i hi : 1
    have hone : ∀ e : Fin 4, t.drives[e].timers t.cfg.drive[e].idlePark = (s.drives.set d (y.timers s.cfg.drive[d].idlePark))[e] := by
      intro e
      rw [ht, hcfg]
      by_cases he : e = d
      · rw [he, vector_set_same, vector_set_same]
      · obtain ⟨-, -, -, -, -, -, -, -, -, htimers⟩ := h.1 e
        rw [vector_set_other s.drives he, vector_set_other s.drives he, htimers]
    rw [Vector.getElem_ofFn]
    exact hone ⟨i, hi⟩
  rw [State.withTimers, htimers]

/-- The passes over a resting state with one drive changed, which has no operation that could end NOT_READY. -/
theorem State.resting.passes {d : Fin 4} {y y' : Drive} {b c f g : State} (hend : (s.withDrive d y).endNotReady d = s.withDrive d y)
    (hroom : y.room = []) {a : State} (ha : (s.withDrive d y).kickPort d = a) (hak : ∀ e, e ≠ d → a.kickPort e = a)
    (hb : drives4.foldl State.parkPass a = b) (hc : b.kickAll = c) (hjobs : c.jobs = s.jobs) (hcopy : c.engine.hostCopy = none)
    (hf : State.grantLoop 4 c.syncQueue = f) (hg : f.kickAll = g) (hdrives : g.drives = s.drives.set d y') (hcfg : g.cfg = s.cfg) :
    (s.withDrive d y).settle = { g with drives := s.drives.set d (y'.timers s.cfg.drive[d].idlePark) } := by
  have hstill : ∀ e, e ≠ d → (s.withDrive d y).endNotReady e = s.withDrive d y := fun e he =>
    State.endNotReady_empty (by rw [State.withDrive_other he]; exact ⟨(h.1 e).1, (h.1 e).2.1⟩)
  have hends : ∀ e, (s.withDrive d y).endNotReady e = s.withDrive d y := fun e => by
    by_cases he : e = d
    · rw [he]
      exact hend
    · exact hstill e he
  have hkick : (s.withDrive d y).kickAll = a :=
    foldl_drives4_one d ha (fun e he => State.kickPort_none (by rw [State.withDrive_other he]; exact (h.1 e).issuesNone)) hak
  have hpasses := State.settle_passes hends (forall_drives (P := fun x => x.room = []) hroom fun e _ => (h.1 e).2.1) hkick hb hc
    (by rw [hjobs]; exact h.2.2.2) hcopy rfl hf hg
  rw [hpasses]
  exact h.withTimers hdrives hcfg

end

/-! ## What the page shows of a drive -/

/-- A drive without fields that the page shows nothing of. -/
def Drive.shown (x : Drive) : Drive :=
  { x with
    startTimer := none, demands := [], idleHeld := false, railGrace := none, ops := [], room := [], credit := 0, port := .idle
    startup := none, noAnswer := 0, decay := none }

theorem State.pageFields_shown (s : State) : s.pageFields = State.pageFields { s with drives := s.drives.map Drive.shown } := by
  have hone : ∀ d : Fin 4, (s.drives.map Drive.shown)[d] = s.drives[d].shown := fun d => by simp
  have hdrive : ∀ d : Fin 4, driveFields { s with drives := s.drives.map Drive.shown } d = driveFields s d := fun d => by
    simp only [driveFields, State.membership, hone]
    rfl
  simp only [State.pageFields, hdrive, Vector.getElem_map]
  rfl

theorem State.stage_withDrive {s : State} {d : Fin 4} {y : Drive} (hy : y.shown = s.drives[d].shown) (q : List StartReq) (n : Nat) :
    State.stage { s.withDrive d y with startQueue := q, nextId := n } = s.stage := by
  have hmap : (s.drives.set d y).map Drive.shown = s.drives.map Drive.shown := by
    ext i hi : 1
    have hone : ∀ e : Fin 4, (s.drives.set d y)[e].shown = s.drives[e].shown := fun e => by
      by_cases he : e = d
      · rw [he, vector_set_same]
        exact hy
      · rw [vector_set_other s.drives he]
    rw [Vector.getElem_map, Vector.getElem_map]
    exact hone ⟨i, hi⟩
  have hfields : State.pageFields { s.withDrive d y with startQueue := q, nextId := n } = s.pageFields := by
    rw [State.pageFields_shown, s.pageFields_shown]
    exact congrArg (fun v => State.pageFields { s with drives := v, startQueue := q, nextId := n }) hmap
  rw [State.stage, State.stage, hfields]
  rfl

end Sys2Proof.Machine

/-! # What settling does to one drive of a resting part, and streams at rest -/

namespace Sys2Proof.Machine

/-! ## Timers -/

theorem Drive.timers_down {x : Drive} (hp : x.power ≠ .ready) (p : Nat) :
    x.timers p = { x with idleCond := false, idle := none, poll := none, hotGrace := none } := by
  have hserving : x.serving = false := by simp [Drive.serving, hp]
  simp [Drive.timers, hserving, hp]

theorem Drive.timers_quiet {x : Drive} (hp : x.power ≠ .ready) (hcond : x.idleCond = false) (hidle : x.idle = none) (hpoll : x.poll = none)
    (hgrace : x.hotGrace = none) (p : Nat) : x.timers p = x := by
  rw [Drive.timers_down hp]
  obtain ⟨⟩ := x
  subst hcond hidle hpoll hgrace
  rfl

theorem Drive.resting.timers_down {x : Drive} {p : Nat} (h : x.resting p) (hp : x.power ≠ .ready) :
    x.idleCond = false ∧ x.idle = none ∧ x.poll = none ∧ x.hotGrace = none := by
  obtain ⟨-, -, -, -, -, -, -, -, -, htimers⟩ := h
  rw [Drive.timers_down hp] at htimers
  rw [← htimers]
  exact ⟨rfl, rfl, rfl, rfl⟩

/-- The poll timer of a READY drive at rest runs (R175). -/
theorem Drive.resting.poll {x : Drive} {p : Nat} (h : x.resting p) (hp : x.power = .ready) : x.poll.isNone = false := by
  obtain ⟨-, -, -, -, -, -, -, -, hstartup, htimers⟩ := h
  cases hpoll : x.poll with
  | some n => rfl
  | none =>
    have hrun := congrArg Drive.poll htimers
    simp [Drive.timers, hp, hstartup hp, hpoll] at hrun

/-- A READY drive with work on its list has no idle timer (R149). -/
theorem Drive.timers_working {x : Drive} (hp : x.power = .ready) (hpoll : x.poll.isNone = false)
    (hwork : (x.ops.all fun o => o.kind == .tempPoll) = false) (p : Nat) : x.timers p = { x with idleCond := false, idle := none } := by
  simp [Drive.timers, hwork, hp, hpoll]

/-! ## A demand -/

section
variable {s : State} (h : s.resting) {d : Fin 4}
include h

/-- A demand makes the drive's start request (R141). -/
theorem State.resting.syncQueue_asks {b : DemandBy} (hp : s.drives[d].power = .unpowered) (hf : s.drives[d].failed = false)
    (hdown : s.powerDown = false) :
    (s.withDrive d { s.drives[d] with demands := [b] }).syncQueue =
      { s.withDrive d { s.drives[d] with demands := [b] } with
        startQueue := [{ drive := d, cls := .bulk, age := s.nextId }], nextId := s.nextId + 1 } := by
  let y : Drive := { s.drives[d] with demands := [b] }
  have hy : (s.withDrive d y).drives[d] = y := s.withDrive_same d y
  have hq : (s.withDrive d y).startQueue = [] := h.2.1
  have hdown' : (s.withDrive d y).powerDown = false := hdown
  have hyr : y.reason = some .bulk := by
    have hops : y.ops = [] := (h.1 d).1
    have hyp : (y.power = .unpowered ∨ y.power = .parked) ∧ !y.failed := ⟨.inl hp, by simp [show y.failed = false from hf]⟩
    simp only [Drive.reason, hyp, and_self, if_true, Drive.workClass, hops, List.any_nil, Bool.false_eq_true, if_false]
    rfl
  have hreason : (s.withDrive d y).reason d = some .bulk := by
    simp only [State.reason, hdown', Bool.false_eq_true, if_false, hy, hyr]
  have hd : (s.withDrive d y).syncRequest d =
      { s.withDrive d y with startQueue := [{ drive := d, cls := .bulk, age := s.nextId }], nextId := s.nextId + 1 } := by
    simp only [State.syncRequest, hreason, hq, List.find?_nil, List.filter_nil]
    rfl
  refine foldl_drives4_one d hd (fun e he => h.syncRequest rfl he (by rw [hq]; exact nofun)) fun e he => h.syncRequest rfl he ?_
  intro r hr
  rw [List.mem_singleton.mp hr]

theorem State.resting.asks_settles {b : DemandBy} (hp : s.drives[d].power = .unpowered) (hf : s.drives[d].failed = false)
    (hdown : s.powerDown = false) {f g : State} {y' : Drive}
    (hgrant : State.grantLoop 4
      { s.withDrive d { s.drives[d] with demands := [b] } with
        startQueue := [{ drive := d, cls := .bulk, age := s.nextId }], nextId := s.nextId + 1 } = f)
    (hg : f.kickAll = g) (hdrives : g.drives = s.drives.set d y') (hcfg : g.cfg = s.cfg) :
    State.settle { s with drives := s.drives.set d { s.drives[d] with demands := [b] } } =
      { g with drives := s.drives.set d (y'.timers s.cfg.drive[d].idlePark) } := by
  let y : Drive := { s.drives[d] with demands := [b] }
  obtain ⟨hops, hroom, -, hpark, hheld, -⟩ := h.1 d
  have hy : (s.withDrive d y).drives[d] = y := s.withDrive_same d y
  have hnone : y.issuesNone := (h.1 d).issuesNone
  have hkick : (s.withDrive d y).kickAll = s.withDrive d y := h.kickAll rfl hnone
  exact h.passes (y := y) (State.endNotReady_empty (by rw [hy]; exact ⟨hops, hroom⟩)) hroom (State.kickPort_none (by rw [hy]; exact hnone))
    (fun e he => State.kickPort_none (by rw [State.withDrive_other he]; exact (h.1 e).issuesNone)) (h.parkPasses rfl hpark hheld) hkick rfl
    h.2.2.1 ((congrArg (State.grantLoop 4) (h.syncQueue_asks hp hf hdown)).trans hgrant) hg hdrives hcfg

omit h in
/-- The committed draw looks at the power states alone (R143). -/
theorem State.committed_withDrive {y : Drive} (hy : y.power = s.drives[d].power) (q : List StartReq) (n : Nat) :
    State.committed { s.withDrive d y with startQueue := q, nextId := n } = s.committed := by
  have hdraw : ∀ e, State.draw { s.withDrive d y with startQueue := q, nextId := n } e = s.draw e := fun e => by
    by_cases he : e = d
    · subst he
      exact congrArg (fun p => contribution p s.cfg.drive[e]) ((congrArg Drive.power (s.withDrive_same e y)).trans hy)
    · exact congrArg (fun x : Drive => contribution x.power s.cfg.drive[e]) (State.withDrive_other he y)
  rw [State.committed_eq, State.committed_eq, hdraw, hdraw, hdraw, hdraw]

/-! ## A list -/

theorem State.resting.issueNext_settles {l : List Op} {o : Op} (hp : s.drives[d].power = .ready) (hl : ∀ o ∈ l, o.kind ≠ .tempPoll)
    (hchoose : Drive.choose { s.drives[d] with ops := l } = some o) (hmem : o ∈ l) :
    State.settle { s with drives := s.drives.set d { s.drives[d] with ops := l } } =
      { s with
        drives := s.drives.set d
          { s.drives[d] with
            idle := none, idleCond := false, port := .command (.segment o.id) o.command false
            credit := if o.cls = .interactive then s.drives[d].credit - 1 else s.cfg.credit
            ops := l.map fun p =>
              if p.id = o.id then { p with st := .active }
              else if o.cls = .interactive ∧ p.cls ≠ .interactive ∧ p.st = .active then { p with st := .suspended }
              else p }
        out := { s.out with acts := s.out.acts ++ [.port d o.command] } } := by
  let y : Drive := { s.drives[d] with ops := l }
  let z : Drive := { y.issue s.cfg.credit o with port := .command (.segment o.id) o.command false }
  let t : State := { s.withDrive d z with out := { s.out with acts := s.out.acts ++ [.port d o.command] } }
  obtain ⟨-, hroom, -, hpark, hheld, hport, -, -, hstartup, -⟩ := h.1 d
  have hy : (s.withDrive d y).drives[d] = y := s.withDrive_same d y
  have hz : t.drives[d] = z := vector_set_same s.drives d z
  have hbusy : z.issuesNone := .inl nofun
  have hend : (s.withDrive d y).endNotReady d = s.withDrive d y := by
    have hready : (s.withDrive d y).drives[d].power = .ready := by rw [hy]; exact hp
    simp only [State.endNotReady, State.notReadyOps, hready, true_or, if_true, List.isEmpty_nil, Bool.and_self]
  have hissue : (s.withDrive d y).issueNext d = t := by
    have hchoose' : (s.withDrive d y).drives[d].choose = some o := by rw [hy]; exact hchoose
    simp only [State.issueNext, hchoose']
    simp only [State.portIssue, State.modDrive, vector_set_same, Vector.set_set, State.withDrive]
    rfl
  have hkick : (s.withDrive d y).kickPort d = t := by
    have hport' : (s.withDrive d y).drives[d].port = .idle := by rw [hy]; exact hport
    have hready : (s.withDrive d y).drives[d].power = .ready := by rw [hy]; exact hp
    have hstartup' : (s.withDrive d y).drives[d].startup = none := by rw [hy]; exact hstartup hp
    simp only [State.kickPort, hport', hready, hstartup', hissue, ne_eq, not_true, reduceCtorEq, false_and, if_false, if_true]
  have hall : t.kickAll = t := h.kickAll rfl hbusy
  have hsync : State.grantLoop 4 t.syncQueue = t := by
    rw [h.syncQueue (t := t) rfl h.2.1 (State.reason_powered (by rw [hz]; exact fun e => Power.noConfusion (hp.symm.trans e))
      (by rw [hz]; exact fun e => Power.noConfusion (hp.symm.trans e)))]
    exact State.grantLoop_empty 4 h.2.1
  have hpasses := h.passes hend hroom hkick (fun e he => State.kickPort_none
    (by rw [show t.drives[e] = s.drives[e] from State.withDrive_other he z]; exact (h.1 e).issuesNone)) (h.parkPasses rfl hpark hheld) hall rfl
    h.2.2.1 hsync hall (y' := z) rfl rfl
  have htimers : z.timers s.cfg.drive[d].idlePark = { z with idleCond := false, idle := none } := by
    refine Drive.timers_working (x := z) hp ((h.1 d).poll hp) ?_ _
    refine List.all_eq_false.mpr ⟨{ o with st := .active }, ?_, by simpa using hl o hmem⟩
    exact List.mem_map.mpr ⟨o, hmem, if_pos rfl⟩
  rw [htimers] at hpasses
  exact hpasses

end

/-! ## The choice -/

theorem Drive.choose_interactive {x : Drive} {o : Op} (hi : x.nextInteractive = some o)
    (ho : ∀ m, x.nextOther = some m → ¬(x.credit = 0 ∧ x.bulkWaiting m = true)) : x.choose = some o := by
  simp only [Drive.choose, hi]
  cases hm : x.nextOther with
  | none => rfl
  | some m => exact if_neg (ho m hm)

theorem Drive.choose_other {x : Drive} {m : Op} (hm : x.nextOther = some m)
    (hi : x.nextInteractive = none ∨ (x.credit = 0 ∧ x.bulkWaiting m = true)) : x.choose = some m := by
  cases ho : x.nextInteractive with
  | none => simp only [Drive.choose, ho, hm]
  | some o =>
    obtain h | h := hi
    · rw [ho] at h
      cases h
    · simp only [Drive.choose, ho, hm]
      exact if_pos h

theorem Drive.nextInteractive_eq (x : Drive) :
    x.nextInteractive = (x.ops.find? (fun o => o.cls == .interactive && o.st == .active)
      <|> x.ops.find? (fun o => o.cls == .interactive && o.st == .waiting)) := by
  rw [Drive.nextInteractive]
  cases x.ops.find? (fun o => o.cls == .interactive && o.st == .active) <;> rfl

theorem Drive.nextOther_eq (x : Drive) :
    x.nextOther = (x.ops.find? (fun o => o.cls != .interactive && o.st == .suspended)
      <|> x.ops.find? (fun o => o.cls != .interactive && o.st == .active)
      <|> x.ops.find? (fun o => o.cls == .bulk && o.st == .waiting) <|> x.ops.find? (fun o => o.cls == .background && o.st == .waiting)) := by
  rw [Drive.nextOther]
  cases x.ops.find? (fun o => o.cls != .interactive && o.st == .suspended) with
  | some o => rfl
  | none =>
    cases x.ops.find? (fun o => o.cls != .interactive && o.st == .active) with
    | some o => rfl
    | none => cases x.ops.find? (fun o => o.cls == .bulk && o.st == .waiting) <;> rfl

theorem find?_and_some {l : List Op} {p q : Op → Bool} {o : Op} (h : l.find? (fun o => p o && q o) = some o) : o ∈ l ∧ p o = true :=
  ⟨List.mem_of_find?_eq_some h, (Bool.and_eq_true_iff.mp (List.find?_some (p := fun o => p o && q o) h)).1⟩

theorem Drive.nextInteractive_some {x : Drive} {o : Op} (h : x.nextInteractive = some o) : o ∈ x.ops ∧ o.cls = .interactive := by
  have hone : ∀ {q : Op → Bool} {p : Op}, x.ops.find? (fun o => o.cls == .interactive && q o) = some p → p ∈ x.ops ∧ p.cls = .interactive :=
    fun hf => (find?_and_some (p := fun o => o.cls == .interactive) hf).imp_right beq_iff_eq.mp
  rw [Drive.nextInteractive] at h
  split at h
  · rename_i p hp
    obtain rfl := Option.some.inj h
    exact hone hp
  · exact hone h

theorem Drive.nextOther_some {x : Drive} {o : Op} (h : x.nextOther = some o) : o ∈ x.ops ∧ o.cls ≠ .interactive := by
  have hother : ∀ {q : Op → Bool} {p : Op}, x.ops.find? (fun o => o.cls != .interactive && q o) = some p → p ∈ x.ops ∧ p.cls ≠ .interactive :=
    fun hf => (find?_and_some (p := fun o => o.cls != .interactive) hf).imp_right bne_iff_ne.mp
  have hclass : ∀ (c : WorkClass) {q : Op → Bool} {p : Op}, c ≠ .interactive → x.ops.find? (fun o => o.cls == c && q o) = some p →
      p ∈ x.ops ∧ p.cls ≠ .interactive := fun c q p hc hf =>
    (find?_and_some (p := fun o => o.cls == c) hf).imp_right fun he => (show p.cls = c from beq_iff_eq.mp he) ▸ hc
  rw [Drive.nextOther] at h
  split at h
  · rename_i p hp
    obtain rfl := Option.some.inj h
    exact hother hp
  · split at h
    · rename_i p hp
      obtain rfl := Option.some.inj h
      exact hother hp
    · split at h
      · rename_i p hp
        obtain rfl := Option.some.inj h
        exact hclass .bulk nofun hp
      · exact hclass .background nofun h

theorem Drive.bulkWaiting_iff (x : Drive) (m : Op) :
    x.bulkWaiting m = true ↔ m.cls = .bulk ∨ (m.cls = .background ∧ m.st = .suspended ∧ ∃ o ∈ x.ops, o.cls = .bulk ∧ o.st = .waiting) := by
  simp [Drive.bulkWaiting, List.any_eq_true, and_assoc]

/-! ## The start request granted or waiting, and the idle expiry -/

/-- A drive for which one demand is held. -/
def Drive.asking (x : Drive) (b : DemandBy) : Drive := { x with demands := [b] }

/-- A drive whose rail has just been switched on for a start (R145). -/
def Drive.switchedOn (x : Drive) (timeout : Nat) : Drive :=
  { x with power := .starting, fromParked := false, rail := true, startTimer := some timeout, railGrace := none }

/-- A drive that is sent STANDBY after its idle timer (R149, R150). -/
def Drive.standingBy (x : Drive) : Drive :=
  { x with power := .stopping, standbyAsked := true, idle := none, idleHeld := false }

section
variable {s : State} (h : s.resting) {d : Fin 4}

/-- A resting part with the start request that a demand on a drive made. -/
def State.asked (s : State) (d : Fin 4) (b : DemandBy) : State :=
  { s.withDrive d (s.drives[d].asking b) with
    startQueue := [{ drive := d, cls := .bulk, age := s.nextId }], nextId := s.nextId + 1 }

theorem State.asked_fits (hp : s.drives[d].power = .unpowered) (b : DemandBy) :
    (s.asked d b).fits d = true ↔ s.committed + s.cfg.drive[d].spinUp ≤ s.budget := by
  have hdraw : (s.asked d b).draw d = 0 := by
    have hpower : (s.asked d b).drives[d].power = .unpowered := (congrArg Drive.power (s.withDrive_same d _)).trans hp
    rw [State.draw, hpower, contribution]
  have hcommitted : (s.asked d b).committed = s.committed :=
    State.committed_withDrive (y := s.drives[d].asking b) rfl _ _
  have hbudget : (s.asked d b).budget = s.budget := rfl
  have hspin : (s.asked d b).cfg.drive[d].spinUp = s.cfg.drive[d].spinUp := rfl
  rw [State.fits_iff, hcommitted, hdraw, hbudget, hspin]
  omega

/-- A resting part as the start that a demand asked for has been granted (R145). -/
def State.granted (s : State) (d : Fin 4) (b : DemandBy) : State :=
  { s.withDrive d ((s.drives[d].asking b).switchedOn s.cfg.drive[d].startTimeout) with
    startQueue := [], nextId := s.nextId + 1
    out := { s.out with acts := s.out.acts ++ [.rail d true], notes := s.out.notes ++ s.stage } }

theorem State.asked_grant (hp : s.drives[d].power = .unpowered) (b : DemandBy) : (s.asked d b).grant d = s.granted d b := by
  have hd : (s.asked d b).drives[d] = s.drives[d].asking b := s.withDrive_same d _
  have hpower : ¬(s.asked d b).drives[d].power = .parked := by
    rw [hd]
    exact fun hparked => Power.noConfusion (hp.symm.trans hparked)
  have hqueue : ((s.asked d b).startQueue.filter fun r => r.drive != d) = [] := by simp [State.asked]
  have hstage : (s.asked d b).stage = s.stage :=
    State.stage_withDrive (y := s.drives[d].asking b) rfl [{ drive := d, cls := .bulk, age := s.nextId }] (s.nextId + 1)
  have hset : (s.asked d b).drives.set d ((s.asked d b).drives[d].switchedOn s.cfg.drive[d].startTimeout) =
      s.drives.set d ((s.drives[d].asking b).switchedOn s.cfg.drive[d].startTimeout) := by
    rw [hd]
    exact Vector.set_set ..
  rw [State.grant, if_neg hpower, State.note, hstage, hqueue]
  exact congrArg (fun v => { s.granted d b with drives := v }) hset

include h

theorem State.resting.demand_granted {b : DemandBy} (hp : s.drives[d].power = .unpowered) (hf : s.drives[d].failed = false)
    (hwake : s.drives[d].wakeAsked = false) (hdown : s.powerDown = false) (hfit : s.committed + s.cfg.drive[d].spinUp ≤ s.budget) :
    State.settle { s with drives := s.drives.set d (s.drives[d].asking b) } =
      { s with
        drives := s.drives.set d ((s.drives[d].asking b).switchedOn s.cfg.drive[d].startTimeout)
        nextId := s.nextId + 1
        out := { s.out with acts := s.out.acts ++ [.rail d true], notes := s.out.notes ++ s.stage } } := by
  let z : Drive := (s.drives[d].asking b).switchedOn s.cfg.drive[d].startTimeout
  have hloop : State.grantLoop 4 (s.asked d b) = s.granted d b := by
    rw [State.grantLoop_step 3 (s := s.asked d b) (r := { drive := d, cls := .bulk, age := s.nextId }) rfl,
      if_pos ((State.asked_fits hp b).mpr hfit), State.asked_grant hp b]
    exact State.grantLoop_empty 3 rfl
  have hissues : z.issuesNone := .inr ⟨fun _ => hwake, nofun, nofun⟩
  obtain ⟨hcond, hidle, hpoll, hgrace⟩ := (h.1 d).timers_down (by rw [hp]; exact nofun)
  have htimers : z.timers s.cfg.drive[d].idlePark = z := Drive.timers_quiet (x := z) nofun hcond hidle hpoll hgrace _
  have hsettle := h.asks_settles hp hf hdown hloop (h.kickAll (y := z) rfl hissues) (y' := z) rfl rfl
  rw [htimers] at hsettle
  exact hsettle.trans (congrArg (fun q => { s.granted d b with startQueue := q }) h.2.1.symm)

theorem State.resting.demand_waits {b : DemandBy} (hp : s.drives[d].power = .unpowered) (hf : s.drives[d].failed = false)
    (hdown : s.powerDown = false) (habove : s.budget < s.committed + s.cfg.drive[d].spinUp) :
    State.settle { s with drives := s.drives.set d (s.drives[d].asking b) } = s.asked d b := by
  let y : Drive := s.drives[d].asking b
  have hfits : (s.asked d b).fits d = false := by
    rw [← Bool.not_eq_true, State.asked_fits hp b]
    exact Nat.not_le_of_lt habove
  have hloop : State.grantLoop 4 (s.asked d b) = s.asked d b :=
    State.grantLoop_wait 4 (r := { drive := d, cls := .bulk, age := s.nextId }) rfl hfits
  obtain ⟨hcond, hidle, hpoll, hgrace⟩ := (h.1 d).timers_down (by rw [hp]; exact nofun)
  have htimers : y.timers s.cfg.drive[d].idlePark = y :=
    Drive.timers_quiet (x := y) (fun hr => Power.noConfusion (hp.symm.trans hr)) hcond hidle hpoll hgrace _
  have hsettle := h.asks_settles hp hf hdown hloop (h.kickAll (y := y) rfl (h.1 d).issuesNone) (y' := y) rfl rfl
  rw [htimers] at hsettle
  exact hsettle

theorem State.resting.idle_parks (hp : s.drives[d].power = .ready) :
    State.settle { s with drives := s.drives.set d { s.drives[d] with idleHeld := true } } =
      { s with
        drives := s.drives.set d
          { s.drives[d] with
            power := .stopping, port := .command .standby .standby false, standbyAsked := false, idle := none, idleCond := false
            idleHeld := false, poll := none, hotGrace := none }
        out := { s.out with acts := s.out.acts ++ [.port d .standby], notes := s.out.notes ++ s.stage } } := by
  let y : Drive := { s.drives[d] with idleHeld := true }
  let z : Drive := s.drives[d].standingBy
  let z' : Drive := { z with standbyAsked := false, port := .command .standby .standby false }
  let b : State := { s.withDrive d z with out := { s.out with notes := s.out.notes ++ s.stage } }
  let c : State :=
    { s.withDrive d z' with out := { s.out with acts := s.out.acts ++ [.port d .standby], notes := s.out.notes ++ s.stage } }
  obtain ⟨hops, hroom, -, hpark, -, hport, -, -, hstartup, -⟩ := h.1 d
  have hy : (s.withDrive d y).drives[d] = y := s.withDrive_same d y
  have hz : b.drives[d] = z := s.withDrive_same d z
  have hz' : c.drives[d] = z' := s.withDrive_same d z'
  have hnone : y.issuesNone := (h.1 d).issuesNone
  have hstage : (s.withDrive d y).stage = s.stage := State.stage_withDrive (y := y) rfl s.startQueue s.nextId
  have hmake : (s.withDrive d y).makeStandby d = b := by
    have hset : (s.withDrive d y).drives.set d (s.withDrive d y).drives[d].standingBy = s.drives.set d z := by
      rw [hy]
      exact Vector.set_set ..
    rw [State.makeStandby, State.note, hstage]
    exact congrArg (fun v => { b with drives := v }) hset
  have hpass : (s.withDrive d y).parkPass d = b := by
    have hcan : y.canStandby = true := by
      simp only [Drive.canStandby, Drive.serving, Bool.and_eq_true, beq_iff_eq, Option.isNone_iff_eq_none, List.isEmpty_iff]
      exact ⟨⟨⟨hp, hstartup hp⟩, hops⟩, hport⟩
    have hypark : y.park = none := hpark
    have hyops : y.ops = [] := hops
    have hyheld : y.idleHeld = true := rfl
    simp only [State.parkPass, hy, hypark, hyops, hyheld, hcan, List.any_nil, Bool.not_true, Bool.false_eq_true, if_false, if_true, hmake]
  have hsend : b.kickPort d = c := by
    have hzport : z.port = .idle := hport
    have hset : (b.drives.set d { z with standbyAsked := false }).set d z' = s.drives.set d z' := by
      rw [Vector.set_set]
      exact Vector.set_set ..
    have hissue : (b.modDrive d fun y => { y with standbyAsked := false }).portIssue d .standby .standby = c := by
      rw [State.portIssue, State.modDrive, State.modDrive, hz, vector_set_same]
      exact congrArg (fun v => { c with drives := v }) hset
    have hzpower : z.power = .stopping := rfl
    have hzasked : z.standbyAsked = true := rfl
    simp only [State.kickPort, hz, hzport, hzpower, hzasked, ne_eq, not_true, reduceCtorEq, false_and, if_false, and_self, if_true, hissue]
  have hrest : ∀ {t : State} {x : Drive}, t.drives = s.drives.set d x → ∀ e, e ≠ d → t.kickPort e = t := fun ht e he =>
    State.kickPort_none (by rw [ht, vector_set_other s.drives he]; exact (h.1 e).issuesNone)
  have hpasses : drives4.foldl State.parkPass (s.withDrive d y) = b :=
    foldl_drives4_one d hpass (fun e he => h.parkPass rfl he) fun e he => h.parkPass (t := b) rfl he
  have hkick : b.kickAll = c := foldl_drives4_one d hsend (hrest rfl) (hrest (x := z') rfl)
  have hsync : State.grantLoop 4 c.syncQueue = c := by
    rw [h.syncQueue (t := c) rfl h.2.1 (State.reason_powered (by rw [hz']; exact nofun) (by rw [hz']; exact nofun))]
    exact State.grantLoop_empty 4 h.2.1
  have hsettle := h.passes (y := y) (State.endNotReady_empty (by rw [hy]; exact ⟨hops, hroom⟩)) hroom (State.kickPort_none (by rw [hy]; exact hnone))
    (hrest rfl) hpasses hkick rfl h.2.2.1 hsync (h.kickAll (t := c) (y := z') rfl (.inl nofun)) (y' := z') rfl rfl
  rw [Drive.timers_down (x := z') nofun] at hsettle
  exact hsettle

end

/-! ## Streams at rest -/

theorem Stream.resolvesNone_of {x : Stream} (h : (∀ c ∈ x.window, c.phase ≠ .waiting) ∨ ∃ c ∈ x.window, c.phase.resolvingNow = true) :
    x.resolvesNone := by
  refine h.symm.imp_right fun h c hc => ?_
  exact absurd (by simpa using List.find?_some hc) (h c (List.mem_of_find?_eq_some hc))

theorem State.setPhase_self {s : State} {id : Nat} {p : JobPhase} (h : ∀ j ∈ s.jobs, j.id = id → j.phase = p) : s.setPhase id p = s := by
  have hjobs : (s.jobs.map fun j => if j.id = id then { j with phase := p } else j) = s.jobs := by
    refine (List.map_congr_left fun j hj => ?_).trans (List.map_id _)
    split
    · rename_i hid
      rw [← h j hj hid]
      rfl
    · rfl
  exact congrArg (fun l => { s with jobs := l }) hjobs

section
variable {s : State} {n : Fin 8} (hheld : s.streams[n].held = false) (hres : s.streams[n].resolvesNone)
include hheld hres

theorem State.settleStream_closing (hst : s.streams[n].st = .closing) (hne : s.streams[n].window ≠ []) : s.settleStream n = s := by
  have hwork : s.streamWork n = s := State.streamWork_none hheld (by rw [hst]; exact nofun) hres
  have hstays : s.listAdvance n = none := by
    have hopen : s.streams[n].window.isEmpty = false := by simpa using hne
    simp only [State.listAdvance, hst, hopen, Bool.false_and, Bool.false_eq_true, if_false]
  rw [State.settleStream, State.settleLoop_stop (by rw [hwork]; exact hstays), hwork]

end

/-- Settles O56. -/
theorem restSettles : Obligations.RestSettles := by
  refine ⟨fun s (h : s.resting) => ⟨State.resting_settles h, fun d => ?drives⟩, fun s n => ?stream, fun s h => foldl_stays _ h⟩
  case stream =>
    intro x hheld hwindow
    have hres := Stream.resolvesNone_of hwindow
    refine ⟨fun hst hlist => State.settleLoop_quiet 19 hst hheld hres hlist, State.settleStream_closing hheld hres, ?_⟩
    intro id w hst _ hhead hwork hphase hbuf hleft hstop
    obtain ⟨l, hlist⟩ := List.head?_eq_some_iff.mp hhead
    exact State.settleLoop_waiting 19 hst hheld hres hlist hwork hbuf hstop hleft (State.setPhase_self hphase)
  case drives =>
  intro x set
  refine ⟨fun b hp hf hwake hdown => ?demand, fun hp => ?parks, fun l hp hl => ?list⟩
  case demand =>
    exact ⟨h.demand_granted hp hf hwake hdown, h.demand_waits hp hf hdown⟩
  case parks => exact h.idle_parks hp
  case list =>
    refine ⟨fun o ho hm => ?_, fun m hm ho => ?_⟩
    · have hi : Drive.nextInteractive { s.drives[d] with ops := l } = some o := (Drive.nextInteractive_eq _).trans ho
      obtain ⟨hmem, hcls⟩ := Drive.nextInteractive_some hi
      have hsettle := h.issueNext_settles (d := d) hp hl (Drive.choose_interactive hi fun m h => by
        rw [Drive.bulkWaiting_iff]
        exact hm m ((Drive.nextOther_eq _).symm.trans h)) hmem
      rw [if_pos hcls] at hsettle
      exact hsettle
    · have hm' : Drive.nextOther { s.drives[d] with ops := l } = some m := (Drive.nextOther_eq _).trans hm
      obtain ⟨hmem, hcls⟩ := Drive.nextOther_some hm'
      have hsettle := h.issueNext_settles (d := d) hp hl (Drive.choose_other hm' (by
        rw [Drive.bulkWaiting_iff, Drive.nextInteractive_eq]
        exact ho)) hmem
      rw [if_neg hcls] at hsettle
      exact hsettle

end Sys2Proof.Machine

/-! # The outcome of a chunk's write (R55, R56, R61, R64, R76, R96, R97) -/

namespace Sys2Proof.Machine

/-! ## The eight streams in turn -/

theorem foldl_streams8 {F : State → Fin 8 → State} {u : State} (G : Fin 8 → Stream)
    (h : ∀ n v, v[n] = u.streams[n] → F { u with streams := v } n = { u with streams := v.set n (G n) }) :
    streams8.foldl F u = { u with streams := Vector.ofFn G } := by
  have hstep : ∀ (l : List (Fin 8)), l.Nodup → ∀ v : Vector Stream 8, (∀ n ∈ l, v[n] = u.streams[n]) →
      l.foldl F { u with streams := v } = { u with streams := Vector.ofFn fun n => if n ∈ l then G n else v[n] } := by
    intro l
    induction l with
    | nil =>
      intro _ v _
      have hv : (Vector.ofFn fun n : Fin 8 => v[n]) = v := by ext i hi : 1; simp
      simp only [List.foldl_nil, List.not_mem_nil, if_false, hv]
    | cons n l ih =>
      intro hnodup v hv
      obtain ⟨hn, hl⟩ := List.nodup_cons.mp hnodup
      rw [List.foldl_cons, h n v (hv n List.mem_cons_self), ih hl]
      · congr 1
        ext i hi : 1
        rw [Vector.getElem_ofFn, Vector.getElem_ofFn]
        by_cases hin : (⟨i, hi⟩ : Fin 8) = n
        · subst hin
          rw [if_neg hn, if_pos List.mem_cons_self, vector_set_same]
        · rw [vector_set_other v hin]
          simp only [List.mem_cons, hin, false_or]
      · intro m hm
        rw [vector_set_other v fun heq : m = n => hn (heq ▸ hm)]
        exact hv m (List.mem_cons_of_mem _ hm)
  have hall := hstep streams8 (by decide) u.streams fun _ _ => rfl
  have hmem : ∀ n : Fin 8, n ∈ streams8 := by decide
  simp only [hmem, if_true] at hall
  exact hall

/-! ## Windows with distinct names -/

theorem mem_window_of_chunk {s : State} {n : Fin 8} {id : Nat} {c : Chunk} (h : s.chunk n id = some c) :
    c ∈ s.streams[n].window ∧ c.id = id :=
  ⟨List.mem_of_find?_eq_some h, by simpa using List.find?_some h⟩

theorem eq_of_same_id {w : List Chunk} (h : (w.map fun x => x.id).Nodup) {x y : Chunk} (hx : x ∈ w) (hy : y ∈ w) (hid : x.id = y.id) :
    x = y := List.inj_on_of_nodup_map h hx hy hid

/-- One chunk of a window changed by its name is that chunk changed. -/
theorem map_window {w : List Chunk} (h : (w.map fun x => x.id).Nodup) {c : Chunk} (hc : c ∈ w) (f g : Chunk → Chunk) (hfg : f c = g c) :
    (w.map fun x => if x.id = c.id then f x else x) = w.map fun x => if x.id = c.id then g x else x := by
  refine List.map_congr_left fun x hx => ?_
  split
  · rename_i hid
    rw [eq_of_same_id h hx hc hid]
    exact hfg
  · rfl

/-- Chunks changed one after the other, each by its name, with the value that it had at the start. -/
theorem foldl_map_window (f : Chunk → Chunk → Chunk) (hf : ∀ c x, (f c x).id = x.id) (cs : List Chunk)
    (hcs : (cs.map fun x => x.id).Nodup) : ∀ w : List Chunk,
    cs.foldl (fun w c => w.map fun x => if x.id = c.id then f c x else x) w =
      w.map fun x => match cs.find? fun c => c.id == x.id with | some c => f c x | none => x := by
  induction cs with
  | nil =>
    intro w
    exact (List.map_id _).symm
  | cons c cs ih =>
    intro w
    obtain ⟨hc, hcs⟩ := List.nodup_cons.mp hcs
    rw [List.foldl_cons, ih hcs, List.map_map]
    refine List.map_congr_left fun x _ => ?_
    by_cases hid : x.id = c.id
    · have hnone : (cs.find? fun d => d.id == (f c x).id) = none := by
        rw [hf, hid]
        refine List.find?_eq_none.mpr fun d hd heq => hc ?_
        rw [List.mem_map]
        exact ⟨d, hd, by simpa using heq⟩
      rw [Function.comp_apply, if_pos hid, hnone, List.find?_cons_of_pos (by simp [hid])]
    · rw [Function.comp_apply, if_neg hid, List.find?_cons_of_neg (by simpa using fun h => hid h.symm)]

/-- The chunks that satisfy `p`, each changed by its name. -/
theorem foldl_map_filter (f : Chunk → Chunk → Chunk) (hf : ∀ c x, (f c x).id = x.id) {w : List Chunk} (h : (w.map fun x => x.id).Nodup)
    (p : Chunk → Bool) :
    (w.filter p).foldl (fun w c => w.map fun x => if x.id = c.id then f c x else x) w = w.map fun x => if p x then f x x else x := by
  have hnodup : ((w.filter p).map fun x => x.id).Nodup := h.sublist (List.filter_sublist.map _)
  rw [foldl_map_window f hf _ hnodup]
  refine List.map_congr_left fun x hx => ?_
  cases hp : p x with
  | true =>
    have hfind : ((w.filter p).find? fun c => c.id == x.id) = some x := by
      cases hd : (w.filter p).find? fun c => c.id == x.id with
      | none => exact absurd (List.find?_eq_none.mp hd x (List.mem_filter.mpr ⟨hx, hp⟩)) (by simp)
      | some d =>
        have hmem := (List.mem_filter.mp (List.mem_of_find?_eq_some hd)).1
        rw [eq_of_same_id h hmem hx (by simpa using List.find?_some hd)]
    rw [hfind]
    rfl
  | false =>
    have hfind : ((w.filter p).find? fun c => c.id == x.id) = none := by
      refine List.find?_eq_none.mpr fun d hd heq => ?_
      obtain ⟨hmem, hpd⟩ := List.mem_filter.mp hd
      rw [eq_of_same_id h hmem hx (by simpa using heq), hp] at hpd
      cases hpd
    rw [hfind]
    rfl

/-! ## The chunks that count against an entry -/

/-- A chunk counts against the entry in a slot and has no outcome yet. -/
def Chunk.shares (slot : Nat) (c : Chunk) : Bool := c.target == .entry slot && c.outcome.isNone

theorem Chunk.shares_iff {slot : Nat} {c : Chunk} : c.shares slot = true ↔ c.target = .entry slot ∧ c.outcome = none := by
  simp [Chunk.shares, Option.isNone_iff_eq_none]

theorem State.sharers_eq (s : State) (slot : Nat) :
    s.sharers slot = streams8.flatMap fun n => (s.streams[n].window.filter (Chunk.shares slot)).map fun c => (n, c) := rfl

/-- A chunk with its outcome. -/
def Chunk.decided (c : Chunk) (o : ChunkOutcome) (f : Ref) : Chunk := { c with outcome := some o, final := f }

theorem State.decideChunk_unresolved {s : State} {n : Fin 8} {id : Nat} (h : ∀ x ∈ s.streams[n].window, x.id = id → x.phase ≠ .resolved)
    (o : ChunkOutcome) (f : Ref) : s.decideChunk n id o f = s.modChunk n id fun c => c.decided o f := by
  have htry : (s.modChunk n id fun c => c.decided o f).tryFinish n id = s.modChunk n id fun c => c.decided o f := by
    cases hc : (s.modChunk n id fun c => c.decided o f).chunk n id with
    | none => simp only [State.tryFinish, hc]
    | some c =>
      obtain ⟨hmem, hid⟩ := mem_window_of_chunk hc
      rw [State.modChunk, State.modStream_same] at hmem
      obtain ⟨x, hx, rfl⟩ := List.mem_map.mp hmem
      refine State.tryFinish_unresolved hc ?_
      by_cases hxid : x.id = id
      · rw [if_pos hxid]
        exact h x hx hxid
      · rw [if_neg hxid] at hid
        exact absurd hid hxid
  exact htry

/-- No chunk that counts against the entry being RESOLVED, each has its outcome and none finishes (R61, R64). -/
theorem State.foldl_decide {s : State} {slot : Nat} (hnodup : ∀ i : Fin 8, (s.streams[i].window.map fun x => x.id).Nodup)
    (hphase : ∀ i : Fin 8, ∀ x ∈ s.streams[i].window, x.target = .entry slot → x.outcome = none → x.phase ≠ .resolved)
    (o : Chunk → ChunkOutcome) (f : Chunk → Ref) :
    (s.sharers slot).foldl (fun t p => t.decideChunk p.1 p.2.id (o p.2) (f p.2)) s =
      { s with
        streams := Vector.ofFn fun i =>
          { s.streams[i] with
            window := s.streams[i].window.map fun x => if x.target = .entry slot ∧ x.outcome = none then x.decided (o x) (f x) else x } } := by
  rw [State.sharers_eq, List.foldl_flatMap]
  refine foldl_streams8 _ fun n v hv => ?_
  have hcs : ∀ (cs : List Chunk) (w : List Chunk), (∀ c ∈ cs, ∀ x ∈ w, x.id = c.id → x.phase ≠ .resolved) →
      (cs.map fun c => (n, c)).foldl (fun t p => State.decideChunk t p.1 p.2.id (o p.2) (f p.2))
        { s with streams := v.set n { s.streams[n] with window := w } } =
      { s with
        streams := v.set n
          { s.streams[n] with
            window := cs.foldl (fun w c => w.map fun x => if x.id = c.id then x.decided (o c) (f c) else x) w } } := by
    intro cs
    induction cs with
    | nil => exact fun w _ => rfl
    | cons c cs ih =>
      intro w hw
      have hset : (v.set n { s.streams[n] with window := w })[n] = { s.streams[n] with window := w } := vector_set_same ..
      have hone : State.decideChunk { s with streams := v.set n { s.streams[n] with window := w } } n c.id (o c) (f c) =
          { s with
            streams := v.set n
              { s.streams[n] with window := w.map fun x => if x.id = c.id then x.decided (o c) (f c) else x } } := by
        rw [State.decideChunk_unresolved (by rw [hset]; exact hw c List.mem_cons_self), State.modChunk, State.modStream, hset]
        exact congrArg (fun v => { s with streams := v }) (Vector.set_set ..)
      rw [List.map_cons, List.foldl_cons, List.foldl_cons, hone]
      refine ih _ fun d hd x hx hid => ?_
      obtain ⟨y, hy, rfl⟩ := List.mem_map.mp hx
      by_cases hyc : y.id = c.id
      · rw [if_pos hyc] at hid ⊢
        exact hw d (List.mem_cons_of_mem _ hd) y hy hid
      · rw [if_neg hyc] at hid ⊢
        exact hw d (List.mem_cons_of_mem _ hd) y hy hid
  have hstart : ({ s with streams := v } : State) = { s with streams := v.set n { s.streams[n] with window := s.streams[n].window } } := by
    have hself : v.set n { s.streams[n] with window := s.streams[n].window } = v := by
      rw [show ({ s.streams[n] with window := s.streams[n].window } : Stream) = v[n] from hv.symm]
      exact vector_set_self v n
    rw [hself]
  have hends : (s.streams[n].window.filter (Chunk.shares slot)).foldl
      (fun w c => w.map fun x => if x.id = c.id then x.decided (o c) (f c) else x) s.streams[n].window =
      s.streams[n].window.map fun x => if x.target = .entry slot ∧ x.outcome = none then x.decided (o x) (f x) else x := by
    rw [foldl_map_filter (fun c x => x.decided (o c) (f c)) (fun _ _ => rfl) (hnodup n)]
    exact List.map_congr_left fun x _ => if_congr Chunk.shares_iff rfl rfl
  rw [hstart, hcs _ _ ?_, hends]
  intro c hc x hx hid
  obtain ⟨hmem, hshares⟩ := List.mem_filter.mp hc
  obtain ⟨htarget, hopen⟩ := Chunk.shares_iff.mp hshares
  rw [eq_of_same_id (hnodup n) hx hmem hid]
  exact hphase n c hmem htarget hopen

/-! ## The entry leaves PENDING -/

/-- No FETCH waits for the entry under a key. -/
def State.noFetchWaits (s : State) (k : Key) : Prop :=
  ∀ j ∈ s.jobs, ∀ f, j.phase = .fetching f → ∀ q ∈ f.refs, q.st = .waiting → q.ref.key ≠ k ∨ q.ref.unindexed = true

theorem State.fetchWake_none {s : State} {k : Key} (h : s.noFetchWaits k) : s.fetchWake k = s := by
  have hdue : (s.jobs.flatMap fun j => match j.phase with
      | .fetching w => (List.range w.refs.length).filterMap fun i =>
          match w.refs[i]? with
          | some r => if r.st = .waiting ∧ !r.ref.unindexed ∧ r.ref.key = k then some (j.id, i) else none
          | none => none
      | _ => []) = [] := by
    refine List.flatMap_eq_nil_iff.mpr fun j hj => ?_
    split
    · rename_i w hw
      refine List.filterMap_eq_nil_iff.mpr fun i _ => ?_
      split
      · rename_i r hr
        refine if_neg fun hwaits => ?_
        obtain ⟨hst, hindexed, hkey⟩ := hwaits
        obtain hk | hu := h j hj w hw r (List.mem_of_getElem? hr) hst
        · exact hk hkey
        · rw [hu] at hindexed
          cases hindexed
      · rfl
    · rfl
  exact congrArg (fun due : List (Nat × Nat) => due.foldl (fun s p => State.fetchLookup s p.1 p.2) s) hdue

/-- What waited for the entry follows the other requests (R80). -/
def Engine.woken (g : Engine) (p : CatReq → Bool) : Engine :=
  { g with waiters := g.waiters.filter fun q => !p q, requests := g.requests ++ g.waiters.filter p }

theorem State.leavePending_eq {s t : State} {slot : Nat} {e : Entry}
    (ht : (State.sharers { s with cat := s.cat.setSlot slot (some e) } slot).foldl
      (fun u p => u.decideChunk p.1 p.2.id (p.2.entryOutcome (e.st == .live)) (p.2.entryRef (e.st == .live) e.b.isNone))
      { s with cat := s.cat.setSlot slot (some e) } = t)
    (hfetch : t.noFetchWaits e.key) :
    s.leavePending slot e = { t with engine := t.engine.woken (t.waitsFor e.key) } := by
  have hleave : s.leavePending slot e = State.fetchWake { t with engine := t.engine.woken (t.waitsFor e.key) } e.key := by
    subst ht
    rfl
  rw [hleave]
  exact State.fetchWake_none hfetch

end Sys2Proof.Machine

/-! # The outcome of a chunk's write: the next state -/

namespace Sys2Proof.Machine

/-! ## A chunk whose copies have their outcomes -/

section
variable {u : State} {n : Fin 8} {id : Nat} {c : Chunk} (hc : u.chunk n id = some c)
include hc

theorem State.settleChunk_waits (h : (c.writes.any fun w => w.result.isNone) = true) : u.settleChunk n id = u := by
  simp only [State.settleChunk, hc, h, if_true]

variable (h : (c.writes.any fun w => w.result.isNone) = false)
include h

theorem State.settleChunk_lost (ht : c.target = .unindexed) (hw : c.written = []) :
    u.settleChunk n id = u.decideChunk n id .lost { c.ref.getD { key := c.key } with lost := true } := by
  simp only [State.settleChunk, hc, h, ht, hw, Bool.false_eq_true, if_false]

theorem State.settleChunk_unindexed {a : Loc} {l : List Loc} (ht : c.target = .unindexed) (hw : c.written = a :: l) :
    u.settleChunk n id =
      (u.modCat fun k => { k with unindexed := satInc top32 k.unindexed }).decideChunk n id .new (unindexedRef c.key a l.head?) := by
  simp only [State.settleChunk, hc, h, ht, hw, Bool.false_eq_true, if_false]

end

/-- An entry whose copies were written at these locations leaves PENDING (R55, R76). -/
def Entry.endedAt (e : Entry) (locs : List Loc) : Entry :=
  match locs with
  | [] => { e with st := .damaged, a := { e.a with st := .absent }, b := none }
  | x :: y => { e with st := .live, a := { loc := x }, b := y.head?.map fun b => { loc := b } }

theorem Entry.endedAt_live (e : Entry) (locs : List Loc) : ((e.endedAt locs).st == .live) = decide (locs ≠ []) := by
  cases locs <;> rfl

theorem Entry.endedAt_key (e : Entry) (locs : List Loc) : (e.endedAt locs).key = e.key := by
  cases locs <;> rfl

theorem State.settleChunk_entry {u : State} {n : Fin 8} {id slot : Nat} {c : Chunk} {e : Entry} (hc : u.chunk n id = some c)
    (h : (c.writes.any fun w => w.result.isNone) = false) (ht : c.target = .entry slot) (he : u.cat.entry slot = some e) :
    u.settleChunk n id = u.leavePending slot (e.endedAt c.written) := by
  simp only [State.settleChunk, hc, h, ht, he, Bool.false_eq_true, if_false]
  cases c.written <;> rfl

/-! ## The write's outcome -/

theorem CopyWrite.copy_of_find {l : List CopyWrite} {k : CopyName} {w : CopyWrite} (h : (l.find? fun x => x.copy == k) = some w) :
    w.copy = k ∧ w ∈ l := ⟨by simpa using List.find?_some h, List.mem_of_find?_eq_some h⟩

section
variable {s : State} {n : Fin 8} {c : Chunk} {k : CopyName} {w : CopyWrite} {l : List CatReq} (hc : s.chunk n c.id = some c)
  (hw : (c.writes.find? fun x => x.copy == k) = some w) (hepoch : s.drives[w.loc.drive].epoch = w.epoch)

/-- The outcome applied to its AU, and the chunk's write with its result (R96). -/
def State.copyOver (s : State) (l : List CatReq) (n : Fin 8) (c : Chunk) (k : CopyName) (w : CopyWrite) (r : WriteResult) : State :=
  State.modChunk { s.taking l with cat := s.cat.applyWrite w.loc (sectorsOf c.key.len) r } n c.id fun x =>
    x.modWrite k fun y => { y with result := some (r == .done) }

include hc hw hepoch

theorem State.chunkOutcome_split (r : WriteResult) :
    (s.taking l).chunkOutcome n c.id k r =
      (if r = .done then (s.copyOver l n c k w r).settleChunk n c.id
       else State.replaceCopy { s.taking l with cat := s.cat.applyWrite w.loc (sectorsOf c.key.len) r } n c w) := by
  have hc' : (s.taking l).chunk n c.id = some c := hc
  have hau : (s.taking l).auOutcome w.loc w.epoch (sectorsOf c.key.len) r =
      { s.taking l with cat := s.cat.applyWrite w.loc (sectorsOf c.key.len) r } := if_pos hepoch
  simp only [State.chunkOutcome, hc', hw, hau]
  cases r <;> rfl

omit hc hepoch in
/-- The catalogue and the candidate that a re-placement looks at (R97). -/
theorem State.replaceCopy_final {r : WriteResult} (hr : r ≠ .done)
    (hfinal : w.second = true ∨ State.bestCandidate { s with cat := s.cat.applyWrite w.loc (sectorsOf c.key.len) r } (sectorsOf c.key.len)
      (c.excluded w) false = none) :
    State.replaceCopy { s.taking l with cat := s.cat.applyWrite w.loc (sectorsOf c.key.len) r } n c w =
      (s.copyOver l n c k w r).settleChunk n c.id := by
  obtain ⟨hcopy, -⟩ := CopyWrite.copy_of_find hw
  have hfailed : (r == .done) = false := by simpa using hr
  have hover : State.modChunk { s.taking l with cat := s.cat.applyWrite w.loc (sectorsOf c.key.len) r } n c.id
      (fun c => c.modWrite w.copy fun w => { w with result := some false }) = s.copyOver l n c k w r := by
    rw [State.copyOver, hfailed, hcopy]
  by_cases hsecond : w.second = true
  · simp only [State.replaceCopy, hsecond, if_true, hover]
  · have hnone := State.place_none (t := { s.taking l with cat := s.cat.applyWrite w.loc (sectorsOf c.key.len) r })
      ((State.bestCandidate_congr (s := { s with cat := s.cat.applyWrite w.loc (sectorsOf c.key.len) r }) rfl ⟨rfl, rfl, rfl, rfl⟩ _ _ _).trans
        (hfinal.resolve_left hsecond))
    simp only [State.replaceCopy, hsecond, Bool.false_eq_true, if_false, hnone, hover]

theorem State.chunkOutcome_final {r : WriteResult}
    (hfinal : r = .done ∨ w.second = true ∨ State.bestCandidate { s with cat := s.cat.applyWrite w.loc (sectorsOf c.key.len) r }
      (sectorsOf c.key.len) (c.excluded w) false = none) :
    (s.taking l).chunkOutcome n c.id k r = (s.copyOver l n c k w r).settleChunk n c.id := by
  rw [State.chunkOutcome_split hc hw hepoch]
  by_cases hr : r = .done
  · exact if_pos hr
  · exact (if_neg hr).trans (State.replaceCopy_final hw hr (hfinal.resolve_left hr))

omit hc hepoch in
/-- A failed first attempt is placed once more (R97). -/
theorem State.replaceCopy_placed {r : WriteResult} (hsecond : w.second = false) {d : Fin 4}
    (hd : State.bestCandidate { s with cat := s.cat.applyWrite w.loc (sectorsOf c.key.len) r } (sectorsOf c.key.len) (c.excluded w) false = some d)
    {p : Nat × Cat} (hp : (s.cat.applyWrite w.loc (sectorsOf c.key.len) r).reserve d (sectorsOf c.key.len) = p) {m : Cat}
    (hm : (match c.target with
      | .entry slot => match p.2.entry slot with | some e => p.2.setSlot slot (some (e.setCopy k { loc := ⟨d, p.1⟩ })) | none => p.2
      | .unindexed | .none => p.2) = m) :
    State.replaceCopy { s.taking l with cat := s.cat.applyWrite w.loc (sectorsOf c.key.len) r } n c w =
      State.offerCopy (State.modChunk { s.taking l with cat := m } n c.id fun x =>
        x.modWrite k fun v => { v with loc := ⟨d, p.1⟩, epoch := s.drives[d].epoch, second := true }) n c k ⟨d, p.1⟩ := by
  obtain ⟨hcopy, -⟩ := CopyWrite.copy_of_find hw
  have hplace := State.place_some (t := { s.taking l with cat := s.cat.applyWrite w.loc (sectorsOf c.key.len) r })
    ((State.bestCandidate_congr (s := { s with cat := s.cat.applyWrite w.loc (sectorsOf c.key.len) r }) rfl ⟨rfl, rfl, rfl, rfl⟩ _ _ _).trans hd)
  have hmove : State.moveCopy { s.taking l with cat := p.2 } c.target k ⟨d, p.1⟩ = { s.taking l with cat := m } := by
    subst hm
    cases c.target with
    | entry slot =>
      cases he : p.2.entry slot with
      | none =>
        simp only [State.moveCopy, he]
      | some e =>
        simp only [State.moveCopy, he]
        rfl
    | unindexed => rfl
    | none => rfl
  simp only [State.replaceCopy, hsecond, Bool.false_eq_true, if_false, hplace, hp, hcopy]
  exact congrArg (fun t : State => State.offerCopy (t.modChunk n c.id fun x =>
    x.modWrite k fun v => { v with loc := ⟨d, p.1⟩, epoch := s.drives[d].epoch, second := true }) n c k ⟨d, p.1⟩) hmove

end

/-! ## Chunks that stay in the window -/

theorem Chunk.entryOutcome_eq (c : Chunk) (p : Prop) [Decidable p] :
    c.entryOutcome (decide p) = if p then (if c.writes = [] then .duplicate else .new) else .lost := by
  by_cases hp : p <;> simp [Chunk.entryOutcome, hp]

theorem Chunk.entryRef_eq (c : Chunk) (p : Prop) [Decidable p] (one : Bool) :
    c.entryRef (decide p) one =
      (let f := c.ref.getD { key := c.key }
       if p then { f with oneCopy := f.oneCopy || one } else { f with lost := true }) := by
  by_cases hp : p <;> simp [Chunk.entryRef, hp]

theorem State.waitsFor_congr {s t : State} (h : t.jobs = s.jobs) (k : Key) : t.waitsFor k = s.waitsFor k := by
  funext q
  simp only [State.waitsFor, State.job, h]

section
variable {s t : State} {n : Fin 8} {c : Chunk} {slot : Nat} {e : Entry}

/-- Every chunk that counts against the entry stays in its window, with its outcome (R61). -/
theorem State.leavePending_stays (hnodup : ∀ i : Fin 8, (s.streams[i].window.map fun x => x.id).Nodup)
    (hphase : ∀ i : Fin 8, ∀ x ∈ s.streams[i].window, x.target = .entry slot → x.outcome = none → x.phase ≠ .resolved)
    (hfetch : s.noFetchWaits e.key) :
    s.leavePending slot e =
      { s with
        cat := s.cat.setSlot slot (some e)
        engine := s.engine.woken (s.waitsFor e.key)
        streams := Vector.ofFn fun i =>
          { s.streams[i] with
            window := s.streams[i].window.map fun x =>
              if x.target = .entry slot ∧ x.outcome = none then
                x.decided (x.entryOutcome (e.st == .live)) (x.entryRef (e.st == .live) e.b.isNone)
              else x } } := by
  have hfold := State.foldl_decide (s := { s with cat := s.cat.setSlot slot (some e) }) hnodup hphase
    (fun x => x.entryOutcome (e.st == .live)) (fun x => x.entryRef (e.st == .live) e.b.isNone)
  have hleave := State.leavePending_eq hfold (by exact hfetch)
  rw [State.waitsFor_congr (s := s) (by rfl)] at hleave
  exact hleave

/-! ## A chunk that is RESOLVED already -/

theorem flatMap_streams8_one {α : Type} {g : Fin 8 → List α} (n : Fin 8) (h : ∀ i, i ≠ n → g i = []) : streams8.flatMap g = g n := by
  have hlist : ∀ l : List (Fin 8), l.Nodup → l.flatMap g = if n ∈ l then g n else [] := by
    intro l
    induction l with
    | nil => exact fun _ => rfl
    | cons i l ih =>
      intro hl
      obtain ⟨hi, hl⟩ := List.nodup_cons.mp hl
      rw [List.flatMap_cons, ih hl]
      by_cases hin : i = n
      · subst hin
        rw [if_neg hi, if_pos List.mem_cons_self, List.append_nil]
      · rw [h i hin, List.nil_append]
        exact if_congr (by rw [List.mem_cons, or_iff_right fun h => hin h.symm]) rfl rfl
  exact (hlist streams8 (by decide)).trans (if_pos ((by decide : ∀ n : Fin 8, n ∈ streams8) n))

/-- The one chunk that counts against the entry. -/
theorem State.sharers_one (hc : s.chunk n c.id = some c) (hnodup : (s.streams[n].window.map fun x => x.id).Nodup)
    (ht : c.target = .entry slot) (ho : c.outcome = none)
    (hone : ∀ i : Fin 8, ∀ x ∈ s.streams[i].window, x.target = .entry slot → x.outcome = none → i = n ∧ x = c) :
    s.sharers slot = [(n, c)] := by
  obtain ⟨hmem, -⟩ := mem_window_of_chunk hc
  have hfilter : s.streams[n].window.filter (Chunk.shares slot) = [c] := by
    have hall : ∀ x ∈ s.streams[n].window.filter (Chunk.shares slot), x = c := fun x hx => by
      obtain ⟨hx, hshares⟩ := List.mem_filter.mp hx
      obtain ⟨hxt, hxo⟩ := Chunk.shares_iff.mp hshares
      exact (hone n x hx hxt hxo).2
    have hin : c ∈ s.streams[n].window.filter (Chunk.shares slot) := List.mem_filter.mpr ⟨hmem, Chunk.shares_iff.mpr ⟨ht, ho⟩⟩
    have hnd : (s.streams[n].window.filter (Chunk.shares slot)).Nodup := (List.Nodup.of_map _ hnodup).filter _
    generalize s.streams[n].window.filter (Chunk.shares slot) = l at hall hin hnd
    match l with
    | [] => cases hin
    | [x] => rw [hall x List.mem_cons_self]
    | x :: y :: l =>
      have hxy : x = y := (hall x (by simp)).trans (hall y (by simp)).symm
      exact absurd (List.nodup_cons.mp hnd).1 (by simp [hxy])
  have hempty : ∀ i, i ≠ n → ((s.streams[i].window.filter (Chunk.shares slot)).map fun c => (i, c)) = [] := fun i hi => by
    refine List.map_eq_nil_iff.mpr (List.filter_eq_nil_iff.mpr fun x hx hshares => hi ?_)
    obtain ⟨hxt, hxo⟩ := Chunk.shares_iff.mp hshares
    exact (hone i x hx hxt hxo).1
  rw [State.sharers_eq, flatMap_streams8_one n hempty, hfilter]
  rfl

theorem State.tryFinish_rewrites {o : ChunkOutcome} {f : Ref} {j : Job} {v : StreamWork} {i : Nat} (hc : s.chunk n c.id = some c)
    (hphase : c.phase = .resolved) (hout : c.outcome = some o) (howner : c.owner = some j.id) (hwork : s.work j.id = some v)
    (hslot : c.slot = some i) (hmute : c.mute = false) (href : c.ref = some f) (hne : c.final ≠ f) :
    s.tryFinish n c.id =
      (s.modChunk n c.id fun c => { c with phase := .rewriting, ref := some c.final }).emit
        (.hostWrite (v.recipe + BitVec.ofNat 64 (32 * i)) c.final.bytes) := by
  have hdiffers : (!c.mute && c.ref != some c.final) = true := by
    simp only [hmute, href, Bool.not_false, Bool.true_and, bne_iff_ne, ne_eq, Option.some.injEq]
    exact fun h => hne h.symm
  simp only [State.tryFinish, hc, hphase, hout, howner, Option.bind_some, hwork, hslot]
  exact if_pos hdiffers

theorem State.tryFinish_finishes {o : ChunkOutcome} {f : Ref} {j : Job} {v : StreamWork} {i : Nat} (hc : s.chunk n c.id = some c)
    (hphase : c.phase = .resolved) (hout : c.outcome = some o) (howner : c.owner = some j.id) (hwork : s.work j.id = some v)
    (hslot : c.slot = some i) (href : c.ref = some f) (heq : c.final = f) : s.tryFinish n c.id = s.finishNow n c o := by
  have hsame : (!c.mute && c.ref != some c.final) = false := by simp [href, heq]
  simp only [State.tryFinish, hc, hphase, hout, howner, Option.bind_some, hwork, hslot]
  exact if_neg (Bool.eq_false_iff.mp hsame)

theorem State.leavePending_one (hc : s.chunk n c.id = some c) (hnodup : (s.streams[n].window.map fun x => x.id).Nodup)
    (ht : c.target = .entry slot) (ho : c.outcome = none)
    (hone : ∀ i : Fin 8, ∀ x ∈ s.streams[i].window, x.target = .entry slot → x.outcome = none → i = n ∧ x = c)
    (hdecide : State.decideChunk { s with cat := s.cat.setSlot slot (some e) } n c.id (c.entryOutcome (e.st == .live))
      (c.entryRef (e.st == .live) e.b.isNone) = t)
    (hfetch : t.noFetchWaits e.key) : s.leavePending slot e = { t with engine := t.engine.woken (t.waitsFor e.key) } := by
  refine State.leavePending_eq ?_ hfetch
  rw [State.sharers_one (s := { s with cat := s.cat.setSlot slot (some e) }) hc hnodup ht ho hone]
  exact hdecide

end

/-! ## A job's progress and the requests that wait -/

theorem State.job_setPhase_other {s : State} {id i : Nat} (h : i ≠ id) (p : JobPhase) : (s.setPhase id p).job i = s.job i := by
  simp only [State.job, State.setPhase]
  generalize s.jobs = l
  induction l with
  | nil => rfl
  | cons a l ih =>
    by_cases ha : a.id = id
    · have hne : ¬a.id = i := fun hi => h (hi.symm.trans ha)
      rw [List.map_cons, if_pos ha, List.find?_cons_of_neg (by simpa using hne), List.find?_cons_of_neg (by simpa using hne), ih]
    · rw [List.map_cons, if_neg ha, List.find?_cons, List.find?_cons, ih]

theorem State.waitsFor_setPhase {s : State} {id : Nat} {j : Job} {v w : StreamWork} (hjob : s.job id = some j) (hphase : j.phase = .stream v)
    (k : Key) : (s.setPhase id (.stream w)).waitsFor k = s.waitsFor k := by
  have hjob' := State.job_setPhase hjob (.stream w)
  obtain ⟨i, chain, rec, notify, req, phase, fails⟩ := j
  obtain rfl : phase = .stream v := hphase
  funext q
  have hone : ∀ a : Nat, (match (s.setPhase id (.stream w)).job a with
      | some { phase := .refs { refs := r :: _, .. }, .. } => !r.unindexed && r.key == k
      | _ => false) = (match s.job a with
      | some { phase := .refs { refs := r :: _, .. }, .. } => !r.unindexed && r.key == k
      | _ => false) := fun a => by
    by_cases ha : a = id
    · subst ha
      rw [hjob', hjob]
    · rw [State.job_setPhase_other ha]
  cases q with
  | retainRef a => exact hone a
  | releaseRef a => exact hone a
  | _ => rfl

theorem State.noFetchWaits_setPhase {s : State} {k : Key} (h : s.noFetchWaits k) (id : Nat) (w : StreamWork) :
    (s.setPhase id (.stream w)).noFetchWaits k := by
  intro j hj f hf
  obtain ⟨i, hi, rfl⟩ := List.mem_map.mp hj
  by_cases hid : i.id = id
  · rw [if_pos hid] at hf
    cases hf
  · rw [if_neg hid] at hf
    exact h i hi f hf

end Sys2Proof.Machine

/-! # The outcome of a chunk's write -/

namespace Sys2Proof.Machine

theorem writeOutcome_ends {s u : State} {n : Fin 8} {id : Nat} {k : CopyName} {r : WriteResult} {l : List CatReq} (hp : s.powered = true)
    (hh : s.engine.hold = none) (hq : s.engine.requests = .writeOutcome (.chunk n id k) r :: l)
    (hu : (s.taking l).chunkOutcome n id k r = u) : Ends s .writeOutcome (u.settleStreams.afterCkpt s) := by
  subst hu
  exact catalogueRequests.2 s _ l hp hq hh

/-- A chunk with the results of its writes. -/
def Chunk.withWrites (c : Chunk) (l : List CopyWrite) : Chunk := { c with writes := l }

/-- The write records of a chunk with the result of one. -/
def Chunk.resultOf (c : Chunk) (k : CopyName) (ok : Bool) : List CopyWrite :=
  c.writes.map fun y => if y.copy = k then { y with result := some ok } else y

section
variable {s : State} {n : Fin 8} {c : Chunk} {k : CopyName} {w : CopyWrite} {l : List CatReq} {r : WriteResult}
  (hc : s.chunk n c.id = some c) (hnodup : ∀ i : Fin 8, (s.streams[i].window.map fun x => x.id).Nodup)

/-- The stream of the chunk with its write's result. -/
theorem State.copyOver_stream : (s.copyOver l n c k w r).streams[n] =
    { s.streams[n] with
      window := s.streams[n].window.map fun x => if x.id = c.id then x.withWrites (x.resultOf k (r == .done)) else x } :=
  vector_set_same s.streams n _

theorem State.copyOver_other {i : Fin 8} (hi : i ≠ n) : (s.copyOver l n c k w r).streams[i] = s.streams[i] :=
  vector_set_other s.streams hi _

include hc in
theorem State.copyOver_chunk : (s.copyOver l n c k w r).chunk n c.id = some (c.withWrites (c.resultOf k (r == .done))) :=
  State.chunk_modChunk (s := { s.taking l with cat := s.cat.applyWrite w.loc (sectorsOf c.key.len) r }) hc
    (fun x => x.modWrite k fun y => { y with result := some (r == .done) }) fun _ => rfl

include hnodup in
theorem State.copyOver_nodup (i : Fin 8) : ((s.copyOver l n c k w r).streams[i].window.map fun x => x.id).Nodup := by
  by_cases hi : i = n
  · subst hi
    have hids : ((s.copyOver l i c k w r).streams[i].window.map fun x => x.id) = s.streams[i].window.map fun x => x.id := by
      rw [State.copyOver_stream]
      simp only [List.map_map]
      refine List.map_congr_left fun x _ => ?_
      rw [Function.comp_apply]
      split <;> rfl
    rw [hids]
    exact hnodup i
  · rw [State.copyOver_other hi]
    exact hnodup i

/-- A chunk of a window is, but for its write records, one of before. -/
theorem State.mem_copyOver {i : Fin 8} {x : Chunk} (hx : x ∈ (s.copyOver l n c k w r).streams[i].window) :
    ∃ y ∈ s.streams[i].window, x = if i = n ∧ y.id = c.id then y.withWrites (y.resultOf k (r == .done)) else y := by
  by_cases hi : i = n
  · subst hi
    rw [State.copyOver_stream] at hx
    obtain ⟨y, hy, rfl⟩ := List.mem_map.mp hx
    exact ⟨y, hy, by simp only [true_and]⟩
  · rw [State.copyOver_other hi] at hx
    exact ⟨x, hx, (if_neg fun h => hi h.1).symm⟩

include hc hnodup in
/-- The windows after every chunk that counts against the entry has its outcome. -/
theorem State.copyOver_decided (slot : Nat) (o : Chunk → ChunkOutcome) (f g : Chunk → Ref)
    (hfg : ∀ (x : Chunk) (l : List CopyWrite), f (x.withWrites l) = f x) (hg : ∀ x, f x = g x) :
    (Vector.ofFn fun i : Fin 8 =>
      { (s.copyOver l n c k w r).streams[i] with
        window := (s.copyOver l n c k w r).streams[i].window.map fun x =>
          if x.target = .entry slot ∧ x.outcome = none then x.decided (o x) (f x) else x } : Vector Stream 8) =
      Vector.ofFn fun i =>
        { s.streams[i] with
          window := s.streams[i].window.map fun x =>
            let y := if i = n ∧ x.id = c.id then { x with writes := c.resultOf k (r == .done) } else x
            if x.target = .entry slot ∧ x.outcome = none then { y with outcome := some (o y), final := g x } else y } := by
  congr 1
  funext i
  by_cases hi : i = n
  · subst hi
    rw [State.copyOver_stream]
    simp only [List.map_map, true_and]
    congr 1
    refine List.map_congr_left fun x hx => ?_
    rw [Function.comp_apply]
    by_cases hid : x.id = c.id
    · have hxc : x = c := eq_of_same_id (hnodup i) hx (mem_window_of_chunk hc).1 hid
      rw [if_pos hid, if_pos hid, hxc]
      simp only [Chunk.decided, hfg, hg]
      rfl
    · rw [if_neg hid, if_neg hid]
      simp only [Chunk.decided, hg]
  · rw [State.copyOver_other hi]
    simp only [hi, false_and, if_false, Chunk.decided, hg]

end

section
variable {s : State} {n : Fin 8} {c : Chunk} {k : CopyName} {w : CopyWrite} {l : List CatReq} {r : WriteResult}
  (hc : s.chunk n c.id = some c) (hnodup : ∀ i : Fin 8, (s.streams[i].window.map fun x => x.id).Nodup)
include hc hnodup

/-- The chunk changed once more after its write's result, said as one change. -/
theorem State.copyOver_modChunk {f g : Chunk → Chunk} (hfg : f (c.withWrites (c.resultOf k (r == .done))) = g c) :
    (s.copyOver l n c k w r).modChunk n c.id f =
      { s.taking l with
        cat := s.cat.applyWrite w.loc (sectorsOf c.key.len) r
        streams := s.streams.set n { s.streams[n] with window := s.streams[n].window.map fun x => if x.id = c.id then g x else x } } := by
  let t : State := { s.taking l with cat := s.cat.applyWrite w.loc (sectorsOf c.key.len) r }
  have hcomp := t.modChunk_comp n c.id (fun x => x.modWrite k fun y => { y with result := some (r == .done) }) f fun _ => rfl
  have hwindow := map_window (hnodup n) (mem_window_of_chunk hc).1
    (fun x => f (x.modWrite k fun y => { y with result := some (r == .done) })) g hfg
  exact hcomp.trans (congrArg (fun l => { t with streams := s.streams.set n { s.streams[n] with window := l } }) hwindow)

end

/-- The outcome of a chunk that counted against an entry (R55, R61). -/
def sharedOutcome (live : Bool) (c : Chunk) : ChunkOutcome := if live then (if c.writes = [] then .duplicate else .new) else .lost

/-- A reference as it must stand once its entry has left PENDING (R64). -/
def Ref.settled (f : Ref) (live one : Bool) : Ref := if live then { f with oneCopy := f.oneCopy || one } else { f with lost := true }

theorem Chunk.entryOutcome_shared (c : Chunk) (live : Bool) : c.entryOutcome live = sharedOutcome live c := by
  cases live <;> simp [Chunk.entryOutcome, sharedOutcome]

theorem Chunk.entryRef_settled (c : Chunk) (live one : Bool) : c.entryRef live one = (c.ref.getD { key := c.key }).settled live one := rfl

section
variable {s : State} {n : Fin 8} {c : Chunk} {k : CopyName} {w : CopyWrite} {l : List CatReq} {r : WriteResult}
  (hc : s.chunk n c.id = some c) (hnodup : ∀ i : Fin 8, (s.streams[i].window.map fun x => x.id).Nodup)
include hc hnodup

/-- With no chunk of the entry RESOLVED, each that counts against it has its outcome and stays. -/
theorem State.copyOver_stays {slot : Nat} {e : Entry}
    (hphase : ∀ i : Fin 8, ∀ x ∈ s.streams[i].window, x.target = .entry slot → x.outcome = none → x.phase ≠ .resolved)
    (hfetch : s.noFetchWaits e.key) :
    (s.copyOver l n c k w r).leavePending slot e =
      { s.taking l with
        cat := (s.cat.applyWrite w.loc (sectorsOf c.key.len) r).setSlot slot (some e)
        engine := (s.taking l).engine.woken (s.waitsFor e.key)
        streams := Vector.ofFn fun i =>
          { s.streams[i] with
            window := s.streams[i].window.map fun x =>
              let y := if i = n ∧ x.id = c.id then { x with writes := c.resultOf k (r == .done) } else x
              if x.target = .entry slot ∧ x.outcome = none then
                { y with
                  outcome := some (sharedOutcome (e.st == .live) y)
                  final := (x.ref.getD { key := x.key }).settled (e.st == .live) e.b.isNone }
              else y } } := by
  have hphase' : ∀ i : Fin 8, ∀ x ∈ (s.copyOver l n c k w r).streams[i].window, x.target = .entry slot → x.outcome = none →
      x.phase ≠ .resolved := by
    intro i x hx hxt hxo
    obtain ⟨y, hy, rfl⟩ := State.mem_copyOver hx
    by_cases hyc : i = n ∧ y.id = c.id
    · rw [if_pos hyc] at hxt hxo ⊢
      exact hphase i y hy hxt hxo
    · rw [if_neg hyc] at hxt hxo ⊢
      exact hphase i y hy hxt hxo
  have hstays := State.leavePending_stays (s := s.copyOver l n c k w r) (e := e) (State.copyOver_nodup hnodup) hphase' hfetch
  have hdecided := State.copyOver_decided (l := l) (w := w) (k := k) (r := r) hc hnodup slot (sharedOutcome (e.st == .live))
    (fun x => (x.ref.getD { key := x.key }).settled (e.st == .live) e.b.isNone)
    (fun x => (x.ref.getD { key := x.key }).settled (e.st == .live) e.b.isNone) (fun _ _ => rfl) fun _ => rfl
  simp only [Chunk.entryOutcome_shared, Chunk.entryRef_settled] at hstays
  rw [hdecided] at hstays
  exact hstays

end

/-! ## The chunk that finishes at once, or is rewritten first -/

theorem State.modChunk_finishes (s : State) (n : Fin 8) (id : Nat) {f : Chunk → Chunk} (hf : ∀ x, (f x).id = x.id) (o : ChunkOutcome) :
    (s.modChunk n id f).modStream n (fun x => x.finishes id o) = s.modStream n fun x => x.finishes id o := by
  have hwindow : ((s.streams[n].window.map fun x => if x.id = id then f x else x).filter fun y => y.id != id) =
      s.streams[n].window.filter fun y => y.id != id := by
    generalize s.streams[n].window = l
    induction l with
    | nil => rfl
    | cons a l ih =>
      by_cases ha : a.id = id
      · rw [List.map_cons, if_pos ha, List.filter_cons_of_neg (by simp [hf, ha]), List.filter_cons_of_neg (by simp [ha]), ih]
      · rw [List.map_cons, if_neg ha, List.filter_cons_of_pos (by simp [ha]), List.filter_cons_of_pos (by simp [ha]), ih]
  rw [State.modChunk, State.modStream_modStream, State.modStream, State.modStream]
  exact congrArg (fun l => { s with streams := s.streams.set n { s.streams[n].finishes id o with window := l } }) hwindow

theorem StreamWork.count_congr (v : StreamWork) {c d : Chunk} (hslot : d.slot = c.slot) (o : ChunkOutcome) : v.count d o = v.count c o := by
  cases o <;> simp only [StreamWork.count, hslot]

theorem Stream.finishes_shared (x : Stream) (id : Nat) {p : Prop} [Decidable p] {l : List CopyWrite} (hl : l ≠ []) :
    x.finishes id (if p then (if l = [] then ChunkOutcome.duplicate else .new) else .lost) =
      { x with
        window := x.window.filter fun y => y.id != id
        finished := x.finished + 1
        new := if p then x.new + 1 else x.new
        lost := if p then x.lost else x.lost + 1 } := by
  by_cases hp : p <;> simp [Stream.finishes, hp, hl]

section
variable {s : State} {n : Fin 8} {c : Chunk} {k : CopyName} {w : CopyWrite} {l : List CatReq} {r : WriteResult} {slot i : Nat} {e : Entry}
  {j : Job} {v : StreamWork} {f : Ref}
  (hc : s.chunk n c.id = some c) (hnodup : ∀ i : Fin 8, (s.streams[i].window.map fun x => x.id).Nodup)
  (ht : c.target = .entry slot) (ho : c.outcome = none)
  (hone : ∀ i : Fin 8, ∀ x ∈ s.streams[i].window, x.target = .entry slot → x.outcome = none → i = n ∧ x = c)
  (hjob : s.job j.id = some j) (hjphase : j.phase = .stream v) (hfetch : s.noFetchWaits e.key)
  (hphase : c.phase = .resolved) (howner : c.owner = some j.id) (hslot : c.slot = some i) (href : c.ref = some f)

/-- The chunk with its write's result and its outcome. -/
def Chunk.overAs (c : Chunk) (k : CopyName) (r : WriteResult) (o : ChunkOutcome) (f : Ref) : Chunk :=
  (c.withWrites (c.resultOf k (r == .done))).decided o f

include hc hnodup ht ho hone in
/-- What the one chunk that counts against the entry comes to decides where the entry's end leads. -/
theorem State.copyOver_one {t : State}
    (htry : (State.modChunk { s.copyOver l n c k w r with cat := (s.copyOver l n c k w r).cat.setSlot slot (some e) } n c.id fun x =>
      x.decided (sharedOutcome (e.st == .live) (c.withWrites (c.resultOf k (r == .done))))
        ((c.ref.getD { key := c.key }).settled (e.st == .live) e.b.isNone)).tryFinish n c.id = t)
    (hfetch : t.noFetchWaits e.key) :
    (s.copyOver l n c k w r).leavePending slot e = { t with engine := t.engine.woken (t.waitsFor e.key) } := by
  refine State.leavePending_one (s := s.copyOver l n c k w r) (c := c.withWrites (c.resultOf k (r == .done))) (State.copyOver_chunk hc)
    (State.copyOver_nodup hnodup n) ht ho ?_ ?_ hfetch
  · intro i x hx hxt hxo
    obtain ⟨y, hy, rfl⟩ := State.mem_copyOver hx
    by_cases hyc : i = n ∧ y.id = c.id
    · rw [if_pos hyc] at hxt hxo ⊢
      obtain ⟨hin, rfl⟩ := hone i y hy hxt hxo
      exact ⟨hin, rfl⟩
    · rw [if_neg hyc] at hxt hxo ⊢
      obtain ⟨rfl, rfl⟩ := hone i y hy hxt hxo
      exact absurd ⟨rfl, rfl⟩ hyc
  · rw [Chunk.entryOutcome_shared, Chunk.entryRef_settled]
    exact htry

include hc in
theorem State.copyOver_decided_chunk (o : ChunkOutcome) (g : Ref) (m : Cat) :
    (State.modChunk { s.copyOver l n c k w r with cat := m } n c.id fun x => x.decided o g).chunk n c.id = some (c.overAs k r o g) :=
  State.chunk_modChunk (s := { s.copyOver l n c k w r with cat := m }) (c := c.withWrites (c.resultOf k (r == .done)))
    (State.copyOver_chunk hc) (fun x => x.decided o g) fun _ => rfl

include hc hnodup ht ho hone hjob hjphase hfetch hphase howner hslot href

theorem State.copyOver_finishes (hended : v.ended = false) {o : ChunkOutcome}
    (hout : sharedOutcome (e.st == .live) (c.withWrites (c.resultOf k (r == .done))) = o)
    (hsame : f.settled (e.st == .live) e.b.isNone = f) :
    (s.copyOver l n c k w r).leavePending slot e =
      { s.taking l with
        cat := (s.cat.applyWrite w.loc (sectorsOf c.key.len) r).setSlot slot (some e)
        engine := (s.taking l).engine.woken (s.waitsFor e.key)
        jobs := (s.goesTo j (.stream (v.count c o)) []).jobs
        streams := s.streams.set n (s.streams[n].finishes c.id o) } := by
  let m := (s.cat.applyWrite w.loc (sectorsOf c.key.len) r).setSlot slot (some e)
  let u : State := State.modChunk { s.copyOver l n c k w r with cat := m } n c.id fun x => x.decided o f
  let t : State := (({ s.taking l with cat := m } : State).setPhase j.id (.stream (v.count c o))).modStream n fun x => x.finishes c.id o
  have hchunk : u.chunk n c.id = some (c.overAs k r o f) := State.copyOver_decided_chunk hc o f m
  have hujob : u.job j.id = some j := hjob
  have hnow : u.tryFinish n c.id = u.finishNow n (c.overAs k r o f) o :=
    State.tryFinish_finishes (c := c.overAs k r o f) hchunk hphase rfl howner (State.work_of_job hujob hjphase) hslot href rfl
  have hfinish : u.finishNow n (c.overAs k r o f) o =
      (u.setPhase j.id (.stream (v.count (c.overAs k r o f) o))).modStream n fun x => x.finishes c.id o :=
    State.finishNow_eq hujob hjphase howner hended o
  have hcount : v.count (c.overAs k r o f) o = v.count c o := v.count_congr rfl o
  have hwindow : (u.setPhase j.id (.stream (v.count c o))).modStream n (fun x => x.finishes c.id o) = t :=
    ((State.modChunk_finishes
      (({ s.copyOver l n c k w r with cat := m } : State).setPhase j.id (.stream (v.count c o))) n c.id
      (f := fun x => x.decided o f) (fun _ => rfl) o)).trans
      (State.modChunk_finishes (({ s.taking l with cat := m } : State).setPhase j.id (.stream (v.count c o))) n c.id
        (f := fun x => x.modWrite k fun y => { y with result := some (r == .done) }) (fun _ => rfl) o)
  have hleave := State.copyOver_one (l := l) (w := w) (k := k) (r := r) (e := e) (t := t) hc hnodup ht ho hone
    (by
      rw [hout, href, Option.getD_some, hsame]
      exact hnow.trans (hfinish.trans (hcount ▸ hwindow)))
    (State.noFetchWaits_setPhase hfetch j.id (v.count c o))
  have hwaits : t.waitsFor e.key = s.waitsFor e.key := State.waitsFor_setPhase hjob hjphase e.key
  rw [hwaits] at hleave
  exact hleave

theorem State.copyOver_rewrites (hmute : c.mute = false) {o : ChunkOutcome}
    (hout : sharedOutcome (e.st == .live) (c.withWrites (c.resultOf k (r == .done))) = o) {g : Ref}
    (hg : f.settled (e.st == .live) e.b.isNone = g) (hne : g ≠ f) :
    (s.copyOver l n c k w r).leavePending slot e =
      { s.taking l with
        cat := (s.cat.applyWrite w.loc (sectorsOf c.key.len) r).setSlot slot (some e)
        engine := (s.taking l).engine.woken (s.waitsFor e.key)
        streams := s.streams.set n
          { s.streams[n] with
            window := s.streams[n].window.map fun x =>
              if x.id = c.id then
                { x with writes := c.resultOf k (r == .done), outcome := some o, final := g, ref := some g, phase := .rewriting }
              else x }
        out := { acts := [.hostWrite (v.recipe + BitVec.ofNat 64 (32 * i)) g.bytes] } } := by
  let m := (s.cat.applyWrite w.loc (sectorsOf c.key.len) r).setSlot slot (some e)
  let u : State := State.modChunk { s.copyOver l n c k w r with cat := m } n c.id fun x => x.decided o g
  have hchunk : u.chunk n c.id = some (c.overAs k r o g) := State.copyOver_decided_chunk hc o g m
  have hujob : u.job j.id = some j := hjob
  let out : Out := .hostWrite (v.recipe + BitVec.ofNat 64 (32 * i)) g.bytes
  have hnow : u.tryFinish n c.id = (u.modChunk n c.id fun x => { x with phase := .rewriting, ref := some x.final }).emit out :=
    State.tryFinish_rewrites (c := c.overAs k r o g) hchunk hphase rfl howner (State.work_of_job hujob hjphase) hslot hmute href hne
  have hcomp := State.modChunk_comp { s.copyOver l n c k w r with cat := m } n c.id (fun x => x.decided o g)
    (fun x => { x with phase := .rewriting, ref := some x.final }) fun _ => rfl
  have hmod := State.copyOver_modChunk (l := l) (w := w) (k := k) (r := r) hc hnodup
    (f := fun x => { x.decided o g with phase := .rewriting, ref := some (x.decided o g).final })
    (g := fun x => { x with writes := c.resultOf k (r == .done), outcome := some o, final := g, ref := some g, phase := .rewriting }) rfl
  let t : State := { s.taking l with
    cat := m
    streams := s.streams.set n { s.streams[n] with window := s.streams[n].window.map fun x => if x.id = c.id then
      { x with writes := c.resultOf k (r == .done), outcome := some o, final := g, ref := some g, phase := .rewriting } else x } }
  have hcat : u.modChunk n c.id (fun x => { x with phase := .rewriting, ref := some x.final }) = t :=
    hcomp.trans (congrArg (fun t : State => { t with cat := m }) hmod)
  have hleave := State.copyOver_one (l := l) (w := w) (k := k) (r := r) (e := e) (t := t.emit out) hc hnodup ht ho hone
    (by
      rw [hout, href, Option.getD_some, hg]
      exact hnow.trans (congrArg (fun t : State => t.emit out) hcat))
    hfetch
  exact hleave

end

/-! ## The index under placements -/

theorem Cat.setAuTested_index (c : Cat) (d : Fin 4) (a : Nat) (r : AuRec) : (c.setAuTested d a r).index = c.index := Cat.setAu_index ..

theorem Cat.applyWrite_index (c : Cat) (l : Loc) (n : Nat) (r : WriteResult) : (c.applyWrite l n r).index = c.index := by
  cases r <;> exact Cat.setAuTested_index ..

theorem Cat.reserveIn_index (c : Cat) (d : Fin 4) (a : Nat) (r : AuRec) (n : Nat) : (c.reserveIn d a r n).2.index = c.index :=
  Cat.setAu_index ..

theorem Cat.reserve_index (c : Cat) (d : Fin 4) (n : Nat) : (c.reserve d n).2.index = c.index := by
  unfold Cat.reserve
  split
  · split
    · exact Cat.reserveIn_index ..
    · simp only
      split
      · exact (Cat.reserveIn_index ..).trans (Cat.setAuTested_index ..)
      · exact Cat.setAuTested_index ..
  · split
    · exact Cat.reserveIn_index ..
    · rfl

theorem Cat.entry_of_index {c k : Cat} (h : c.index = k.index) : c.entry = k.entry := by
  funext i
  rw [Cat.entry, Cat.entry, h]

/-- Settles O36, by the end of the entry in each case: the chunks that count against it stay, finish or are rewritten. -/
theorem copyWritten : Obligations.CopyWritten := by
  intro s n c k w r l hp hh hq hc hw hepoch m a after writes withChunk base excluded candidate
  have hafter : s.cat.applyWrite w.loc m r = after := by cases r <;> rfl
  obtain ⟨hcopy, hmem⟩ := CopyWrite.copy_of_find hw
  have hexcluded : c.excluded w = excluded := by rw [Chunk.excluded, hcopy]
  refine ⟨fun hr hother => ?waits, fun d hr hsecond hd => ?placed, fun hfinal hrest hnodup => ?final⟩
  case waits =>
    subst hr
    obtain ⟨v, hv, hvk, hvr⟩ := hother
    refine writeOutcome_ends hp hh hq ?_
    rw [State.chunkOutcome_final hc hw hepoch (.inl rfl), State.settleChunk_waits (State.copyOver_chunk hc)]
    · rfl
    · exact List.any_eq_true.mpr ⟨v, List.mem_map.mpr ⟨v, hv, if_neg hvk⟩, by rw [hvr]; rfl⟩
  case placed =>
    refine writeOutcome_ends hp hh hq ?_
    have hd' : State.bestCandidate { s with cat := s.cat.applyWrite w.loc m r } m (c.excluded w) false = some d := by
      rw [hafter, hexcluded]
      exact hd
    have hentry : (after.reserve d m).2.entry = s.cat.entry :=
      Cat.entry_of_index ((Cat.reserve_index ..).trans (hafter ▸ Cat.applyWrite_index ..))
    have hplaced := State.replaceCopy_placed (l := l) (n := n) hw hsecond hd' (p := after.reserve d m) (by rw [hafter]) rfl
    rw [hentry] at hplaced
    rw [State.chunkOutcome_split hc hw hepoch, if_neg hr, hplaced]
    rfl
  case final =>
    have hfinal' : r = .done ∨ w.second = true ∨ State.bestCandidate { s with cat := s.cat.applyWrite w.loc m r } m (c.excluded w) false
        = none := by
      rw [hafter, hexcluded]
      exact hfinal
    have hout := State.chunkOutcome_final (l := l) hc hw hepoch hfinal'
    let c' : Chunk := c.withWrites (c.resultOf k (r == .done))
    have hc' : (s.copyOver l n c k w r).chunk n c.id = some c' := State.copyOver_chunk hc
    have hover : (c'.writes.any fun w => w.result.isNone) = false := by
      refine List.any_eq_false.mpr fun y hy => ?_
      obtain ⟨v, hv, rfl⟩ := List.mem_map.mp hy
      by_cases hvk : v.copy = k
      · simp [hvk]
      · simpa [hvk, ← Option.isSome_iff_ne_none] using hrest v hv hvk
    intro done locs
    refine ⟨fun slot e ht ho he hfetch => ?entry, fun ht hphase => ?unindexed⟩
    case unindexed =>
      intro f
      refine writeOutcome_ends hp hh hq (hout.trans ?_)
      have hstays : ∀ x ∈ (s.copyOver l n c k w r).streams[n].window, x.id = c.id → x.phase ≠ .resolved := by
        intro x hx hid
        obtain ⟨y, hy, rfl⟩ := State.mem_copyOver hx
        by_cases hyc : y.id = c.id
        · rw [if_pos ⟨rfl, hyc⟩, eq_of_same_id (hnodup n) hy (mem_window_of_chunk hc).1 hyc]
          exact hphase
        · rw [if_neg fun h => hyc h.2] at hid
          exact absurd hid hyc
      have hdecide := State.decideChunk_unresolved (s := s.copyOver l n c k w r) hstays
      cases hl : locs with
      | nil =>
        rw [State.settleChunk_lost hc' hover ht hl, hdecide, State.copyOver_modChunk hc hnodup
          (g := fun x => { x with writes := done, outcome := some .lost, final := { f with lost := true } }) rfl, hafter]
        rfl
      | cons y z =>
        have hadd := State.decideChunk_unresolved
          (s := (s.copyOver l n c k w r).modCat fun k => { k with unindexed := satInc top32 k.unindexed }) hstays .new
          (unindexedRef c'.key y z.head?)
        rw [State.settleChunk_unindexed hc' hover ht hl, hadd]
        have hmod := State.copyOver_modChunk (l := l) (w := w) hc hnodup (k := k) (r := r)
          (f := fun x => x.decided .new (unindexedRef c'.key y z.head?))
          (g := fun x => { x with
            writes := done, outcome := some .new
            final :=
              { key := c.key, unindexed := true, oneCopy := z = [], driveA := y.drive.val, sectorA := y.sector
                driveB := (z.head?.map fun b => b.drive.val).getD 0, sectorB := (z.head?.map fun b => b.sector).getD 0 } })
          (by cases z <;> rfl)
        rw [hafter] at hmod
        exact congrArg (fun t : State => State.modCat t fun k => { k with unindexed := satInc top32 k.unindexed }) hmod
    case entry =>
      have hindex : (s.copyOver l n c k w r).cat.entry slot = some e :=
        (congrFun (Cat.entry_of_index (Cat.applyWrite_index ..)) slot).trans he
      have hdone : c.resultOf k (r == .done) = done := rfl
      have hwritten : c'.written = locs := rfl
      have hleave := hout.trans (State.settleChunk_entry hc' hover ht hindex)
      have hlive := e.endedAt_live locs
      have hkey := e.endedAt_key locs
      have hfetch' : s.noFetchWaits (e.endedAt locs).key := hkey.symm ▸ hfetch
      have hnonempty : c.resultOf k (r == .done) ≠ [] := by
        rw [Chunk.resultOf, ne_eq, List.map_eq_nil_iff]
        exact List.ne_nil_of_mem hmem
      have hsettled : ∀ f : Ref, f.settled ((e.endedAt locs).st == .live) (e.endedAt locs).b.isNone =
          if locs ≠ [] then { f with oneCopy := f.oneCopy || (e.endedAt locs).b.isNone } else { f with lost := true } := fun f => by
        rw [hlive]
        exact if_congr decide_eq_true_iff rfl rfl
      have hshared : ∀ x : Chunk, sharedOutcome ((e.endedAt locs).st == .live) x =
          if locs ≠ [] then (if x.writes = [] then ChunkOutcome.duplicate else .new) else .lost := fun x => by
        rw [hlive]
        exact if_congr decide_eq_true_iff rfl rfl
      rw [hwritten] at hleave
      intro live ended
      have hended : e.endedAt locs = ended := rfl
      rw [hended] at hleave hlive hkey hfetch' hsettled hshared
      clear_value ended locs done
      subst hdone
      intro must outcome t
      have hcat : s.cat.applyWrite w.loc (sectorsOf c.key.len) r = after := hafter
      refine ⟨fun hphase => ?_, fun j v f i ⟨_, hjob⟩ hjphase hvended hone hphase howner hslot hmute href =>
        ⟨fun hsame => ?_, fun hne => ?_⟩⟩
      · refine writeOutcome_ends hp hh hq (hleave.trans ?_)
        refine (State.copyOver_stays hc hnodup hphase hfetch').trans ?_
        simp only [hshared, hsettled, hkey]
        rw [hcat]
        rfl
      · refine writeOutcome_ends hp hh hq (hleave.trans ?_)
        refine (State.copyOver_finishes hc hnodup ht ho hone hjob hjphase hfetch' hphase howner hslot href hvended rfl
          ((hsettled f).trans hsame)).trans ?_
        rw [hkey, hshared, hcat, Stream.finishes_shared (l := (c.withWrites (c.resultOf k (r == .done))).writes) _ _ hnonempty]
        rfl
      · refine writeOutcome_ends hp hh hq (hleave.trans ?_)
        refine (State.copyOver_rewrites hc hnodup ht ho hone hjob hjphase hfetch' hphase howner hslot href hmute rfl
          (hsettled f) hne).trans ?_
        rw [hkey, hshared, hcat]
        rfl

end Sys2Proof.Machine

/-! # Bad-read reports and the repair worker -/

namespace Sys2Proof.Machine

/-! ## Bad-read reports -/

theorem Cat.reportBad_good {c : Cat} {slot : Nat} {e : Entry} {k : CopyName} {x : Copy} (he : c.entry slot = some e) (hst : e.st ≠ .pending)
    (hx : e.copy k = some x) (hgood : x.st = .good) :
    c.reportBad slot e.key k x.loc = c.setSlot slot (some (e.setCopy k { x with st := .suspect })) := by
  simp only [Cat.reportBad, he, hx]
  exact if_pos ⟨trivial, hst, trivial, hgood⟩

theorem Cat.reportDamage_live {c : Cat} {slot : Nat} {e : Entry} (he : c.entry slot = some e) (hst : e.st = .live) :
    c.reportDamage slot e.key = c.setSlot slot (some { e with st := .damaged }) := by
  simp only [Cat.reportDamage, he]
  exact if_pos ⟨trivial, hst⟩

/-- Settles O37: the two reports, each taken while its entry stands. -/
theorem badReads : Obligations.BadReads := by
  intro s slot e l hp hh he
  refine ⟨fun k x hq hst hx hgood => ?_, fun hq hst => ?_⟩
  · exact takeRequest_ends hp hq hh
      (congrArg (fun c : Cat => { s.taking l with cat := c }) (Cat.reportBad_good he hst hx hgood)) rfl
  · exact takeRequest_ends hp hq hh (congrArg (fun c : Cat => { s.taking l with cat := c }) (Cat.reportDamage_live he hst)) rfl

/-! ## The repair worker -/

theorem State.scanRepairs_take {s : State} {e : RepairEntry} {src : Loc} (h : s.testRepair e = .take src) (l : List RepairEntry) :
    s.scanRepairs (e :: l) = (e :: l, some (e, src)) := by
  simp only [State.scanRepairs, h]

/-- The drive of the other copy, as a list. -/
theorem Entry.keptDrives_eq (e : Entry) (k : CopyName) :
    e.keptDrives k = match e.copy k.other with
      | some y => [y.loc.drive]
      | none => [] := by
  obtain ⟨key, refs, wanted, st, a, b, day⟩ := e
  cases k <;> cases b <;> rfl

theorem State.mirrorDrive_eq (s : State) (slot : Nat) (k : CopyName) :
    s.mirrorDrive slot k = match (s.scrub.bind fun x => x.step).bind fun p => if p.slot = slot then p.mirror else none with
      | some w => if w.place = k then [w.loc.drive] else []
      | none => [] := by
  rw [State.mirrorDrive]
  cases s.scrub.bind fun x => x.step with
  | none => rfl
  | some p =>
    obtain ⟨pslot, pkey, pcopies, pstage, pbuf, prewrites, pmirror⟩ := p
    by_cases h : pslot = slot <;> cases pmirror <;> simp [h]

section
variable {s : State} {e : RepairEntry} {src m : Loc} {buf : List Byte} {epoch : Nat} {second : Bool}

theorem State.placeRepair_placed (hw : s.repair.worker = .placing e src buf) {x : Entry}
    (hx : s.cat.standing e.slot e.key e.copy e.loc = some x) {d : Fin 4}
    (hd : s.bestCandidate (sectorsOf e.key.len) [src.drive] true = some d) :
    s.placeRepair = State.offerRepair { s with cat := (s.cat.reserve d (sectorsOf e.key.len)).2 } e src buf
      ⟨d, (s.cat.reserve d (sectorsOf e.key.len)).1⟩ false := by
  simp only [State.placeRepair, hw, hx, Option.isNone_some, Bool.false_eq_true, if_false, State.place_some hd]

/-- Where the entry's other copy has not been put on the new copy's drive, the new copy takes the old one's place (R167). -/
theorem State.updateRepair_moved (hw : s.repair.worker = .updating e src m epoch) {x : Entry} (hx : s.cat.checkRepair e m = some x) :
    s.updateRepair =
      ((s.modCat fun c => (c.giveUp e.loc (sectorsOf e.key.len)).setSlot e.slot (some (x.setCopy e.copy { loc := m }))).dropRepair
        e.slot e.copy).idleWorker := by
  simp only [State.updateRepair, hw, hx]

theorem State.updateRepair_given (hw : s.repair.worker = .updating e src m epoch) (hx : s.cat.checkRepair e m = none)
    (hepoch : s.drives[m.drive].epoch = epoch) :
    s.updateRepair = ((s.modCat fun c => c.giveUp m (sectorsOf e.key.len)).dropRepair e.slot e.copy).idleWorker := by
  simp only [State.updateRepair, hw, hx]
  exact congrArg (fun t : State => (t.dropRepair e.slot e.copy).idleWorker) (if_pos hepoch)

section
variable {r : WriteResult} {k : Cat} (hw : s.repair.worker = .writing e src buf m epoch second)
  (hepoch : s.drives[m.drive].epoch = epoch) (hk : s.cat.applyWrite m (sectorsOf e.key.len) r = k)
include hw hepoch hk

omit hw in
theorem State.auOutcome_applied : s.auOutcome m epoch (sectorsOf e.key.len) r = { s with cat := k } := by
  subst hk
  exact if_pos hepoch

theorem State.repairOutcome_done (hr : r = .done) :
    s.repairOutcome r = (State.setWorker { s with cat := k } (.updating e src m epoch)).request .repairUpdate := by
  have hau := State.auOutcome_applied hepoch hk
  subst hr
  simp only [State.repairOutcome, hw, hau]

theorem State.repairOutcome_asleep (hr : r = .asleep) : s.repairOutcome r = State.idleWorker { s with cat := k } := by
  have hau := State.auOutcome_applied hepoch hk
  subst hr
  simp only [State.repairOutcome, hw, hau]

variable (hr : r = .media ∨ r = .failed)
include hr

theorem State.repairOutcome_dropped (hheld : k.holdsCopy e.slot e.key e.copy e.loc = false) :
    s.repairOutcome r = (State.dropRepair { s with cat := k } e.slot e.copy).idleWorker := by
  have hau := State.auOutcome_applied hepoch hk
  obtain rfl | rfl := hr <;> simp only [State.repairOutcome, hw, hau, hheld, Bool.not_false, if_true]

variable (hheld : k.holdsCopy e.slot e.key e.copy e.loc = true) {ex : List (Fin 4)}
  (hex : State.repairExcluded { s with cat := k } e m = ex)
include hheld hex

theorem State.repairOutcome_requeued
    (h : second = true ∨ State.bestCandidate { s with cat := k } (sectorsOf e.key.len) ex true = none) :
    s.repairOutcome r = (State.requeueRepair { s with cat := k } e).idleWorker := by
  have hau := State.auOutcome_applied hepoch hk
  have hnone : (if second = true then none else State.place { s with cat := k } (sectorsOf e.key.len) ex true) = none := by
    obtain h | h := h
    · exact if_pos h
    · rw [State.place_none h, ite_self]
  obtain rfl | rfl := hr <;>
    simp only [State.repairOutcome, hw, hau, hheld, hex, hnone, Bool.not_true, Bool.false_eq_true, if_false]

theorem State.repairOutcome_placed (hsecond : second = false) {d : Fin 4}
    (hd : State.bestCandidate { s with cat := k } (sectorsOf e.key.len) ex true = some d) :
    s.repairOutcome r = State.offerRepair { s with cat := (k.reserve d (sectorsOf e.key.len)).2 } e src buf
      ⟨d, (k.reserve d (sectorsOf e.key.len)).1⟩ true := by
  have hau := State.auOutcome_applied hepoch hk
  obtain rfl | rfl := hr <;>
    simp only [State.repairOutcome, hw, hau, hheld, hex, hsecond, State.place_some hd, Bool.not_true, Bool.false_eq_true, if_false]

end

end

/-! ## Offers -/

section
variable {s t : State} {f : Offer} {l : List Offer} {r : OpOutcome}

/-- BACKGROUND work on a drive that is not READY, with no other work on its list, ends NOT_READY (R125). -/
theorem State.offerEnds_background (hrange : f.op.badRange s.drives[f.drive].capacity = false)
    (husable : s.drives[f.drive].usable = true) (hpower : s.drives[f.drive].power ≠ .ready) (hcls : f.op.cls = .background)
    (hwork : s.drives[f.drive].hasWork = false) : s.offerEnds f.drive f.op = some .notReady := by
  have hidle : (!s.drives[f.drive].hasWork) = true := by rw [hwork]; rfl
  have husable' : ¬(!s.drives[f.drive].usable) = true := by rw [husable]; decide
  refine (if_neg (Bool.eq_false_iff.mp hrange)).trans ((if_neg husable').trans ((if_neg hpower).trans ?_))
  split
  · rfl
  · exact if_pos ⟨hcls, hidle⟩

theorem State.takeOffer_refused (hoffers : s.offers = f :: l) (hends : State.offerEnds { s with offers := l } f.drive f.op = some r) :
    s.takeOffer = (State.hand { s with offers := l } f.drive f.op r).settle := by
  simp only [State.takeOffer, hoffers, hends]

theorem State.takeOffer_placed (hoffers : s.offers = f :: l) (hends : State.offerEnds { s with offers := l } f.drive f.op = none) :
    s.takeOffer = (State.modDrive { s with offers := l } f.drive fun x => x.placed f.op).settle := by
  simp only [State.takeOffer, hoffers, hends]

theorem offerRefused_ends (hp : s.powered = true) (hoffers : s.offers = f :: l) (hends : s.offerEnds f.drive f.op = some r)
    (hhand : State.hand { s.mute with offers := l } f.drive f.op r = t) : Ends s .operationOffer t.settle := by
  subst hhand
  exact run_ends_of (exec_operationOffer s) hp (State.takeOffer_refused (s := s.mute) hoffers hends)

end

/-- Settles O38, each outcome of a repair write by its own lemma. -/
theorem repairWorker : Obligations.RepairWorker := by
  intro s e src buf l q hp
  refine ⟨fun hidle hseq hlist htest => ?take, fun x d hh hq hw hx hd => ?placement, fun x m epoch hh hq hw hx => ?update,
    fun m epoch second r hh hq hw hepoch => ?outcome, fun f fs hoffers howner hkind hcls hrange husable hpower hwork => ?offer⟩
  case take =>
    refine run_ends_of (exec_repairTake s) hp ?_
    have htake : s.mute.repairMayTake = true := by
      simp only [State.repairMayTake, State.mute_repair, State.mute_box, hidle, hseq]
      rfl
    have hscan : s.mute.scanRepairs s.mute.repair.list = (e :: l, some (e, src)) := by
      rw [State.mute_repair, hlist]
      exact State.scanRepairs_take (s := s.mute) htest l
    rw [if_pos htake, hscan]
    exact congrArg (fun l => State.offer { s.mute with repair := ⟨l, .reading e src⟩ } src.drive .background .chunkRead src.sector
      (sectorsOf e.key.len) .repairRead []) hlist.symm
  case placement =>
    exact takeRequest_ends hp hq hh (State.placeRepair_placed (s := s.taking q) hw hx hd) rfl
  case update =>
    refine ⟨fun hother => ?_, fun y hy hdrive hepoch => ?_⟩
    · have hcheck : s.cat.checkRepair e m = some x := Cat.checkRepair_iff.mpr ⟨hx, fun hmem => by
        obtain ⟨y, hy, hdrive⟩ := Entry.mem_keptDrives.mp hmem
        exact hother y hy hdrive⟩
      exact takeRequest_ends hp hq hh (State.updateRepair_moved (s := s.taking q) hw hcheck) rfl
    · have hcheck : s.cat.checkRepair e m = none := by
        refine Option.eq_none_iff_forall_ne_some.mpr fun z hz => ?_
        obtain ⟨hz, hkept⟩ := Cat.checkRepair_iff.mp hz
        obtain rfl : x = z := Option.some.inj (hx.symm.trans hz)
        exact hkept (Entry.mem_keptDrives.mpr ⟨y, hy, hdrive⟩)
      exact takeRequest_ends hp hq hh (State.updateRepair_given (s := s.taking q) hw hcheck hepoch) rfl
  case outcome =>
    intro sectors a after base without held other mirrored candidate
    have hafter : s.cat.applyWrite m sectors r = after := by cases r <;> rfl
    have hends : ∀ {u : State}, (s.taking q).repairOutcome r = u → u.engine.ckpt = s.engine.ckpt → Ends s .writeOutcome u :=
      fun hu hc => takeRequest_ends hp hq hh hu hc
    refine ⟨fun hr => hends (State.repairOutcome_done (s := s.taking q) hw hepoch hafter hr) rfl,
      fun hr => hends (State.repairOutcome_asleep (s := s.taking q) hw hepoch hafter hr) rfl, fun hr => ?_⟩
    have hentry : after.entry e.slot = s.cat.entry e.slot :=
      congrFun (Cat.entry_of_index (hafter ▸ Cat.applyWrite_index ..)) e.slot
    have hheld : after.holdsCopy e.slot e.key e.copy e.loc = true ↔ held := by
      rw [Cat.holdsCopy_iff, hentry]
    have hexcluded : State.repairExcluded { s.taking q with cat := after } e m = m.drive :: other ++ mirrored := by
      have hother : ((after.entry e.slot).elim [] fun x => x.keptDrives e.copy) = other := by
        rw [hentry]
        unfold other
        cases s.cat.entry e.slot with
        | none => rfl
        | some x => exact x.keptDrives_eq e.copy
      have hmirrored : State.mirrorDrive { s.taking q with cat := after } e.slot e.copy.other = mirrored :=
        State.mirrorDrive_eq _ _ _
      rw [State.repairExcluded, hother, hmirrored]
    have hcandidate : State.bestCandidate { s.taking q with cat := after } sectors (m.drive :: other ++ mirrored) true = candidate :=
      State.bestCandidate_congr (s := { s with cat := after }) rfl ⟨rfl, rfl, rfl, rfl⟩ _ _ _
    refine ⟨fun hnot => ?_, fun hyes hlast => ?_, fun d hyes hsecond hd => ?_⟩
    · exact hends (State.repairOutcome_dropped (s := s.taking q) hw hepoch hafter hr (Bool.eq_false_iff.mpr (mt hheld.mp hnot))) rfl
    · exact hends (State.repairOutcome_requeued (s := s.taking q) hw hepoch hafter hr (hheld.mpr hyes) hexcluded
        (hcandidate ▸ hlast)) rfl
    · exact hends (State.repairOutcome_placed (s := s.taking q) hw hepoch hafter hr (hheld.mpr hyes) hexcluded hsecond
        (hcandidate.trans hd)) rfl
  case offer =>
    refine offerRefused_ends hp hoffers (State.offerEnds_background hrange husable hpower hcls hwork) ?_
    have hlabel : State.labelOp { s.mute with offers := fs } f.drive f.op .notReady = { s.mute with offers := fs } := by
      simp only [State.labelOp, hkind]
    have hwritten : s.repairWritten .notReady = if s.box.seq.isSome ∨ s.box.st = .sleep then .asleep else .failed :=
      if_congr (and_iff_right rfl) rfl rfl
    simp only [State.hand, hlabel, howner]
    exact congrArg (fun r => State.request { s.mute with offers := fs } (.writeOutcome .repair r)) hwritten

end Sys2Proof.Machine

/-! # FETCH of one reference -/

namespace Sys2Proof.Machine

/-! ## A FETCH's progress -/

theorem State.fetchWork_of_job {s : State} {id : Nat} {j : Job} {w : FetchWork} (h : s.job id = some j) (hphase : j.phase = .fetching w) :
    s.fetchWork id = some w := by
  obtain ⟨i, chain, rec, notify, req, phase, fails⟩ := j
  obtain rfl : phase = .fetching w := hphase
  simp only [State.fetchWork, h]

theorem State.modFetch_eq {s : State} {id : Nat} {w : FetchWork} (h : s.fetchWork id = some w) (f : FetchWork → FetchWork) :
    s.modFetch id f = s.setPhase id (.fetching (f w)) := by
  simp only [State.modFetch, h]

section
variable {s : State} {id : Nat} {j : Job} {w : FetchWork} {r : FetchRef} (hjob : s.job id = some j) (hphase : j.phase = .fetching w)
  (hrefs : w.refs = [r])
include hjob hphase hrefs

theorem State.fetchWrite_one (v : FetchWork) (x : FetchRef) (chunk : Bool) (count : FetchCount) (bytes : List Byte) :
    s.fetchWrite id 0 v x chunk count bytes =
      (s.setPhase id (.fetching { w with refs := [{ r with st := .writing chunk, count := count }] })).emit
        (.hostWrite (v.dest + BitVec.ofNat 64 x.offset) bytes) := by
  have hmod : w.modRef 0 (fun r => { r with st := .writing chunk, count := count }) =
      { w with refs := [{ r with st := .writing chunk, count := count }] } := by
    rw [FetchWork.modRef, hrefs]
    rfl
  rw [State.fetchWrite, State.modFetch_eq (State.fetchWork_of_job hjob hphase), hmod]

theorem State.fetchZero_one (v : FetchWork) (x : FetchRef) (count : FetchCount) (y : Status) :
    s.fetchZero id 0 v x count y =
      (s.setPhase id (.fetching
        { w with refs := [{ r with st := .writing false, count := count }], status := w.status.worse y })).emit
        (.hostWrite (v.dest + BitVec.ofNat 64 x.offset) (zeros x.ref.key.len)) := by
  let v' : FetchWork := { w with refs := [{ r with st := .writing false, count := count }] }
  let t : State := (s.setPhase id (.fetching v')).emit (.hostWrite (v.dest + BitVec.ofNat 64 x.offset) (zeros x.ref.key.len))
  have hwork : t.fetchWork id = some v' := State.fetchWork_of_job (s := t) (State.job_setPhase hjob (.fetching v')) rfl
  rw [State.fetchZero, State.fetchWrite_one hjob hphase hrefs]
  refine (State.modFetch_eq hwork fun w => w.meets y).trans ?_
  exact congrArg (fun t : State => t.emit (.hostWrite (v.dest + BitVec.ofNat 64 x.offset) (zeros x.ref.key.len)))
    (State.setPhase_setPhase s id (.fetching v') _)

/-- The copy chosen is read, with none to offer to the repair list (R158). -/
theorem State.fetchChoose_one {x : FetchRef} {n : CopyName} {c : Copy} (hchoose : s.chooseCopy x.a x.b x.seen = some (n, c))
    (hmissing : s.fetchMissing x = s) (v : FetchWork) :
    s.fetchChoose id 0 v x =
      (s.setPhase id (.fetching { w with refs := [{ x with st := .reading n c.loc }] })).offer c.loc.drive .interactive .chunkRead c.loc.sector
        (sectorsOf x.ref.key.len) (.fetch id 0) [] := by
  have hmod : w.modRef 0 (fun _ => { x with st := .reading n c.loc }) = { w with refs := [{ x with st := .reading n c.loc }] } := by
    rw [FetchWork.modRef, hrefs]
    rfl
  simp only [State.fetchChoose, hchoose, hmissing, State.modFetch_eq (State.fetchWork_of_job hjob hphase), hmod]

/-- The lookup of the one reference (R157). -/
theorem State.fetchLookup_unindexed (hu : r.ref.unindexed = true) (hl : r.ref.lost = true) :
    s.fetchLookup id 0 = s.fetchZero id 0 w r .damaged .damagedData := by
  simp only [State.fetchLookup, State.fetchWork_of_job hjob hphase, hrefs, List.getElem?_cons_zero, hu, hl, if_true]

theorem State.fetchLookup_missing (hu : r.ref.unindexed = false) (hl : ∀ slot e, s.cat.lookup r.ref.key ≠ .found slot e) :
    s.fetchLookup id 0 = s.fetchZero id 0 w r .notFound .notFound := by
  simp only [State.fetchLookup, State.fetchWork_of_job hjob hphase, hrefs, List.getElem?_cons_zero, hu, Bool.false_eq_true, if_false]
  cases h : s.cat.lookup r.ref.key with
  | found slot e => exact absurd h (hl slot e)
  | room slot => rfl
  | full => rfl

variable {slot : Nat} {e : Entry} (hl : s.cat.lookup r.ref.key = .found slot e)
include hl

theorem State.fetchLookup_pending (hu : r.ref.unindexed = false) (hst : e.st = .pending) :
    s.fetchLookup id 0 = s.modFetch id fun w => w.modRef 0 fun r => { r with st := .waiting } := by
  simp only [State.fetchLookup, State.fetchWork_of_job hjob hphase, hrefs, List.getElem?_cons_zero, hu, hl, hst, Bool.false_eq_true, if_false]

theorem State.fetchLookup_damaged (hu : r.ref.unindexed = false) (hst : e.st = .damaged) :
    s.fetchLookup id 0 = s.fetchZero id 0 w r .damaged .damagedData := by
  simp only [State.fetchLookup, State.fetchWork_of_job hjob hphase, hrefs, List.getElem?_cons_zero, hu, hl, hst, Bool.false_eq_true, if_false]

theorem State.fetchLookup_live (hu : r.ref.unindexed = false) (hst : e.st = .live) :
    s.fetchLookup id 0 = s.fetchChoose id 0 w { r with slot := slot, a := some e.a, b := e.b } := by
  simp only [State.fetchLookup, State.fetchWork_of_job hjob hphase, hrefs, List.getElem?_cons_zero, hu, hl, hst, Bool.false_eq_true, if_false]

end

/-! ## The choice among one copy -/

theorem State.chooseCopy_one {s : State} {x : Copy} {tried : List CopyName} (h : s.eligible tried (.a, x) = true) :
    s.chooseCopy (some x) none tried = some (.a, x) := by
  have hok : [(CopyName.a, x)].filter (s.eligible tried) = [(.a, x)] := List.filter_cons_of_pos h
  have hgood : ∀ l, l = [(CopyName.a, x)].filter (fun p => p.2.st == .good) →
      (if l.isEmpty then [(CopyName.a, x)] else l) = [(CopyName.a, x)] := by
    rintro l rfl
    cases hst : x.st == .good <;> simp [hst]
  simp only [State.chooseCopy, List.append_nil, hok, hgood _ rfl]
  rfl

theorem State.chooseCopy_tried (s : State) (x : Option Copy) {tried : List CopyName} (h : tried.contains .a = true) :
    s.chooseCopy x none tried = none := by
  cases x with
  | none => rfl
  | some x =>
    have hok : [(CopyName.a, x)].filter (s.eligible tried) = [] :=
      List.filter_cons_of_neg (by simp only [State.eligible, h, Bool.not_true, Bool.and_false, Bool.false_eq_true, not_false_eq_true])
    simp only [State.chooseCopy, List.append_nil, hok]
    rfl

/-- With no second copy none is skipped. -/
theorem State.fetchMissing_one (s : State) {x : FetchRef} (hb : x.b = none) : s.fetchMissing x = s := by
  simp only [State.fetchMissing, hb, Option.any_none, Bool.false_eq_true, and_false, false_and, if_false]
  split
  · rfl
  · cases x.a <;> rfl

/-! ## The list read -/

section
variable {s : State} {j : Job} (hj : s.holds j) (hphase : j.phase = .fetchList)
include hj hphase

theorem fetchListFails_ends : Ends s (.fetchListReadDone j.id none) (s.reports j { status := .hostMemoryError }) := by
  obtain ⟨hp, hjob⟩ := hj
  refine run_ends_of (exec_fetchListReadDone _ _ s) hp ?_
  have hm : s.mute.job j.id = some j := hjob
  simp only [State.fetchListRead, hm, hphase, ne_eq, not_true_eq_false, if_false]
  exact State.complete_reports hjob _

variable {list dest : Addr} {n cap : Nat} (hreq : j.req = .fetch list n cap dest) {b : List Byte} {r : Ref} (hrefs : readRefs n b = [r])
include hrefs hreq

theorem fetchListRefused_ends (hlen : r.key.len = 0 ∨ 1048576 < r.key.len) :
    Ends s (.fetchListReadDone j.id (some b)) (s.reports j { status := .badParam }) := by
  obtain ⟨hp, hjob⟩ := hj
  refine run_ends_of (exec_fetchListReadDone _ _ s) hp ?_
  have hm : s.mute.job j.id = some j := hjob
  have hbad : [r].any badLength = true := by simpa [badLength] using hlen
  simp only [State.fetchListRead, hm, hphase, hreq, JobReq.fetchParams, hrefs, hbad, ne_eq, not_true_eq_false, if_false, if_true]
  exact State.complete_reports hjob _

/-- The one reference is looked up (R156). -/
theorem fetchListRead_ends (h1 : 1 ≤ r.key.len) (h2 : r.key.len ≤ 1048576) (hcap : r.key.len ≤ cap) {u : State}
    (hu : (s.mute.setPhase j.id (.fetching { dest := dest, refs := [{ ref := r }] })).fetchLookup j.id 0 = u) :
    Ends s (.fetchListReadDone j.id (some b)) u := by
  obtain ⟨hp, hjob⟩ := hj
  refine run_ends_of (exec_fetchListReadDone _ _ s) hp ?_
  have hm : s.mute.job j.id = some j := hjob
  have hgood : [r].any badLength = false := by
    have h0 : r.key.len ≠ 0 := by omega
    simp [badLength, h0, h2]
  have hserved : servedPrefix cap [r] 0 = [{ ref := r }] := if_pos (by omega)
  have hstart : startFetch [r] cap dest = { dest := dest, refs := [{ ref := r }] } := by
    rw [startFetch, hserved]
    rfl
  simp only [State.fetchListRead, hm, hphase, hreq, JobReq.fetchParams, hrefs, hgood, hstart, ne_eq, not_true_eq_false, if_false,
    Bool.false_eq_true]
  exact hu

end

/-! ## The read answered -/

theorem State.fetchChoose_damaged {s : State} {id : Nat} {x : FetchRef} (hnone : s.chooseCopy x.a x.b x.seen = none)
    (htried : x.tried.isEmpty = false) (hu : x.ref.unindexed = false) (w : FetchWork) :
    s.fetchChoose id 0 w x = (s.request (.damage x.slot x.ref.key)).fetchZero id 0 w x .damaged .damagedData := by
  simp only [State.fetchChoose, hnone, htried, hu, Bool.false_eq_true, if_false]

/-- A bad verdict on the only copy of an indexed reference (R160). -/
theorem State.fetchBad_one {s : State} {id : Nat} {r : FetchRef} {l : Loc} (hu : r.ref.unindexed = false) (hb : r.b = none) (w : FetchWork)
    (reason : RepairReason) :
    s.fetchBad id 0 w r .a l reason =
      ((s.request (.badCopy r.slot r.ref.key .a l)).request (.damage r.slot r.ref.key)).fetchZero id 0 w { r with tried := .a :: r.tried } .damaged
        .damagedData := by
  let x : FetchRef := { r with tried := .a :: r.tried }
  let t : State := s.request (.badCopy r.slot r.ref.key .a l)
  have hnone : t.chooseCopy x.a x.b x.seen = none := by
    change t.chooseCopy r.a r.b x.seen = none
    rw [hb]
    exact t.chooseCopy_tried r.a rfl
  have hkept : (if (t.chooseCopy x.a x.b x.seen).isSome then t.addBadCopy r.slot r.ref.key .a l reason else t) = t :=
    if_neg (by simp [hnone])
  refine (if_neg (Bool.eq_false_iff.mp hu)).trans ?_
  exact (congrArg (fun t : State => t.fetchChoose id 0 w x) hkept).trans (State.fetchChoose_damaged hnone rfl hu w)

/-- The offset 0 of the first reference. -/
theorem addr_add_zero (a : Addr) : a + BitVec.ofNat 64 0 = a := BitVec.add_zero a

/-! ## The destination write -/

theorem FetchWork.modRef_one {w : FetchWork} {x : FetchRef} (hrefs : w.refs = [x]) (f : FetchRef → FetchRef) :
    w.modRef 0 f = { w with refs := [f x] } := by
  rw [FetchWork.modRef, hrefs]
  rfl

theorem State.fetchComplete_settled {s : State} {j : Job} {v : FetchWork} {x : FetchRef} (hjob : s.job j.id = some j)
    (hrefs : v.refs = [x]) (hst : x.st = .settled) :
    (s.mute.setPhase j.id (.fetching v)).fetchComplete j.id = s.reports j v.result := by
  have hwork : (s.mute.setPhase j.id (.fetching v)).fetchWork j.id = some v :=
    State.fetchWork_of_job (State.job_setPhase (s := s.mute) hjob _) rfl
  have hall : (v.refs.all fun r => r.st == .settled) = true := by simp [hrefs, hst]
  simp only [State.fetchComplete, hwork, hall, if_true]
  exact State.complete_setPhase (s := s) (t := s.mute.setPhase j.id (.fetching v)) (p := .fetching v) hjob rfl rfl _

/-- The destination write of the one reference's chunk ends (R161). -/
theorem State.fetchWritten_one {s : State} {j : Job} {w : FetchWork} {x : FetchRef} (hjob : s.job j.id = some j)
    (hphase : j.phase = .fetching w) (hrefs : w.refs = [x]) (hst : x.st = .writing true) (ok : Bool) :
    s.mute.fetchWritten j.id 0 ok =
      s.reports j
        (FetchWork.result
          { w with
            refs := [{ x with st := .settled, count := if ok then .delivered else .none }]
            status := if ok then w.status else w.status.worse .hostMemoryError }) := by
  have hwork : s.mute.fetchWork j.id = some w := State.fetchWork_of_job (s := s.mute) hjob hphase
  simp only [State.fetchWritten, hwork, hrefs, List.getElem?_cons_zero, hst, FetchWork.modRef_one hrefs, if_true]
  cases ok <;> exact State.fetchComplete_settled hjob rfl rfl

theorem State.request_request (s : State) (a b : CatReq) :
    (s.request a).request b = { s with engine := { s.engine with requests := s.engine.requests ++ [a, b] } } :=
  congrArg (fun l => { s with engine := { s.engine with requests := l } }) (List.append_assoc s.engine.requests [a] [b])

theorem goodRead_iff {k : Key} {x : List Byte} : goodRead k x = true ↔ fingerprint (x.take k.len) = k.fp := beq_iff_eq

section
variable {s : State} {j : Job} {w : FetchWork} {r : FetchRef} {l : Loc} {d : Fin 4} {o : Op} (hjob : s.job j.id = some j)
  (hphase : j.phase = .fetching w) (hrefs : w.refs = [r]) (hst : r.st = .reading .a l) (howner : o.owner = .fetch j.id 0)
  (hkind : o.kind = .chunkRead)
include hjob hphase hrefs hst howner hkind

theorem State.fetchRead_hand (x : List Byte) :
    s.hand d o (.done x) =
      if goodRead r.ref.key x then s.fetchWrite j.id 0 w r true .none (x.take r.ref.key.len)
      else s.fetchBad j.id 0 w r .a l .verifyFail := by
  simp only [State.hand, State.labelOp, hkind, howner, State.fetchOp, State.fetchWork_of_job hjob hphase, hrefs, List.getElem?_cons_zero, hst]

theorem State.fetchRead_good {x : List Byte} (hgood : fingerprint (x.take r.ref.key.len) = r.ref.key.fp) :
    s.hand d o (.done x) =
      (s.setPhase j.id (.fetching { w with refs := [{ r with st := .writing true, count := .none }] })).emit
        (.hostWrite (w.dest + BitVec.ofNat 64 r.offset) (x.take r.ref.key.len)) := by
  rw [State.fetchRead_hand hjob hphase hrefs hst howner hkind, if_pos (goodRead_iff.mpr hgood)]
  exact State.fetchWrite_one hjob hphase hrefs ..

theorem State.fetchRead_bad {x : List Byte} (hbad : fingerprint (x.take r.ref.key.len) ≠ r.ref.key.fp) (hu : r.ref.unindexed = false)
    (hb : r.b = none) :
    s.hand d o (.done x) =
      (({ s with engine := { s.engine with
          requests := s.engine.requests ++ [.badCopy r.slot r.ref.key .a l, .damage r.slot r.ref.key] } } : State).setPhase j.id (.fetching
        { w with refs := [{ r with st := .writing false, count := .damaged }], status := w.status.worse .damagedData })).emit
        (.hostWrite (w.dest + BitVec.ofNat 64 r.offset) (zeros r.ref.key.len)) := by
  have hzero := State.fetchZero_one (s := (s.request (.badCopy r.slot r.ref.key .a l)).request (.damage r.slot r.ref.key)) hjob hphase hrefs
    w { r with tried := .a :: r.tried } .damaged .damagedData
  rw [State.request_request] at hzero
  rw [State.fetchRead_hand hjob hphase hrefs hst howner hkind, if_neg (mt goodRead_iff.mp hbad), State.fetchBad_one hu hb,
    State.request_request]
  exact hzero

end

/-- Settles O39, by the lookup, the read and the destination write of the one reference. -/
theorem fetchAndDelivery : Obligations.FetchAndDelivery := by
  refine ⟨fun s j list n cap dest hreq => ⟨fun hj => ?checks, fun hj hphase => ?list⟩,
    fun s j w r l d o c again data v hj hphase hrefs hst hops howner hkind hw hlast hport => ?read, fun s j hj => ?delivered⟩
  case checks =>
    obtain ⟨hp, hd, hjob⟩ := hj
    have hm : s.mute.dispatched 1 = some j := hd
    obtain ⟨id, chain, rec, notify, req, phase, fails⟩ := j
    obtain rfl : req = _ := hreq
    have hrow := run_ends (exec_fetch s) hp
    simp only [hm] at hrow
    refine ⟨fun hbad => ?_, fun h1 h2 hgood hdest hcap => ?_⟩
    · refine Ends.of_eq hrow ((if_pos (hbad.imp_right fun h => h.imp_right fun h => h.imp_left fun h => ?_)).trans (State.complete_reports hjob _))
      rw [h]
      rfl
    · have hfine : ¬(n = 0 ∨ 4096 < n ∨ (!goodAddr 32 list) = true ∨ dest = 0 ∨ cap = 0) := by
        rw [hgood]
        exact fun h => h.elim (Nat.ne_of_gt h1) fun h => h.elim (Nat.not_lt.mpr h2) fun h => h.elim nofun fun h => h.elim hdest hcap
      refine ⟨fun hst => Ends.of_eq hrow ((if_neg hfine).trans ((if_pos hst).trans (State.complete_reports hjob _))),
        fun hst => Ends.of_eq hrow ((if_neg hfine).trans ((if_neg (not_not.mpr hst)).trans rfl))⟩
  case list =>
    refine ⟨fetchListFails_ends hj hphase, fun b r hrefs => ⟨fetchListRefused_ends hj hphase hreq hrefs, fun h1 h2 hcap hu => ?_,
      fun h1 h2 hcap hu hl => ?_⟩⟩
    all_goals
      have hends := fun {u} => fetchListRead_ends hj hphase hreq hrefs h1 h2 hcap (u := u)
      let w : FetchWork := { dest := dest, refs := [{ ref := r }] }
      let t : State := s.mute.setPhase j.id (.fetching w)
      have hjob : t.job j.id = some { j with phase := .fetching w } := State.job_setPhase (s := s.mute) hj.2 _
      have hzero : ∀ (count : FetchCount) (y : Status), t.fetchZero j.id 0 w { ref := r } count y =
          s.goesTo j (.fetching { w with refs := [{ ref := r, st := .writing false, count := count }], status := Status.ok.worse y })
            [.hostWrite dest (zeros r.key.len)] := fun count y => by
        rw [State.fetchZero_one hjob rfl rfl, State.setPhase_setPhase, addr_add_zero]
        rfl
    · refine ⟨fun hnone => hends ((State.fetchLookup_missing hjob rfl rfl hu hnone).trans (hzero _ _)), fun slot e hl => ⟨fun hst => ?_,
        fun hst => ?_⟩, fun slot e hl hst hb helig => ?_⟩
      · refine hends ((State.fetchLookup_pending hjob rfl rfl (r := { ref := r }) hl hu hst).trans
          ((State.modFetch_eq (State.fetchWork_of_job hjob rfl) _).trans ?_))
        exact State.setPhase_setPhase ..
      · exact hends ((State.fetchLookup_damaged hjob rfl rfl hl hu hst).trans (hzero _ _))
      · let x : FetchRef := { ref := r, slot := slot, a := some e.a, b := e.b }
        have hchoose : t.chooseCopy x.a x.b x.seen = some (.a, e.a) := by
          change t.chooseCopy (some e.a) e.b [] = _
          rw [hb]
          exact State.chooseCopy_one helig
        refine hends ((State.fetchLookup_live hjob rfl rfl (r := { ref := r }) hl hu hst).trans ((State.fetchChoose_one hjob rfl rfl hchoose (t.fetchMissing_one hb) w).trans ?_))
        rw [State.setPhase_setPhase]
        simp only [x, hb]
        rfl
    · exact hends ((State.fetchLookup_unindexed hjob rfl rfl hu hl).trans (hzero _ _))
  case read =>
    intro drives bytes place
    obtain ⟨hp, hjob⟩ := hj
    have hkind' : o.kind ≠ .tempPoll := hkind ▸ nofun
    refine ⟨fun hgood => ?_, fun hbad hu hb => ?_⟩
    · exact onlyOp_done_ends (t := ((s.mute.opLeft d).setPhase j.id (.fetching
        { w with refs := [{ r with st := .writing true, count := .none }] })).emit (.hostWrite place bytes)) hp hops hw hport rfl hkind'
        hlast.ge (State.fetchRead_good (s := s.mute.opLeft d) hjob hphase hrefs hst howner hkind hgood)
    · let u : State := { s.mute.opLeft d with engine := { s.engine with
        requests := s.engine.requests ++ [.badCopy r.slot r.ref.key .a l, .damage r.slot r.ref.key] } }
      exact onlyOp_done_ends (t := (u.setPhase j.id (.fetching
        { w with refs := [{ r with st := .writing false, count := .damaged }], status := w.status.worse .damagedData })).emit
        (.hostWrite place (zeros r.ref.key.len))) hp hops hw hport rfl hkind' hlast.ge
        (State.fetchRead_bad (s := s.mute.opLeft d) hjob hphase hrefs hst howner hkind hbad hu hb)
  case delivered =>
    obtain ⟨hp, hjob⟩ := hj
    have hm : s.mute.job j.id = some j := hjob
    refine ⟨fun w x hphase hrefs hst => ?_, fun r i hphase => ?_⟩
    · have hdone : ∀ ok, Ends s (.destinationWriteDone j.id 0 ok) (s.reports j _) := fun ok => by
        refine run_ends_of (exec_destinationWriteDone _ _ _ s) hp ?_
        simp only [hm, hphase]
        exact State.fetchWritten_one hjob hphase hrefs hst ok
      exact ⟨hdone true, hdone false⟩
    · refine run_ends_of (exec_destinationWriteDone _ _ _ s) hp ?_
      simp only [hm, hphase]
      exact (if_pos rfl).trans (State.complete_reports hjob _)

end Sys2Proof.Machine

/-! # The host area -/

namespace Sys2Proof.Machine

theorem catIndex_catDrive : ∀ i : Fin 2, catIndex (catDrive i) = some i := by decide

/-! ## The checks -/

theorem State.blockRefusal_badParam {s : State} {first n : Nat} {a : Addr}
    (h : n = 0 ∨ 256 < n ∨ a = 0 ∨ s.cat.st = .ready ∧ s.cat.geo.h * 1024 < first + n) : s.blockRefusal first n a = some .badParam := by
  by_cases hbad : badBlock n a = true
  · exact if_pos hbad
  · have hfine : ¬(n = 0 ∨ 256 < n ∨ a = 0) := by simpa [badBlock, or_assoc] using hbad
    obtain ⟨hst, hrange⟩ : s.cat.st = .ready ∧ s.cat.geo.h * 1024 < first + n := by tauto
    exact (if_neg hbad).trans ((if_neg (not_not.mpr hst)).trans (if_pos hrange))

theorem badBlock_fine {n : Nat} {a : Addr} (h1 : 1 ≤ n) (h2 : n ≤ 256) (ha : a ≠ 0) : ¬badBlock n a = true := by
  simp only [badBlock, Bool.or_eq_true, beq_iff_eq, decide_eq_true_eq]
  exact fun h => h.elim (fun h => h.elim (Nat.ne_of_gt h1) (Nat.not_lt.mpr h2)) ha

section
variable {s : State} {first n : Nat} {a : Addr} (h1 : 1 ≤ n) (h2 : n ≤ 256) (ha : a ≠ 0)
include h1 h2 ha

theorem State.blockRefusal_noCatalogue (hst : s.cat.st ≠ .ready) : s.blockRefusal first n a = some .noCatalogue :=
  (if_neg (badBlock_fine h1 h2 ha)).trans (if_pos hst)

theorem State.blockRefusal_none (hst : s.cat.st = .ready) (hrange : first + n ≤ s.cat.geo.h * 1024) : s.blockRefusal first n a = none :=
  (if_neg (badBlock_fine h1 h2 ha)).trans ((if_neg (not_not.mpr hst)).trans (if_neg (Nat.not_lt.mpr hrange)))

end

section
variable {s : State} {j : Job} {first n : Nat} {a : Addr} (hreq : j.req = .blockWrite first n a) (hj : s.carries 2 j)
include hreq hj

theorem blockWrite_refused {x : Status} (hx : s.blockRefusal first n a = some x) : Ends s .blockWrite (s.reports j { status := x }) := by
  obtain ⟨hp, hd, hjob⟩ := hj
  have hm : s.mute.dispatched 2 = some j := hd
  have hx' : s.mute.blockRefusal first n a = some x := hx
  obtain ⟨id, chain, rec, notify, req, phase, fails⟩ := j
  obtain rfl : req = _ := hreq
  refine run_ends_of (exec_blockWrite s) hp ?_
  simp only [hm, hx']
  exact State.complete_reports hjob _

theorem blockWrite_allowed (hx : s.blockRefusal first n a = none) :
    Ends s .blockWrite (s.goesTo j (.blockWriting { first := first, count := n }) [.hostRead a (4096 * n)]) := by
  obtain ⟨hp, hd, hjob⟩ := hj
  have hm : s.mute.dispatched 2 = some j := hd
  have hx' : s.mute.blockRefusal first n a = none := hx
  obtain ⟨id, chain, rec, notify, req, phase, fails⟩ := j
  obtain rfl : req = _ := hreq
  refine run_ends_of (exec_blockWrite s) hp ?_
  simp only [hm, hx']
  rfl

end

section
variable {s : State} {j : Job} {first n : Nat} {a : Addr} (hreq : j.req = .blockRead first n a) (hj : s.carries 1 j)
include hreq hj

theorem blockRead_refused {x : Status} (hx : s.blockRefusal first n a = some x) : Ends s .blockRead (s.reports j { status := x }) := by
  obtain ⟨hp, hd, hjob⟩ := hj
  have hm : s.mute.dispatched 1 = some j := hd
  have hx' : s.mute.blockRefusal first n a = some x := hx
  obtain ⟨id, chain, rec, notify, req, phase, fails⟩ := j
  obtain rfl : req = _ := hreq
  refine run_ends_of (exec_blockRead s) hp ?_
  simp only [hm, hx']
  exact State.complete_reports hjob _

theorem blockRead_allowed (hx : s.blockRefusal first n a = none) :
    Ends s .blockRead (s.mute.blockStart j.id first n a) := by
  obtain ⟨hp, hd, hjob⟩ := hj
  have hm : s.mute.dispatched 1 = some j := hd
  have hx' : s.mute.blockRefusal first n a = none := hx
  obtain ⟨id, chain, rec, notify, req, phase, fails⟩ := j
  obtain rfl : req = _ := hreq
  refine run_ends_of (exec_blockRead s) hp ?_
  simp only [hm, hx']

end

/-! ## BLOCK_READ's drive -/

theorem Power.rank_zero {p : Power} : (p.rank == 0) = decide (p = .ready) := by cases p <;> rfl

theorem State.readsBefore_eq (s : State) (y x : Fin 4) :
    s.readsBefore y x =
      decide (s.drives[y].power.rank < s.drives[x].power.rank
        ∨ (s.drives[x].power = .ready ∧ s.drives[y].power = .ready ∧ s.drives[y].ops.length < s.drives[x].ops.length)) := by
  simp only [State.readsBefore, Power.rank_zero, Bool.decide_or, Bool.decide_and]
  cases decide (s.drives[x].power = .ready) <;> cases decide (s.drives[y].power = .ready) <;> rfl

/-- The drives of a list whose flag is clear, or else all of them. -/
def clearFirst (g : Fin 2 → Bool) (l : List (Fin 2)) : List (Fin 2) :=
  if (l.filter fun i => !g i).isEmpty then l else l.filter fun i => !g i

theorem State.blockCandidates_eq (s : State) :
    s.blockCandidates = clearFirst (fun i => s.cat.stale[i]) ([0, 1].filter s.hostDrive) := rfl

theorem clearFirst_one (g : Fin 2 → Bool) (i : Fin 2) : clearFirst g [i] = [i] := by
  cases h : g i <;> simp [clearFirst, h]

theorem clearFirst_both (g : Fin 2 → Bool) : clearFirst g [0, 1] = if g 0 = g 1 then [0, 1] else if g 0 then [1] else [0] := by
  cases h0 : g 0 <;> cases h1 : g 1 <;> simp [clearFirst, h0, h1]

theorem State.blockCandidates_first {s : State} (h0 : s.hostDrive 0 = true) (h1 : s.hostDrive 1 = false) : s.blockCandidates = [0] := by
  have hok : [(0 : Fin 2), 1].filter s.hostDrive = [0] := by simp [h0, h1]
  rw [State.blockCandidates_eq, hok, clearFirst_one]

theorem State.blockCandidates_none {s : State} (h0 : s.hostDrive 0 = false) (h1 : s.hostDrive 1 = false) : s.blockCandidates = [] := by
  have hok : [(0 : Fin 2), 1].filter s.hostDrive = [] := by simp [h0, h1]
  rw [State.blockCandidates_eq, hok]
  rfl

/-- Of two eligible drives those with a clear flag are the candidates, and both with the flags alike (R163). -/
theorem State.blockCandidates_both {s : State} (h0 : s.hostDrive 0 = true) (h1 : s.hostDrive 1 = true) :
    s.blockCandidates =
      if s.cat.stale[(0 : Fin 2)] = s.cat.stale[(1 : Fin 2)] then [0, 1] else if s.cat.stale[(0 : Fin 2)] then [1] else [0] := by
  have hok : [(0 : Fin 2), 1].filter s.hostDrive = [0, 1] := by simp [h0, h1]
  rw [State.blockCandidates_eq, hok]
  exact clearFirst_both _

/-- One drive is picked, with the others of the candidates behind it. -/
theorem State.blockStart_picks {s : State} {l : List (Fin 2)} {i : Fin 2} (hl : s.blockCandidates = l) (hi : s.blockPick l = some i)
    (id first n : Nat) (a : Addr) :
    s.blockStart id first n a =
      s.blockOffer id
        { first := first, count := n, dest := a, drive := catDrive i, stale := s.cat.stale[i]
          others := (l.filter fun j => j != i).map catDrive } := by
  simp only [State.blockStart, hl, hi]

theorem State.blockStart_none {s : State} (hl : s.blockCandidates = []) (id first n : Nat) (a : Addr) :
    s.blockStart id first n a = s.complete id (.refusal .driveUnavailable) := by
  simp only [State.blockStart, hl, State.blockPick]

/-! ## The end of a BLOCK_WRITE -/

theorem BlockWriteWork.misses_zero (w : BlockWriteWork) : w.misses 0 = (w.d0 != .done && (w.d1 == .done || w.d0 == .partly)) := by
  obtain ⟨f, n, b, r, o, d0, d1⟩ := w
  cases d0 <;> cases d1 <;> rfl

theorem BlockWriteWork.misses_one (w : BlockWriteWork) : w.misses 1 = (w.d1 != .done && (w.d0 == .done || w.d1 == .partly)) := by
  obtain ⟨f, n, b, r, o, d0, d1⟩ := w
  cases d0 <;> cases d1 <;> rfl

theorem vector2_set (v : Vector Bool 2) (a b : Bool) :
    (let w := if a then v.set 0 true else v
     if b then w.set 1 true else w) = #v[v[0] || a, v[1] || b] := by
  refine Vector.ext fun i hi => ?_
  match i, hi with
  | 0, _ => cases a <;> cases b <;> simp
  | 1, _ => cases a <;> cases b <;> simp

/-- The stale flags that a BLOCK_WRITE leaves (R162). -/
def Cat.staleAfter (c : Cat) (w : BlockWriteWork) : Cat := { c with stale := #v[c.stale[0] || w.misses 0, c.stale[1] || w.misses 1] }

theorem State.blockStale_eq (s : State) (w : BlockWriteWork) : s.blockStale w = { s with cat := s.cat.staleAfter w } := by
  have hstale := vector2_set s.cat.stale (w.misses 0) (w.misses 1)
  rw [Cat.staleAfter, ← hstale]
  cases h0 : w.misses 0 <;> cases h1 : w.misses 1 <;> simp only [State.blockStale, h0, h1, Bool.false_eq_true, if_false, if_true] <;> rfl

theorem BlockWriteWork.result_eq (w : BlockWriteWork) :
    w.result =
      (let any := w.d0 == .done || w.d1 == .done
       { status := if any then .ok else .driveUnavailable, w0 := if any then BitVec.ofNat 32 w.count else 0
         w1 := (if w.d0 = .done then 1 else 0) + (if w.d1 = .done then 2 else 0)
         w2 := (if w.misses 0 then 1 else 0) + (if w.misses 1 then 2 else 0) }) := by
  have hbits : ∀ a b : Bool, BitVec.ofNat 32 (bitOf a + 2 * bitOf b) = (if a then 1 else 0) + (if b then 2 else 0) := by decide
  have hcount : ∀ a : Bool, BitVec.ofNat 32 (if a then w.count else 0) = if a then BitVec.ofNat 32 w.count else 0 := fun a => by
    cases a <;> rfl
  simp only [BlockWriteWork.result, hbits, hcount, beq_iff_eq]

/-- The second of a BLOCK_WRITE's writes ends (R162). -/
theorem State.blockWriteOp_ends {s : State} {j : Job} {w : BlockWriteWork} {i : Fin 2} {e : AreaWrite} (hjob : s.job j.id = some j)
    (hphase : j.phase = .blockWriting w) (hfinished : (w.put i e).finished = true) :
    s.blockWriteOp j.id i e = State.complete { s with cat := s.cat.staleAfter (w.put i e) } j.id (w.put i e).result := by
  obtain ⟨id, chain, rec, notify, req, phase, fails⟩ := j
  obtain rfl : phase = _ := hphase
  simp only [State.blockWriteOp, hjob, hfinished, if_true, State.blockStale_eq]

/-- The answer to the second write, handed to its BLOCK_WRITE. -/
theorem State.blockWrite_hand {s : State} {o : Op} {id : Nat} (howner : o.owner = .blockWrite id) (hkind : o.kind = .areaWrite) (i : Fin 2)
    (r : OpOutcome) : s.hand (catDrive i) o r = s.blockWriteOp id i (areaWriteEnd o r) := by
  have hlabel : s.labelOp (catDrive i) o r = s := by simp only [State.labelOp, hkind]
  simp only [State.hand, hlabel, howner, catIndex_catDrive]

/-- BLOCK_WRITE's end as the statement has it: the flags, the report and the drive left. -/
theorem State.blockWriteOp_reports {s : State} {j : Job} {w : BlockWriteWork} {i : Fin 2} {e : AreaWrite} {d : Fin 4}
    (hjob : s.job j.id = some j) (hphase : j.phase = .blockWriting w) (hfinished : (w.put i e).finished = true) :
    (s.mute.opLeft d).blockWriteOp j.id i e =
      { s.reports j (w.put i e).result with
        cat := s.cat.staleAfter (w.put i e)
        drives := s.drives.set d s.drives[d].alone } := by
  rw [State.blockWriteOp_ends (s := s.mute.opLeft d) hjob hphase hfinished]
  exact State.complete_eq (s := { s.mute.opLeft d with cat := s.cat.staleAfter (w.put i e) }) (j := j) hjob _

section
variable {s : State} {j : Job} {w : BlockWriteWork} {i : Fin 2} {o : Op} {cmd : DriveCmd} {again : Bool} (hp : s.powered = true)
  (hjob : s.job j.id = some j) (hphase : j.phase = .blockWriting w) (hops : s.drives[catDrive i].ops = [o])
  (howner : o.owner = .blockWrite j.id) (hkind : o.kind = .areaWrite) (hw : o.withdrawn = false)
  (hport : s.drives[catDrive i].port = .command (.segment o.id) cmd again)
include hp hjob hphase hops howner hkind hw hport

theorem blockWriteLast_done (hfinished : (w.put i .done).finished = true) (hlast : o.segments ≤ o.segsDone + 1) (data : List Byte) (v : Int) :
    Ends s (.commandAnswer (catDrive i) (.done data v))
      (State.settle
        { s.reports j (w.put i .done).result with
          cat := s.cat.staleAfter (w.put i .done)
          drives := s.drives.set (catDrive i) { s.drives[catDrive i] with port := .idle, ops := [], credit := s.cfg.credit, noAnswer := 0 } }) := by
  have hkind' : o.kind ≠ .tempPoll := hkind ▸ nofun
  let q : Op := { o with segsDone := o.segsDone + 1, data := o.data ++ data }
  let t : State := { s.reports j (w.put i .done).result with
    cat := s.cat.staleAfter (w.put i .done), drives := s.drives.set (catDrive i) s.drives[catDrive i].alone }
  have hhand : (s.mute.opLeft (catDrive i)).hand (catDrive i) q (.done (o.data ++ data)) = t := by
    rw [State.blockWrite_hand (o := q) howner hkind]
    exact State.blockWriteOp_reports hjob hphase hfinished
  exact onlyOp_done_ends (t := t) hp hops hw hport rfl hkind' hlast hhand

theorem blockWriteLast_fails {e : AreaWrite} (he : (if o.segsDone = 0 then .nothing else .partly) = e)
    (hfinished : (w.put i e).finished = true) :
    Ends s (.commandAnswer (catDrive i) .otherError)
      (State.settle
        { s.reports j (w.put i e).result with
          cat := s.cat.staleAfter (w.put i e)
          drives := s.drives.set (catDrive i) { s.drives[catDrive i] with port := .idle, ops := [], credit := s.cfg.credit } }) := by
  subst he
  let e : AreaWrite := if o.segsDone = 0 then .nothing else .partly
  let t : State := { s.reports j (w.put i e).result with
    cat := s.cat.staleAfter (w.put i e), drives := s.drives.set (catDrive i) s.drives[catDrive i].alone }
  have hhand : (s.mute.opLeft (catDrive i)).hand (catDrive i) o (.error false) = t := by
    rw [State.blockWrite_hand howner hkind]
    exact State.blockWriteOp_reports hjob hphase hfinished
  exact onlyOp_fails_ends (t := t) hp hops hw hport rfl hhand

end

theorem State.offer_offer (s : State) (d e : Fin 4) (c : WorkClass) (k : OpKind) (f n : Nat) (o : Owner) (b : List Byte) :
    (s.offer d c k f n o b).offer e c k f n o b =
      { s with
        nextId := s.nextId + 2
        offers := s.offers ++
          [{ drive := d, op := { id := s.nextId, cls := c, kind := k, first := f, count := n, owner := o, payload := b } },
            { drive := e, op := { id := s.nextId + 1, cls := c, kind := k, first := f, count := n, owner := o, payload := b } }] } :=
  congrArg (fun l => { s with nextId := s.nextId + 2, offers := l }) (List.append_assoc s.offers [_] [_])

theorem State.blockOffers_one {s : State} {id : Nat} {j : Job} {w : BlockWriteWork} (hjobs : s.jobs = [j]) (hid : j.id = id)
    (hphase : j.phase = .blockWriting w) (hready : w.ready = true) (hoffered : w.offered = false) (hcopy : s.engine.hostCopy = none) :
    s.blockOffers = s.blockWriteOffer id w := by
  subst hid
  simp [State.blockOffers, hcopy, hjobs, hphase, hoffered, hready]

theorem State.blockWriteOffer_both {s : State} (h0 : s.hostDrive 0 = true) (h1 : s.hostDrive 1 = true) (id : Nat) (w : BlockWriteWork) :
    s.blockWriteOffer id w =
      ((s.offer 0 .bulk .areaWrite (s.cat.hostSector w.first) w.count (.blockWrite id) w.data).offer 1 .bulk .areaWrite
        (s.cat.hostSector w.first) w.count (.blockWrite id) w.data).setPhase id
        (.blockWriting { w with offered := true, d0 := .underWay, d1 := .underWay }) := by
  let t : State := s.offer 0 .bulk .areaWrite (s.cat.hostSector w.first) w.count (.blockWrite id) w.data
  have h1' : t.hostDrive 1 = true := h1
  have hopen : BlockWriteWork.finished { w with offered := true, d0 := .underWay, d1 := .underWay } = false := by
    simp [BlockWriteWork.finished]
  simp only [State.blockWriteOffer, h0, if_true]
  refine (congrArg (fun p : State × BlockWriteWork =>
    if p.2.finished then (p.1.blockStale p.2).complete id p.2.result else p.1.setPhase id (.blockWriting p.2)) (if_pos h1')).trans ?_
  exact if_neg (Bool.eq_false_iff.mp hopen)

/-- Settles O40, by the checks, the ranking of the two drives, and the second write's end. -/
theorem hostArea : Obligations.HostArea := by
  intro s j first n a
  refine ⟨fun c hc => ?checks, fun h1 h2 ha hst hrange => ⟨fun hreq hj => ?write, fun hreq hj => ?read⟩,
    fun w i o cmd again hj hphase hoffered hother => ?ended, fun w hj hphase hready hoffered => ?source⟩
  case checks =>
    have hrefused : ∀ x, s.blockRefusal first n a = some x → Ends s c (s.reports j { status := x }) := fun x hx => by
      obtain ⟨rfl, hreq, hj⟩ | ⟨rfl, hreq, hj⟩ := hc
      · exact blockWrite_refused hreq hj hx
      · exact blockRead_refused hreq hj hx
    exact ⟨fun hbad => hrefused _ (State.blockRefusal_badParam hbad),
      fun h1 h2 ha hst => hrefused _ (State.blockRefusal_noCatalogue h1 h2 ha hst)⟩
  case write =>
    exact blockWrite_allowed hreq hj (State.blockRefusal_none h1 h2 ha hst hrange)
  case read =>
    have hstart := blockRead_allowed hreq hj (State.blockRefusal_none h1 h2 ha hst hrange)
    have hends := fun {u} => Ends.of_eq (v := u) hstart
    refine ⟨fun h0 h1 => ?_, fun h0 h1 => ?_, fun h0 h1 => ?_⟩
    · exact hends (State.blockStart_picks (State.blockCandidates_first (s := s.mute) h0 h1) rfl ..)
    · exact hends ((State.blockStart_none (State.blockCandidates_none (s := s.mute) h0 h1) ..).trans (State.complete_reports hj.2.2 _))
    · intro rank x y alike second d
      have hrank : ∀ p : Power, p.rank = rank p := fun p => by cases p <;> rfl
      have hbefore : s.mute.readsBefore (catDrive 1) (catDrive 0) =
          decide (rank y.power < rank x.power ∨ (x.power = .ready ∧ y.power = .ready ∧ y.ops.length < x.ops.length)) := by
        simp only [State.readsBefore_eq, hrank]
        rfl
      have hcand := State.blockCandidates_both (s := s.mute) h0 h1
      have hpicks : ∀ (l : List (Fin 2)) (i : Fin 2), s.mute.blockCandidates = l → s.mute.blockPick l = some i →
          Ends s .blockRead (s.mute.blockOffer j.id
            { first := first, count := n, dest := a, drive := catDrive i, stale := s.cat.stale[i]
              others := (l.filter fun j => j != i).map catDrive }) := fun l i hl hi => hends (State.blockStart_picks hl hi ..)
      by_cases halike : alike
      · have hcand' : s.mute.blockCandidates = [0, 1] := hcand.trans (if_pos halike)
        have hsecond : second = _ := if_pos halike
        rw [← hsecond] at hbefore
        have hd : d = if second then 1 else 0 := rfl
        clear_value d second
        subst hd
        rw [if_pos halike]
        cases second with
        | true => exact hpicks _ 1 hcand' (if_pos hbefore)
        | false => exact hpicks _ 0 hcand' (if_neg (Bool.eq_false_iff.mp hbefore))
      · have hcand' := hcand.trans (if_neg halike)
        have hsecond : second = s.cat.stale[(0 : Fin 2)] := if_neg halike
        have hd : d = if second then 1 else 0 := rfl
        clear_value d second
        subst hd
        rw [if_neg halike]
        cases second with
        | true => exact hpicks _ 1 (hcand'.trans (if_pos hsecond.symm)) rfl
        | false => exact hpicks _ 0 (hcand'.trans (if_neg (Bool.eq_false_iff.mp hsecond.symm))) rfl
  case ended =>
    intro d hops howner hkind hw hport idle ended
    obtain ⟨hp, hjob⟩ := hj
    have hfinished : ∀ e, e ≠ .underWay → (w.put i e).finished = true := fun e he => by
      by_cases hi : i = 0
      · rw [if_pos hi] at hother
        simp [BlockWriteWork.put, BlockWriteWork.finished, hi, he, hother, hoffered]
      · rw [if_neg hi] at hother
        simp [BlockWriteWork.put, BlockWriteWork.finished, hi, he, hother, hoffered]
    have hput : ∀ e, w.put i e = { w with d0 := if i = 0 then e else w.d0, d1 := if i = 0 then w.d1 else e } := fun e => by
      by_cases hi : i = 0 <;> simp [BlockWriteWork.put, hi]
    have hended : ∀ (e : AreaWrite) (x : Drive),
        State.settle { s.reports j (w.put i e).result with cat := s.cat.staleAfter (w.put i e), drives := s.drives.set d x } = ended e x := fun e x => by
      rw [BlockWriteWork.result_eq, Cat.staleAfter, BlockWriteWork.misses_zero, BlockWriteWork.misses_one, hput]
    refine ⟨fun hlast data v => ?_, ?_⟩
    · rw [← hended]
      exact blockWriteLast_done hp hjob hphase hops howner hkind hw hport (hfinished _ nofun) hlast.ge data v
    · have hne : (if o.segsDone = 0 then AreaWrite.nothing else .partly) ≠ .underWay := by split <;> nofun
      rw [← hended]
      exact blockWriteLast_fails hp hjob hphase hops howner hkind hw hport rfl (hfinished _ hne)
  case source =>
    obtain ⟨hp, hjob⟩ := hj
    have hm : s.mute.job j.id = some j := hjob
    obtain ⟨id, chain, rec, notify, req, phase, fails⟩ := j
    obtain rfl : phase = .blockWriting w := hphase
    refine ⟨?_, fun b hjobs hcopy h0 h1 => ?_⟩
    · refine run_ends_of (exec_blockSourceReadDone _ _ s) hp ?_
      simp only [State.blockSourceRead, hm, hready, Bool.false_eq_true, if_false]
      exact congrArg State.blockOffers (State.complete_reports hjob _)
    · intro data op
      refine run_ends_of (exec_blockSourceReadDone _ _ s) hp ?_
      simp only [State.blockSourceRead, hm, hready, Bool.false_eq_true, if_false]
      let v : BlockWriteWork := { w with ready := true, data := data }
      let t : State := s.mute.setPhase id (.blockWriting v)
      have htjobs : t.jobs = [{ id := id, chain := chain, record := rec, notify := notify, req := req, phase := .blockWriting v, fails := fails }] := by
        rw [State.setPhase_jobs, State.mute_jobs, hjobs, List.map_cons, if_pos rfl, List.map_nil]
      refine (State.blockOffers_one htjobs rfl rfl rfl hoffered hcopy).trans ((State.blockWriteOffer_both (s := t) h0 h1 id v).trans ?_)
      rw [State.offer_offer]
      exact State.setPhase_setPhase { s.mute with
        nextId := s.nextId + 2
        offers := s.offers ++ [{ drive := 0, op := op s.nextId }, { drive := 1, op := op (s.nextId + 1) }] } id _ _

end Sys2Proof.Machine

/-! # LOAD and FORMAT -/

namespace Sys2Proof.Machine

/-! ## Demands on several drives -/

/-- A demand raised on every drive that needs a start and has none of it (R117, R120). -/
def Drive.demanded (x : Drive) (b : DemandBy) : Drive :=
  if x.usable = true ∧ x.power ≠ .ready ∧ b ∉ x.demands then { x with demands := x.demands ++ [b] } else x

theorem State.driveStep_self (s : State) (d : Fin 4) : s.driveStep d s.drives[d] [] = s := by
  rw [State.driveStep, List.append_nil, vector_set_self]

theorem State.raiseDemand_eq (s : State) (d : Fin 4) (b : DemandBy) : s.raiseDemand d b = s.driveStep d (s.drives[d].demanded b) [] := by
  have hcond : (s.drives[d].usable && s.drives[d].power != .ready && !s.drives[d].demands.contains b) = true ↔
      s.drives[d].usable = true ∧ s.drives[d].power ≠ .ready ∧ b ∉ s.drives[d].demands := by
    simp only [Bool.and_eq_true, bne_iff_ne, Bool.not_eq_true', List.contains_eq_mem, decide_eq_false_iff_not, and_assoc]
  by_cases h : s.drives[d].usable = true ∧ s.drives[d].power ≠ .ready ∧ b ∉ s.drives[d].demands
  · rw [Drive.demanded, if_pos h, ← State.modDrive_eq_driveStep s d fun y => { y with demands := y.demands ++ [b] }]
    exact if_pos (hcond.mpr h)
  · rw [Drive.demanded, if_neg h, State.driveStep_self]
    exact if_neg (mt hcond.mp h)

/-- The demands of all that need a start, raised in drive order. -/
theorem State.raiseAll (t : State) {p : Fin 4 → Bool} (hp : ∀ d, p d = (t.drives[d].usable && t.drives[d].power != .ready)) (b : DemandBy) :
    (drives4.filter p).foldl (fun s d => s.raiseDemand d b) t =
      { t with drives := Vector.ofFn fun d => t.drives[d].demanded b } := by
  rw [List.foldl_filter]
  have hfold := foldl_drives4 (F := fun s d => if p d then s.raiseDemand d b else s) (s := t) (fun d => t.drives[d].demanded b) (fun _ => [])
    fun d v l hv => by
      have hd : (t.withDrives v l).drives[d] = t.drives[d] := hv
      by_cases hpd : p d = true
      · rw [if_pos hpd, State.raiseDemand_eq, hd]
      · have hsame : t.drives[d].demanded b = t.drives[d] := by
          refine if_neg fun h => hpd ?_
          rw [hp, h.1, Bool.true_and, bne_iff_ne]
          exact h.2.1
        rw [if_neg hpd, hsame, ← hd, State.driveStep_self]
  refine hfold.trans ?_
  simp [State.withDrives, drives4]

/-! ## LOAD's and FORMAT's progress -/

theorem State.completeOpen_eq {s : State} {j : Job} (h : s.job j.id = some j) (x : Status) :
    s.mute.completeOpen j.id x =
      { s.reports j
          { status := x, aux := (Config.openWord (4 * s.nextId)).toNat % 65536
            w0 := Config.openWord (4 * s.nextId + 1), w1 := Config.openWord (4 * s.nextId + 2), w2 := Config.openWord (4 * s.nextId + 3) } with
        nextId := s.nextId + 1 } :=
  State.complete_eq (s := s.mute.bump) (j := j) h _

theorem State.loadReads_skips {p : State × LoadWork} {d : Fin 4} (h : p.1.drives[d].power ≠ .ready) : State.loadReads p d = p := if_neg h

theorem State.loadReads_first {s : State} {w : LoadWork} (h : s.drives[(0 : Fin 4)].power = .ready) :
    State.loadReads (s, w) 0 =
      ((s.offer 0 .bulk .labelRead 0 1 .loadLabel []).offer 0 .bulk .areaRead 1024 1 (.loadHeader .a) [], w.putHdr .a 0 .underWay) :=
  if_pos h

/-- Settles O42. -/
theorem load : Obligations.Load := by
  intro s j
  refine ⟨fun hj hreq => ?begins, fun w ⟨hp, hjob⟩ hload hstage hwaiting h1 => ?settled⟩
  case begins =>
    obtain ⟨hp, hd, hjob⟩ := hj
    have hm : s.mute.dispatched 0 = some j := hd
    obtain ⟨id, chain, rec, notify, req, phase, fails⟩ := j
    obtain rfl : req = _ := hreq
    have hrow := run_ends (exec_load s) hp
    simp only [hm] at hrow
    refine ⟨fun hst => Ends.of_eq hrow ((if_pos hst).trans (State.complete_reports hjob _)), fun hst => ?_⟩
    intro waits
    have hdemanded : ∀ d, s.drives[d].demanded .load =
        if waits d = true ∧ DemandBy.load ∉ s.drives[d].demands then { s.drives[d] with demands := s.drives[d].demands ++ [.load] }
        else s.drives[d] := fun d => by
      refine if_congr ?_ rfl rfl
      simp only [waits, Bool.and_eq_true, bne_iff_ne, and_assoc]
    simp only [← hdemanded]
    refine Ends.of_eq hrow ((if_neg (not_not.mpr hst)).trans (congrArg State.settle ?_))
    exact State.raiseAll _ (fun _ => rfl) .load
  case settled =>
    have hrow := run_ends (exec_loadDrivesSettled s) hp
    have hm : s.mute.loadJob = some (j.id, w) := hload
    simp only [hm] at hrow
    have hgo : ¬(w.stage ≠ .starting ∨ w.waiting ≠ []) := by simp [hstage, hwaiting]
    refine ⟨fun h0 => ?_, fun h0 h2 h3 => ?_⟩
    · refine Ends.of_eq hrow ((if_neg hgo).trans ((if_pos ⟨h0, h1⟩).trans ?_))
      exact State.completeOpen_eq (s := s.unload) hjob _
    · refine Ends.of_eq hrow ((if_neg hgo).trans ((if_neg fun h => h.1 h0).trans ?_))
      have hfold : drives4.foldl State.loadReads (s.mute, { w with stage := .headers }) =
          ((s.mute.offer 0 .bulk .labelRead 0 1 .loadLabel []).offer 0 .bulk .areaRead 1024 1 (.loadHeader .a) [],
            { w with stage := .headers, a0 := .underWay }) := by
        simp only [drives4, List.foldl_cons, List.foldl_nil]
        rw [State.loadReads_first (s := s.mute) h0, State.loadReads_skips (d := 1) h1, State.loadReads_skips (d := 2) h2,
          State.loadReads_skips (d := 3) h3]
        rfl
      rw [hfold]
      exact congrArg (fun l => { s.goesTo j (.loading { w with stage := .headers, a0 := .underWay }) [] with
        nextId := s.nextId + 2, offers := l }) (List.append_assoc s.offers [_] [_])

/-! ## FORMAT's checks -/

section
variable {s : State} {box : BitVec 64} {h : Nat} {force : Bool}

theorem State.formatRefusal_badParam (hbad : box = 0 ∨ h = 0 ∨ 1024 < h) : s.formatRefusal box h force = some .badParam := if_pos hbad

theorem formatParams_fine (hbox : box ≠ 0) (h1 : 1 ≤ h) (h2 : h ≤ 1024) : ¬(box = 0 ∨ h = 0 ∨ 1024 < h) :=
  fun h => h.elim hbox fun h => h.elim (Nat.ne_of_gt h1) (Nat.not_lt.mpr h2)

variable (hfine : ¬(box = 0 ∨ h = 0 ∨ 1024 < h))
include hfine

theorem State.formatRefusal_wrongState (hst : s.cat.st = .loading ∨ (s.cat.st = .ready ∧ force = false)) :
    s.formatRefusal box h force = some .wrongState := by
  refine (if_neg hfine).trans (if_pos ?_)
  obtain hst | ⟨hst, rfl⟩ := hst <;> rw [hst]
  · cases force <;> rfl
  · rfl

omit hfine
variable (hst : s.cat.st = .notLoaded ∨ (s.cat.st = .ready ∧ force = true))
include hst

theorem State.format_allowed : ¬(!(s.cat.st == .notLoaded || (force && s.cat.st == .ready))) = true := by
  obtain hst | ⟨hst, rfl⟩ := hst <;> rw [hst]
  · cases force <;> decide
  · decide

include hfine

theorem State.formatRefusal_openStreams (hopen : s.openStreams ≠ 0) : s.formatRefusal box h force = some .wrongState :=
  (if_neg hfine).trans ((if_neg (State.format_allowed hst)).trans (if_pos (.inl hopen)))

variable (hopen : s.openStreams = 0)
  (hflight : s.cat.st = .ready → s.inFlightOn 1 = false ∧ s.inFlightOn 2 = false ∧ s.inFlightOn 3 = false)
include hopen hflight

theorem State.formatRefusal_drives :
    s.formatRefusal box h force =
      if s.drives[(0 : Fin 4)].usable = false ∨ s.drives[(1 : Fin 4)].usable = false then some .driveUnavailable else none := by
  have hnone : ¬(s.openStreams ≠ 0 ∨ (s.cat.st = .ready ∧ (s.inFlightOn 1 || s.inFlightOn 2 || s.inFlightOn 3) = true)) := by
    rintro (hne | ⟨hready, hjobs⟩)
    · exact hne hopen
    · obtain ⟨h1, h2, h3⟩ := hflight hready
      rw [h1, h2, h3] at hjobs
      cases hjobs
  refine (if_neg hfine).trans ((if_neg (State.format_allowed hst)).trans ((if_neg hnone).trans (if_congr ?_ rfl rfl)))
  simp only [Bool.not_eq_true']
  rfl

end

/-- FORMAT of a job that its checks let through (R120). -/
theorem format_ends {s u : State} {j : Job} {box : BitVec 64} {h : Nat} {force : Bool} (hreq : j.req = .format box h force)
    (hj : s.carries 0 j) (hfine : s.formatRefusal box h force = none) {t : State}
    (ht : (if s.cat.st = .ready then s.mute.discardCatalogue else s.mute) = t) (hdrives : ∀ d : Fin 4, t.drives[d].power = s.drives[d].power)
    (husable : ∀ d : Fin 4, t.drives[d].usable = s.drives[d].usable)
    (hu : { t.setPhase j.id
        (.formatting { boxId := box, h := h, waiting := drives4.filter fun d => s.drives[d].usable && !s.drives[d].serving }) with
      drives := Vector.ofFn fun d => t.drives[d].demanded .format } = u) : Ends s .format u.settle := by
  subst hu
  obtain ⟨hp, hd, hjob⟩ := hj
  have hm : s.mute.dispatched 0 = some j := hd
  have hfine' : s.mute.formatRefusal box h force = none := hfine
  obtain ⟨id, chain, rec, notify, req, phase, fails⟩ := j
  obtain rfl : req = _ := hreq
  refine run_ends_of (exec_format s) hp ?_
  simp only [hm, hfine']
  have ht' : (if s.mute.cat.st = .ready then s.mute.discardCatalogue else s.mute) = t := ht
  simp only [ht']
  refine congrArg State.settle (State.raiseAll _ (fun d => ?_) .format)
  exact (congrArg₂ (fun a p => a && p != Power.ready) (husable d) (hdrives d)).symm

theorem format_refused {s : State} {j : Job} {box : BitVec 64} {h : Nat} {force : Bool} (hreq : j.req = .format box h force)
    (hj : s.carries 0 j) {x : Status} (hx : s.formatRefusal box h force = some x) (hne : x ≠ .driveUnavailable) :
    Ends s .format (s.reports j { status := x }) := by
  obtain ⟨hp, hd, hjob⟩ := hj
  have hm : s.mute.dispatched 0 = some j := hd
  have hx' : s.mute.formatRefusal box h force = some x := hx
  obtain ⟨id, chain, rec, notify, req, phase, fails⟩ := j
  obtain rfl : req = _ := hreq
  refine run_ends_of (exec_format s) hp ?_
  simp only [hm, hx']
  cases x with
  | driveUnavailable => exact absurd rfl hne
  | _ => exact State.complete_reports hjob _

theorem format_unavailable {s : State} {j : Job} {box : BitVec 64} {h : Nat} {force : Bool} (hreq : j.req = .format box h force)
    (hj : s.carries 0 j) (hx : s.formatRefusal box h force = some .driveUnavailable) :
    Ends s .format
      { s.reports j
          { status := .driveUnavailable, aux := (Config.openWord (4 * s.nextId)).toNat % 65536
            w0 := Config.openWord (4 * s.nextId + 1), w1 := Config.openWord (4 * s.nextId + 2), w2 := Config.openWord (4 * s.nextId + 3) } with
        nextId := s.nextId + 1 } := by
  obtain ⟨hp, hd, hjob⟩ := hj
  have hm : s.mute.dispatched 0 = some j := hd
  have hx' : s.mute.formatRefusal box h force = some .driveUnavailable := hx
  obtain ⟨id, chain, rec, notify, req, phase, fails⟩ := j
  obtain rfl : req = _ := hreq
  refine run_ends_of (exec_format s) hp ?_
  simp only [hm, hx']
  exact State.completeOpen_eq hjob _

/-! ## FORMAT's labels -/

theorem State.formatLabel_skips {p : State × FormatWork} {d : Fin 4} (h : p.1.drives[d].power ≠ .ready) (hd : ¬d.val < 2) :
    State.formatLabel p d = p := if_neg fun hor => hor.elim h hd

theorem State.formatLabel_written (p : State × FormatWork) {d : Fin 4} (hd : d.val < 2) :
    State.formatLabel p d =
      (p.1.offer d .bulk .labelWrite 0 1 .format (labelSector p.2.boxId d.val p.2.geo.au[d] p.2.time), p.2.put d .label) := if_pos (.inr hd)

/-- FORCE leaves no operation of the catalogue (R120). -/
def Drive.withoutCatalogue (x : Drive) : Drive :=
  { x with
    ops := x.ops.filter fun o => !o.owner.withCatalogue
    room := x.room.filter fun o => !o.owner.withCatalogue }

theorem State.discardCatalogue_drive (s : State) (d : Fin 4) : s.discardCatalogue.drives[d] = s.drives[d].withoutCatalogue :=
  Vector.getElem_map ..

theorem vector4_all {α : Type} {v : Vector α 4} {p : α → Bool} (h : ∀ d : Fin 4, p v[d] = true) : v.toList.all p = true := by
  refine List.all_eq_true.mpr fun x hx => ?_
  obtain ⟨i, hi, rfl⟩ := Vector.getElem_of_mem (Vector.mem_toList_iff.mp hx)
  exact h ⟨i, hi⟩

/-- Settles O44, by the checks, the demands, the labels and the end. -/
theorem format : Obligations.Format := by
  intro s j
  refine ⟨fun box h force hj hreq => ?begins, fun w ⟨hp, hjob⟩ hformat => ⟨fun hwriting hwaiting hu0 hu1 => ?settled,
    fun hwriting h0 h1 h2 h3 => ?written⟩⟩
  case begins =>
    refine ⟨fun hbad => ?_, fun hbox h1 h2 hst => ?_, fun hbox h1 h2 hst hopen hu0 hu1 => ?_, fun hbox h1 h2 hst hopen => ?_,
      fun hbox h1 h2 hst hopen hdrives => ?_, fun hbox h1 h2 hst hforce hopen hjobs hu0 hu1 => ?_⟩
    · exact format_refused hreq hj (State.formatRefusal_badParam hbad) nofun
    · exact format_refused hreq hj (State.formatRefusal_wrongState (formatParams_fine hbox h1 h2) hst) nofun
    · have hx := State.formatRefusal_drives (formatParams_fine hbox h1 h2) (force := force) (.inl hst) hopen (fun h => by rw [hst] at h; cases h)
      rw [if_neg (by rw [hu0, hu1]; exact fun h => h.elim nofun nofun)] at hx
      exact format_ends hreq hj hx (if_neg (by rw [hst]; nofun)) (fun _ => rfl) (fun _ => rfl) rfl
    · exact format_refused hreq hj (State.formatRefusal_openStreams (formatParams_fine hbox h1 h2) (.inl hst) hopen) nofun
    · have hx := State.formatRefusal_drives (formatParams_fine hbox h1 h2) (force := force) (.inl hst) hopen (fun h => by rw [hst] at h; cases h)
      rw [if_pos hdrives] at hx
      exact format_unavailable hreq hj hx
    · obtain ⟨hchain, -, -⟩ := State.dispatched_phase hj.2.1
      have hflight : ∀ c : Fin 4, c ≠ 0 → s.inFlightOn c = false := fun c hc => by
        have hne : (j.chain == c) = false := beq_eq_false_iff_ne.mpr (hchain ▸ hc.symm)
        rw [State.inFlightOn, hjobs, List.any_cons, hne, List.any_nil]
        rfl
      have hx := State.formatRefusal_drives (formatParams_fine hbox h1 h2) (.inr ⟨hst, hforce⟩) hopen
        fun _ => ⟨hflight 1 (by decide), hflight 2 (by decide), hflight 3 (by decide)⟩
      rw [if_neg (by rw [hu0, hu1]; exact fun h => h.elim nofun nofun)] at hx
      have hdrive := s.mute.discardCatalogue_drive
      refine format_ends hreq hj hx (if_pos hst) (fun d => (congrArg Drive.power (hdrive d)).trans rfl)
        (fun d => (congrArg Drive.usable (hdrive d)).trans rfl) ?_
      simp only [hdrive]
      rfl
  case settled =>
    intro g
    have hm : s.mute.formatJob = some (j.id, w) := hformat
    have hgo : ¬(w.writing = true ∨ w.waiting ≠ []) := by simp [hwriting, hwaiting]
    have husable : ¬((!s.mute.drives[(0 : Fin 4)].usable) = true ∨ (!s.mute.drives[(1 : Fin 4)].usable) = true) := by
      rw [State.mute_drives, hu0, hu1]
      decide
    have hrow := run_ends (exec_formatDrivesSettled s) hp
    simp only [hm] at hrow
    refine ⟨fun hsmall => ?_, fun h0 h1 h2 h3 => ?_⟩
    · have htoo : s.mute.formatTooSmall (s.mute.formatGeo w.h) = true := by
        simp only [State.formatTooSmall, Bool.or_eq_true, decide_eq_true_eq]
        exact .inl (.inl hsmall)
      exact Ends.of_eq hrow ((if_neg hgo).trans ((if_neg husable).trans ((if_pos htoo).trans (State.completeOpen_eq hjob _))))
    · intro op
      have henough : ¬s.mute.formatTooSmall (s.mute.formatGeo w.h) = true := by
        have h2' : ¬(s.mute.drives[(2 : Fin 4)].power == .ready) = true := mt beq_iff_eq.mp h2
        have h3' : ¬(s.mute.drives[(3 : Fin 4)].power == .ready) = true := mt beq_iff_eq.mp h3
        simp only [State.formatTooSmall, Bool.or_eq_true, Bool.and_eq_true, decide_eq_true_eq]
        rintro (((hlt | hlt) | ⟨hready, -⟩) | ⟨hready, -⟩)
        · exact Nat.not_lt.mpr h0 hlt
        · exact Nat.not_lt.mpr h1 hlt
        · exact h2' hready
        · exact h3' hready
      have hfold : drives4.foldl State.formatLabel (s.mute, { w with writing := true, geo := g, time := s.stamp }) =
          ((s.mute.offer 0 .bulk .labelWrite 0 1 .format (labelSector w.boxId 0 g.au[0] s.stamp)).offer 1 .bulk .labelWrite 0 1 .format
              (labelSector w.boxId 1 g.au[1] s.stamp),
            { w with writing := true, geo := g, time := s.stamp, steps := (w.steps.set 0 .label).set 1 .label }) := by
        simp only [drives4, List.foldl_cons, List.foldl_nil]
        rw [State.formatLabel_written _ (d := 0) (by decide), State.formatLabel_written _ (d := 1) (by decide),
          State.formatLabel_skips (d := 2) h2 (by decide), State.formatLabel_skips (d := 3) h3 (by decide)]
        rfl
      refine Ends.of_eq hrow ((if_neg hgo).trans ((if_neg husable).trans ((if_neg henough).trans ?_)))
      refine (congrArg (fun p : State × FormatWork => p.1.setPhase j.id (.formatting p.2)) hfold).trans ?_
      exact congrArg (fun l => { s.goesTo j (.formatting { w with
          writing := true, geo := g, time := s.stamp, steps := (w.steps.set 0 .label).set 1 .label }) [] with
        nextId := s.nextId + 2, offers := l }) (List.append_assoc s.offers [_] [_])
  case written =>
    have hm : s.mute.formatJob = some (j.id, w) := hformat
    have hrow := run_ends (exec_formatWritesDone s) hp
    simp only [hm] at hrow
    have hover : (w.steps.toList.all FormatStep.over) = true := vector4_all fun d => by
      fin_cases d
      · exact h0 ▸ rfl
      · exact h1 ▸ rfl
      · exact h2
      · exact h3
    have hgo : ¬((!w.writing) = true ∨ (w.steps.toList.all FormatStep.over) = false) := by rw [hwriting, hover]; decide
    refine Ends.of_eq hrow ((if_neg hgo).trans ((if_pos ⟨h0, h1⟩).trans ?_))
    exact State.complete_reports (s := { s with cat := w.ready }) hjob _

end Sys2Proof.Machine

/-! # DRIVE_CONTROL: START, PARK, POWER_OFF and CLEAR_FAULT -/

namespace Sys2Proof.Machine

/-! ## The four rows -/

section
variable {s : State} {j : Job} {d : Nat} (hj : s.carries 0 j)
include hj

theorem driveControlStart_ends (hreq : j.req = .driveControl d 1) :
    (4 ≤ d → Ends s .driveControlStart (s.reports j { status := .badParam }))
    ∧ ∀ n : Fin 4, n.val = d → Ends s .driveControlStart (s.mute.startDrive j.id n j.fails) := by
  obtain ⟨hp, hdis, hjob⟩ := hj
  have hm : s.mute.dispatched 0 = some j := hdis
  obtain ⟨id, chain, rec, notify, req, phase, fails⟩ := j
  obtain rfl : req = _ := hreq
  have hrow := run_ends (exec_driveControlStart s) hp
  simp only [hm] at hrow
  refine ⟨fun hd => Ends.of_eq hrow ((dif_neg (Nat.not_lt.mpr hd)).trans (State.complete_reports hjob _)), ?_⟩
  rintro n rfl
  exact Ends.of_eq hrow (dif_pos n.isLt)

theorem driveControlPark_ends (hreq : j.req = .driveControl d 2) :
    (4 ≤ d → Ends s .driveControlPark (s.reports j { status := .badParam }))
    ∧ ∀ n : Fin 4, n.val = d → Ends s .driveControlPark (s.mute.parkDrive j.id n false j.fails) := by
  obtain ⟨hp, hdis, hjob⟩ := hj
  have hm : s.mute.dispatched 0 = some j := hdis
  obtain ⟨id, chain, rec, notify, req, phase, fails⟩ := j
  obtain rfl : req = _ := hreq
  have hrow := run_ends (exec_driveControlPark s) hp
  simp only [hm] at hrow
  refine ⟨fun hd => Ends.of_eq hrow ((dif_neg (Nat.not_lt.mpr hd)).trans (State.complete_reports hjob _)), ?_⟩
  rintro n rfl
  exact Ends.of_eq hrow (dif_pos n.isLt)

theorem driveControlPowerOff_ends (hreq : j.req = .driveControl d 3) :
    (4 ≤ d → Ends s .driveControlPowerOff (s.reports j { status := .badParam }))
    ∧ ∀ n : Fin 4, n.val = d → Ends s .driveControlPowerOff (s.mute.parkDrive j.id n true j.fails) := by
  obtain ⟨hp, hdis, hjob⟩ := hj
  have hm : s.mute.dispatched 0 = some j := hdis
  obtain ⟨id, chain, rec, notify, req, phase, fails⟩ := j
  obtain rfl : req = _ := hreq
  have hrow := run_ends (exec_driveControlPowerOff s) hp
  simp only [hm] at hrow
  refine ⟨fun hd => Ends.of_eq hrow ((dif_neg (Nat.not_lt.mpr hd)).trans (State.complete_reports hjob _)), ?_⟩
  rintro n rfl
  exact Ends.of_eq hrow (dif_pos n.isLt)

theorem clearFault_ends (hreq : j.req = .driveControl d 4) :
    (4 ≤ d → Ends s .clearFault (s.reports j { status := .badParam }))
    ∧ ∀ n : Fin 4, n.val = d → Ends s .clearFault (((s.mute.modDrive n Drive.cleared).settle).complete j.id s.drives[n].clearResult) := by
  obtain ⟨hp, hdis, hjob⟩ := hj
  have hm : s.mute.dispatched 0 = some j := hdis
  obtain ⟨id, chain, rec, notify, req, phase, fails⟩ := j
  obtain rfl : req = _ := hreq
  have hrow := run_ends (exec_clearFault s) hp
  simp only [hm] at hrow
  refine ⟨fun hd => Ends.of_eq hrow ((dif_neg (Nat.not_lt.mpr hd)).trans (State.complete_reports hjob _)), ?_⟩
  rintro n rfl
  exact Ends.of_eq hrow (dif_pos n.isLt)

end

/-! ## A drive's state decides -/

section
variable {s : State} {id : Nat} {d : Fin 4} {fails : Nat}

theorem State.startDrive_unusable (hu : s.drives[d].usable = false) :
    s.startDrive id d fails = s.complete id (s.powerResult d .driveUnavailable fails) := if_pos (by rw [hu]; rfl)

theorem State.parkDrive_unusable {off : Bool} (hu : s.drives[d].usable = false) :
    s.parkDrive id d off fails = s.complete id (s.powerResult d .driveUnavailable fails) := if_pos (by rw [hu]; rfl)

variable (hu : s.drives[d].usable = true)
include hu

theorem Drive.usable_not : ¬(!s.drives[d].usable) = true := by rw [hu]; decide

theorem Drive.usable_present : s.drives[d].power ≠ .absent := by
  intro habsent
  have husable := hu
  rw [Drive.usable, habsent] at husable
  cases husable

theorem State.startDrive_ready (hp : s.drives[d].power = .ready) : s.startDrive id d fails = s.complete id (s.powerResult d .ok fails) :=
  (if_neg (Drive.usable_not hu)).trans (if_pos hp)

theorem State.startDrive_raises (hp : s.drives[d].power ≠ .ready) :
    s.startDrive id d fails = ((s.setPhase id (.starting d)).raiseDemand d .start).settle :=
  (if_neg (Drive.usable_not hu)).trans (if_neg hp)

theorem State.parkDrive_settled {off : Bool} (hp : s.drives[d].power = .unpowered ∨ (s.drives[d].power = .parked ∧ off = false)) :
    s.parkDrive id d off fails = s.complete id (s.powerResult d .ok fails) := by
  refine (if_neg (Drive.usable_not hu)).trans ?_
  obtain hp | ⟨hp, rfl⟩ := hp
  · rw [hp]
  · rw [hp]
    rfl

theorem State.parkDrive_pends {off : Bool}
    (hp : s.drives[d].power = .starting ∨ s.drives[d].power = .ready ∨ s.drives[d].power = .stopping
      ∨ (s.drives[d].power = .parked ∧ off = true)) :
    s.parkDrive id d off fails = ((s.setPhase id (.parking d off)).setPark d { off := off, job := true }).settle := by
  refine (if_neg (Drive.usable_not hu)).trans ?_
  obtain hp | hp | hp | ⟨hp, rfl⟩ := hp
  · rw [hp]
  · rw [hp]
  · rw [hp]
  · rw [hp]
    rfl

end

/-- A demand raised on a drive that needs a start and has none of it. -/
theorem State.raiseDemand_new {s : State} {d : Fin 4} {b : DemandBy} (hu : s.drives[d].usable = true) (hp : s.drives[d].power ≠ .ready)
    (hb : b ∉ s.drives[d].demands) :
    s.raiseDemand d b = { s with drives := s.drives.set d { s.drives[d] with demands := s.drives[d].demands ++ [b] } } := by
  rw [State.raiseDemand_eq, Drive.demanded, if_pos ⟨hu, hp, hb⟩, State.driveStep, List.append_nil]

/-- The latched faults as one word (R174). -/
theorem Drive.latched_eq (x : Drive) :
    x.latched =
      (let bit := fun (b : Bool) (v : Nat) => if b then v else 0
       bit x.degraded 1 + bit x.failed 2 + bit x.causes.start 256 + bit x.causes.noAnswer 512 + bit x.causes.removed 1024
        + bit x.causes.rail 2048) := by
  simp only [Drive.latched, Causes.code]
  cases x.degraded <;> cases x.failed <;> cases x.causes.start <;> cases x.causes.noAnswer <;> cases x.causes.removed <;>
    cases x.causes.rail <;> rfl

/-- Settles O45, by the drive's power state. -/
theorem driveControl : Obligations.DriveControl := by
  refine ⟨fun s j d hj => ⟨fun c hc => ?checks, ?acts⟩, fun s j d hj hreq => ?clear⟩
  case checks =>
    obtain ⟨rfl, hreq⟩ | ⟨rfl, hreq⟩ | ⟨rfl, hreq⟩ := hc
    · obtain ⟨hbad, hgood⟩ := driveControlStart_ends hj hreq
      exact ⟨hbad, fun n hn hu => Ends.of_eq (hgood n hn) ((State.startDrive_unusable (s := s.mute) hu).trans (State.complete_reports hj.2.2 _))⟩
    · obtain ⟨hbad, hgood⟩ := driveControlPark_ends hj hreq
      exact ⟨hbad, fun n hn hu => Ends.of_eq (hgood n hn) ((State.parkDrive_unusable (s := s.mute) hu).trans (State.complete_reports hj.2.2 _))⟩
    · obtain ⟨hbad, hgood⟩ := driveControlPowerOff_ends hj hreq
      exact ⟨hbad, fun n hn hu => Ends.of_eq (hgood n hn) ((State.parkDrive_unusable (s := s.mute) hu).trans (State.complete_reports hj.2.2 _))⟩
  case acts =>
    intro n hn hu
    have hreport : ∀ p v, s.drives[n].power = p → BitVec.ofNat 32 p.code = v →
        s.mute.complete j.id (s.mute.powerResult n .ok j.fails) = s.reports j { w0 := v, w1 := BitVec.ofNat 32 j.fails } := by
      rintro p v rfl rfl
      exact State.complete_reports hj.2.2 _
    refine ⟨fun hreq => ?start, fun hreq => ?park, fun hreq => ?off⟩
    case start =>
      have hgood := (driveControlStart_ends hj hreq).2 n hn
      refine ⟨fun hp => Ends.of_eq hgood ((State.startDrive_ready (s := s.mute) hu hp).trans (hreport _ _ hp rfl)), fun hp hb => ?_⟩
      exact Ends.of_eq hgood ((State.startDrive_raises (s := s.mute) hu hp).trans (congrArg State.settle (State.raiseDemand_new (s := s.mute.setPhase j.id (.starting n)) hu hp hb)))
    case park =>
      have hgood := (driveControlPark_ends hj hreq).2 n hn
      refine ⟨fun hp => Ends.of_eq hgood ((State.parkDrive_settled (s := s.mute) hu (.inl hp)).trans (hreport _ _ hp rfl)),
        fun hp => Ends.of_eq hgood ((State.parkDrive_settled (s := s.mute) hu (.inr ⟨hp, rfl⟩)).trans (hreport _ _ hp rfl)), fun hp => ?_⟩
      exact Ends.of_eq hgood (State.parkDrive_pends (s := s.mute) hu (hp.imp_right fun h => h.imp_right .inl))
    case off =>
      have hgood := (driveControlPowerOff_ends hj hreq).2 n hn
      refine ⟨fun hp => Ends.of_eq hgood ((State.parkDrive_settled (s := s.mute) hu (.inl hp)).trans (hreport _ _ hp rfl)), fun hp => ?_⟩
      refine Ends.of_eq hgood (State.parkDrive_pends (s := s.mute) hu ?_)
      have habsent := Drive.usable_present hu
      cases h : s.drives[n].power with
      | absent => exact absurd h habsent
      | unpowered => exact absurd h hp
      | starting => exact .inl h
      | ready => exact .inr (.inl h)
      | stopping => exact .inr (.inr (.inl h))
      | parked => exact .inr (.inr (.inr ⟨h, rfl⟩))
  case clear =>
    obtain ⟨hbad, hgood⟩ := clearFault_ends hj hreq
    refine ⟨hbad, fun n hn => ?_⟩
    intro x bit
    have hresult : s.drives[n].clearResult = { w0 := BitVec.ofNat 32 x.latched, w1 := BitVec.ofNat 32 x.startFails } := rfl
    rw [x.latched_eq] at hresult
    exact Ends.of_eq (hgood n hn) (congrArg ((s.mute.modDrive n Drive.cleared).settle.complete j.id) hresult)

end Sys2Proof.Machine

/-! # ADOPT and RESYNC -/

namespace Sys2Proof.Machine

/-! ## Settling where the drives rest -/

/-- Over drives at rest only the jobs that wait on them and a host-area copy that waits move. -/
theorem State.settle_still {t u v : State} (h : ∀ d : Fin 4, t.drives[d].resting t.cfg.drive[d].idlePark) (hq : t.startQueue = [])
    (hu : t.jobs.foldl State.jobPass t = u) (hv : u.copyKick = v)
    (hsame : v.drives = t.drives ∧ v.startQueue = t.startQueue ∧ v.cfg = t.cfg) : t.settle = v := by
  obtain ⟨hdrives, hqueue, hcfg⟩ := hsame
  have hvd : ∀ d : Fin 4, v.drives[d] = t.drives[d] := fun d => by rw [hdrives]
  have hfill : (t.drives.map fun (x : Drive) => fillRoom x.room.length x) = t.drives := by
    ext i hi
    have hroom := (h ⟨i, hi⟩).2.1
    simp only [Fin.getElem_fin] at hroom
    rw [Vector.getElem_map, hroom]
    rfl
  have hend : drives4.foldl State.endNotReady t = t :=
    foldl_drives4_stays fun d => State.endNotReady_empty ⟨(h d).1, (h d).2.1⟩
  have hkick : t.kickAll = t := State.kickAll_none fun d => (h d).issuesNone
  have hpark : drives4.foldl State.parkPass t = t := foldl_drives4_stays fun d => by
    obtain ⟨-, -, -, hpark, hheld, -⟩ := h d
    exact State.parkPass_none hpark hheld
  have hvkick : v.kickAll = v := State.kickAll_none fun d => by rw [hvd]; exact (h d).issuesNone
  have hsync : v.syncQueue = v := foldl_drives4_stays fun d => by
    obtain ⟨hops, -, hdemands, -⟩ := h d
    exact State.syncRequest_none (State.reason_idle (by rw [hvd]; exact hops) (by rw [hvd]; exact hdemands)) (by rw [hqueue, hq]; exact nofun)
  have htimers : v.withTimers = v := by
    have hone : ∀ d : Fin 4, v.drives[d].timers v.cfg.drive[d].idlePark = v.drives[d] := fun d => by
      obtain ⟨-, -, -, -, -, -, -, -, -, htimers⟩ := h d
      rw [hvd, hcfg, htimers]
    rw [State.withTimers]
    simp only [hone]
    rw [show (Vector.ofFn fun d : Fin 4 => v.drives[d]) = v.drives from (vector_ofFn_map v.drives id).trans (Vector.map_id _)]
  have hsettle : ∀ a b : State, drives4.foldl State.endNotReady t = a →
      ({ a with drives := a.drives.map fun (x : Drive) => fillRoom x.room.length x } : State).kickAll = b →
      t.settle = ((State.grantLoop 4 (State.copyKick (List.foldl State.jobPass ((drives4.foldl State.parkPass b).kickAll)
        (drives4.foldl State.parkPass b).kickAll.jobs)).syncQueue).kickAll).withTimers := by
    rintro _ _ rfl rfl
    rfl
  rw [hsettle t t hend (by rw [hfill]; exact hkick), hpark, hkick, hu, hv, hsync, State.grantLoop_empty 4 (hqueue.trans hq), hvkick, htimers]

/-! ## The two rows and their checks -/

section
variable {s : State} {j : Job} {d : Nat} (hj : s.carries 0 j)
include hj

theorem adopt_bad (hreq : j.req = .driveControl d 5) (hd : 4 ≤ d) : Ends s .adopt (s.reports j { status := .badParam }) := by
  obtain ⟨hp, hdis, hjob⟩ := hj
  have hm : s.mute.dispatched 0 = some j := hdis
  obtain ⟨id, chain, rec, notify, req, phase, fails⟩ := j
  obtain rfl : req = _ := hreq
  have hrow := run_ends (exec_adopt s) hp
  simp only [hm] at hrow
  exact Ends.of_eq hrow ((dif_neg (Nat.not_lt.mpr hd)).trans (State.complete_reports hjob _))

theorem adopt_refused {n : Fin 4} (hreq : j.req = .driveControl n.val 5) {x : Status} (hx : s.adoptRefusal n = some x) :
    Ends s .adopt (s.reports j { status := x }) := by
  obtain ⟨hp, hdis, hjob⟩ := hj
  have hm : s.mute.dispatched 0 = some j := hdis
  have hx' : s.mute.adoptRefusal n = some x := hx
  obtain ⟨id, chain, rec, notify, req, phase, fails⟩ := j
  obtain rfl : req = _ := hreq
  have hrow := run_ends (exec_adopt s) hp
  simp only [hm] at hrow
  refine Ends.of_eq hrow ((dif_pos n.isLt).trans ?_)
  simp only [Fin.eta, hx']
  exact State.complete_reports hjob _

theorem adopt_allowed {n : Fin 4} (hreq : j.req = .driveControl n.val 5) (hx : s.adoptRefusal n = none) :
    Ends s .adopt (((s.mute.setPhase j.id (.adopting { drive := n })).raiseDemand n .adopt).settle) := by
  obtain ⟨hp, hdis, hjob⟩ := hj
  have hm : s.mute.dispatched 0 = some j := hdis
  have hx' : s.mute.adoptRefusal n = none := hx
  obtain ⟨id, chain, rec, notify, req, phase, fails⟩ := j
  obtain rfl : req = _ := hreq
  have hrow := run_ends (exec_adopt s) hp
  simp only [hm] at hrow
  refine Ends.of_eq hrow ((dif_pos n.isLt).trans ?_)
  simp only [Fin.eta, hx']

theorem resync_refused (hreq : j.req = .driveControl d 6) {x : Status} (hx : s.resyncRefusal d = some x) :
    Ends s .resync (s.reports j { status := x }) := by
  obtain ⟨hp, hdis, hjob⟩ := hj
  have hm : s.mute.dispatched 0 = some j := hdis
  have hx' : s.mute.resyncRefusal d = some x := hx
  obtain ⟨id, chain, rec, notify, req, phase, fails⟩ := j
  obtain rfl : req = _ := hreq
  have hrow := run_ends (exec_resync s) hp
  simp only [hm, hx'] at hrow
  exact Ends.of_eq hrow (State.complete_reports hjob _)

theorem resync_allowed {n : Fin 4} (hreq : j.req = .driveControl n.val 6) (hx : s.resyncRefusal n.val = none) :
    Ends s .resync (((s.mute.setPhase j.id (.resyncing n .starting)).raiseDemand n .resync).settle) := by
  obtain ⟨hp, hdis, hjob⟩ := hj
  have hm : s.mute.dispatched 0 = some j := hdis
  have hx' : s.mute.resyncRefusal n.val = none := hx
  obtain ⟨id, chain, rec, notify, req, phase, fails⟩ := j
  obtain rfl : req = _ := hreq
  have hrow := run_ends (exec_resync s) hp
  have hn : Fin.ofNat 4 n.val = n := Fin.ofNat_val_eq_self n
  simp only [hm, hx', hn] at hrow
  exact hrow

end

theorem State.adoptRefusal_wrongState {s : State} {n : Fin 4} (h : s.cat.st ≠ .ready ∨ s.member n = true) :
    s.adoptRefusal n = some .wrongState := if_pos h

theorem State.adoptRefusal_usable {s : State} {n : Fin 4} (hst : s.cat.st = .ready) (hm : s.member n = false) :
    s.adoptRefusal n = if s.drives[n].usable then none else some .driveUnavailable := by
  have hno : ¬(s.cat.st ≠ .ready ∨ s.member n = true) := by rw [hst, hm]; exact fun h => h.elim (fun h => h rfl) nofun
  refine (if_neg hno).trans ?_
  cases s.drives[n].usable <;> rfl

section
variable {s : State} {n : Fin 4} (hn : n.val < 2)
include hn

theorem State.resyncRefusal_wrongState (h : s.cat.st ≠ .ready ∨ s.member n = false) : s.resyncRefusal n.val = some .wrongState := by
  refine (dif_pos hn).trans (if_pos (h.imp_right fun h => ?_))
  rw [show (⟨n.val, by omega⟩ : Fin 4) = n from rfl, h]
  rfl

theorem State.resyncRefusal_usable (hst : s.cat.st = .ready) (hm : s.member n = true) :
    s.resyncRefusal n.val = if s.drives[n].usable then none else some .driveUnavailable := by
  have hno : ¬(s.cat.st ≠ .ready ∨ (!s.member n) = true) := by rw [hst, hm]; exact fun h => h.elim (fun h => h rfl) nofun
  refine (dif_pos hn).trans ((if_neg hno).trans ?_)
  change (if (!s.drives[n].usable) = true then _ else _) = _
  cases s.drives[n].usable <;> rfl

end

/-! ## RESYNC of a drive at rest -/

theorem State.raiseDemand_ready {s : State} {d : Fin 4} (hp : s.drives[d].power = .ready) (b : DemandBy) : s.raiseDemand d b = s := by
  rw [State.raiseDemand_eq, Drive.demanded, if_neg fun h => h.2.1 hp, State.driveStep_self]

/-- A host-area copy begun, its target stale and out of step (R104). -/
def Cat.copyBegun (c : Cat) (i : Fin 2) : Cat :=
  { c with stale := c.stale.set i true, inStepA := c.inStepA.set i false, inStepB := c.inStepB.set i false }

theorem State.resyncJob_one {s : State} {j : Job} (hjobs : s.jobs = [j]) {d : Fin 4} {g : ResyncStage} (hphase : j.phase = .resyncing d g) :
    s.resyncJob = some (j.id, d, g) := by
  simp only [State.resyncJob, hjobs, List.findSome?_cons, hphase]

/-- A RESYNC whose drive is READY takes a hold that is free, and its copy begins (R104). -/
theorem State.jobPass_resync {s : State} {j : Job} {n : Fin 4} {i : Fin 2} (hn : catDrive i = n) (hphase : j.phase = .resyncing n .starting)
    (hjobs : s.jobs = [j]) (hu : s.drives[n].usable = true) (hp : s.drives[n].power = .ready) (hh : s.engine.hold = none)
    (hq : s.engine.holdQueue = []) :
    s.jobPass j =
      { s with
        jobs := [{ j with phase := .resyncing n .copying }]
        engine := { s.engine with hold := some .resync, hostCopy := some { target := i } }
        cat := s.cat.copyBegun i } := by
  let t : State := (s.setPhase j.id (.resyncing n .askingHold)).askHold .resync
  have htjobs : t.jobs = [{ j with phase := .resyncing n .askingHold }] := by
    change (s.jobs.map fun k => if k.id = j.id then _ else k) = _
    rw [hjobs, List.map_cons, if_pos rfl, List.map_nil]
  have hmay : t.mayHold .resync = true := by
    have hth : t.engine.hold = none := hh
    have htq : t.engine.holdQueue = [.resync] := congrArg (· ++ [HoldOwner.resync]) hq
    simp only [State.mayHold, hth, htq, List.head?_cons]
    rfl
  have hbegin : t.beginResync = ((t.takeHold .resync).setPhase j.id (.resyncing n .copying)).beginCopy i := by
    have hjob : t.resyncJob = some (j.id, n, .askingHold) := State.resyncJob_one htjobs rfl
    simp only [State.beginResync, hjob, ← hn, catIndex_catDrive]
  have hpass : s.jobPass j = t.beginResync := by
    simp only [State.jobPass, hphase, hu, hp, Bool.not_true, Bool.false_eq_true, if_false, if_true]
    exact if_pos hmay
  have hhold : (t.takeHold .resync).engine = { s.engine with hold := some .resync } := by
    have hth : t.engine.hold ≠ some .resync := by
      rw [show t.engine.hold = none from hh]
      exact nofun
    have htail : (if t.engine.hold = some .resync then t.engine.holdQueue else t.engine.holdQueue.tail) = s.engine.holdQueue := by
      rw [if_neg hth, show t.engine.holdQueue = s.engine.holdQueue ++ [.resync] from rfl, hq]
      rfl
    exact congrArg (fun l => { s.engine with hold := some .resync, holdQueue := l }) htail
  have hjobs' : (t.setPhase j.id (.resyncing n .copying)).jobs = [{ j with phase := .resyncing n .copying }] := by
    rw [State.setPhase_jobs, htjobs, List.map_cons, if_pos rfl, List.map_nil]
  rw [hpass, hbegin]
  exact (congrArg (fun l => { ((t.takeHold .resync).beginCopy i) with jobs := l }) hjobs').trans
    (congrArg (fun e : Engine => { s with
      jobs := [{ j with phase := .resyncing n .copying }], engine := { e with hostCopy := some { target := i } }, cat := s.cat.copyBegun i })
      hhold)

/-- A host-area copy that waits for no write begins with its first read (R101). -/
theorem State.copyKick_reads {s : State} {i : Fin 2} (hcopy : s.engine.hostCopy = some { target := i })
    (hwrites : s.blockWritesUnderWay = false) (hm : s.member (catDrive (1 - i)) = true) (hf : s.drives[catDrive (1 - i)].failed = false)
    (hstale : s.cat.stale[1 - i] = false) :
    s.copyKick =
      { s with
        engine := { s.engine with hostCopy := some { target := i, waiting := false } }
        nextId := s.nextId + 1
        offers := s.offers ++
          [{ drive := catDrive (1 - i)
             op := { id := s.nextId, cls := .bulk, kind := .areaRead, first := (2 * s.cat.geo.c + 1) * 1024, count := 256, owner := .hostCopy } }] } := by
  have hready : s.member (catDrive (peer i)) = true ∧ (!s.drives[catDrive (peer i)].failed) = true ∧ (!s.cat.stale[peer i]) = true := by
    change s.member (catDrive (1 - i)) = true ∧ (!s.drives[catDrive (1 - i)].failed) = true ∧ (!s.cat.stale[1 - i]) = true
    rw [hm, hf, hstale]
    decide
  have hread : ∀ t : State, t.copyRead { target := i } =
      t.offer (catDrive (1 - i)) .bulk .areaRead ((2 * t.cat.geo.c + 1) * 1024) 256 .hostCopy [] := fun t =>
    congrArg (fun n => t.offer (catDrive (1 - i)) .bulk .areaRead n 256 .hostCopy []) (Nat.add_zero _)
  simp only [State.copyKick, hcopy, hwrites, Bool.not_true, Bool.false_eq_true, or_self, if_false]
  exact (if_pos hready).trans (hread _)

/-- RESYNC of a READY drive, the part at rest and the hold free (R104). -/
theorem State.resync_settles {s : State} {j : Job} {n : Fin 4} {i : Fin 2} (hn : catDrive i = n) (hrest : s.resting) (hjobs : s.jobs = [j])
    (hu : s.drives[n].usable = true) (hp : s.drives[n].power = .ready) (hh : s.engine.hold = none) (hq : s.engine.holdQueue = [])
    (horphans : s.engine.orphans = []) (hm : s.member (catDrive (1 - i)) = true) (hf : s.drives[catDrive (1 - i)].failed = false)
    (hstale : s.cat.stale[1 - i] = false) :
    (s.setPhase j.id (.resyncing n .starting)).settle =
      { s with
        jobs := (s.setPhase j.id (.resyncing n .copying)).jobs
        engine := { s.engine with hold := some .resync, hostCopy := some { target := i, waiting := false } }
        cat := s.cat.copyBegun i
        nextId := s.nextId + 1
        offers := s.offers ++
          [{ drive := catDrive (1 - i)
             op := { id := s.nextId, cls := .bulk, kind := .areaRead, first := (2 * s.cat.geo.c + 1) * 1024, count := 256, owner := .hostCopy } }] } := by
  let t : State := s.setPhase j.id (.resyncing n .starting)
  have htjobs : ∀ p, (s.setPhase j.id p).jobs = [{ j with phase := p }] := fun p => by
    rw [State.setPhase_jobs, hjobs, List.map_cons, if_pos rfl, List.map_nil]
  let u : State := { t with
    jobs := [{ j with phase := .resyncing n .copying }]
    engine := { s.engine with hold := some .resync, hostCopy := some { target := i } }
    cat := s.cat.copyBegun i }
  have hpass : t.jobs.foldl State.jobPass t = u := by
    rw [htjobs, List.foldl_cons, List.foldl_nil]
    exact State.jobPass_resync (s := t) hn rfl (htjobs _) hu hp hh hq
  have hne : 1 - i ≠ i := (by decide : ∀ i : Fin 2, 1 - i ≠ i) i
  have hkick := State.copyKick_reads (s := u) rfl (by simp [State.blockWritesUnderWay, u, horphans]) hm hf
    ((vector_set_other s.cat.stale hne true).trans hstale)
  have hsettle := State.settle_still (t := t) hrest.1 hrest.2.1 hpass hkick ⟨rfl, rfl, rfl⟩
  rw [htjobs (.resyncing n .copying)]
  exact hsettle

/-! ## ADOPT's action -/

theorem Cat.resetSlot_empty {c : Cat} {d : Fin 4} (h : c.aus[d] = []) : c.resetSlot d = c := by rw [Cat.resetSlot, h, List.foldl_nil]

/-- A walk that finds no copy on the drive (R103). -/
theorem State.adoptWalk_none {t : State} {d : Fin 4} {l : List (Nat × Entry)} (h : ∀ q ∈ l, q.2.st = .pending ∨ q.2.onDrive d = 0)
    (p : State × AdoptWork) : l.foldl (t.adoptWalk d) p = p := by
  induction l with
  | nil => rfl
  | cons q l ih =>
    have hq : t.adoptWalk d p q = p := if_pos (h q List.mem_cons_self)
    rw [List.foldl_cons, hq, ih fun q hq => h q (List.mem_cons_of_mem _ hq)]

theorem State.adoptAct_copies {s : State} {id : Nat} {w : AdoptWork} {i : Fin 2} (hd : w.drive = catDrive i) (hhold : s.engine.hold = none)
    (hqueue : s.engine.holdQueue = [.adopt])
    (haus : s.cat.aus[catDrive i] = []) (hindex : ∀ q ∈ s.cat.index, q.2.st = .pending ∨ q.2.onDrive (catDrive i) = 0) :
    s.adoptAct id w =
      { s.setPhase id (.adopting { w with
          stage := .copying, reset := s.cat.geo.au[catDrive i] - s.cat.geo.firstChunkAu (catDrive i) }) with
        engine := { s.engine with hold := some .adopt, holdQueue := [], hostCopy := some { target := i } }
        cat := s.cat.copyBegun i
        drives := s.drives.set (catDrive i) { s.drives[catDrive i] with epoch := s.drives[catDrive i].epoch + 1 } } := by
  have htail : (if s.engine.hold = some HoldOwner.adopt then s.engine.holdQueue else s.engine.holdQueue.tail) = [] := by
    rw [if_neg (by rw [hhold]; exact nofun), hqueue]
    rfl
  have hreset : (((s.takeHold .adopt).modDrive (catDrive i) fun x => { x with epoch := x.epoch + 1 }).modCat fun c => c.resetSlot (catDrive i)) =
      { s with
        engine := { s.engine with hold := some .adopt, holdQueue := [] }
        drives := s.drives.set (catDrive i) { s.drives[catDrive i] with epoch := s.drives[catDrive i].epoch + 1 } } := by
    refine (congrArg (fun c : Cat => State.modCat _ fun _ => c) (Cat.resetSlot_empty haus)).trans ?_
    exact congrArg (fun q => { s with
      engine := { s.engine with hold := some .adopt, holdQueue := q }
      drives := s.drives.set (catDrive i) { s.drives[catDrive i] with epoch := s.drives[catDrive i].epoch + 1 } }) htail
  simp only [State.adoptAct, hd, catIndex_catDrive, hreset, State.adoptWalk_none hindex]
  rfl

/-! ## The host-area copy -/

section
variable {s : State} {h : HostCopy} {p : Fin 4} {o : Op} {data : List Byte} (hcopy : s.engine.hostCopy = some h) (howner : o.owner = .hostCopy)
include hcopy howner

theorem State.hostCopy_read (hkind : o.kind = .areaRead) :
    s.hand p o (.done data) = s.offer (catDrive h.target) .bulk .areaWrite o.first 256 .hostCopy data := by
  simp only [State.hand, State.labelOp, hkind, howner, State.copyOp, hcopy]

theorem State.hostCopy_goesOn (hkind : o.kind = .areaWrite) (hmore : h.pairs + 1 < 4 * s.cat.geo.h) :
    s.hand p o (.done data) =
      (s.modEngine fun e => { e with hostCopy := some { h with pairs := h.pairs + 1 } }).copyRead { h with pairs := h.pairs + 1 } := by
  simp only [State.hand, State.labelOp, hkind, howner, State.copyOp, hcopy]
  exact if_pos hmore

theorem State.hostCopy_ends (hkind : o.kind = .areaWrite) (hdone : 4 * s.cat.geo.h ≤ h.pairs + 1) :
    s.hand p o (.done data) = s.copyEnded { h with pairs := h.pairs + 1 } .ok := by
  simp only [State.hand, State.labelOp, hkind, howner, State.copyOp, hcopy]
  exact if_neg (Nat.not_lt.mpr hdone)

end

theorem State.copyRead_eq (s : State) (h : HostCopy) :
    s.copyRead h =
      { s with
        nextId := s.nextId + 1
        offers := s.offers ++
          [{ drive := catDrive (1 - h.target)
             op := { id := s.nextId, cls := .bulk, kind := .areaRead, first := (2 * s.cat.geo.c + 1) * 1024 + 256 * h.pairs
                     count := 256, owner := .hostCopy } }] } := rfl

theorem State.adoptJob_one {s : State} {j : Job} (hjobs : s.jobs = [j]) {d : Fin 4} {g : ResyncStage} (hphase : j.phase = .resyncing d g) :
    s.adoptJob = none := by
  simp only [State.adoptJob, hjobs, List.findSome?_cons, hphase, List.findSome?_nil]

/-- A hold that ends with nobody waiting for it and no request held (R88). -/
theorem State.releaseHold_free {s : State} (hq : s.engine.holdQueue = []) (hheld : s.engine.held = []) :
    s.releaseHold = { s with engine := { s.engine with hold := none } } := by
  have hdrain : ∀ t : State, t.engine.held = [] → t.drainHeld = t := fun t ht => by
    rw [State.drainHeld, ht, List.foldl_nil]
    exact congrArg (fun l => { t with engine := { t.engine with held := l } }) ht.symm
  have hrelease : s.releaseHold = (s.modEngine fun e => { e with hold := none }).drainHeld := by simp only [State.releaseHold, hq]
  exact hrelease.trans (hdrain _ hheld)

theorem State.blockOffers_none {s : State} (h : ∀ j ∈ s.jobs, ∀ w, j.phase ≠ .blockWriting w) : s.blockOffers = s := by
  dsimp only [State.blockOffers]
  split
  · rfl
  · generalize hl : List.filterMap _ s.jobs = l
    have hnil : l = [] := by
      rw [← hl]
      refine List.filterMap_eq_nil_iff.mpr fun j hj => ?_
      have hphase := h j hj
      split
      · rename_i w hw
        exact absurd hw (hphase w)
      · rfl
    rw [hnil]
    rfl

/-- A RESYNC's copy has ended (R101, R104). -/
theorem State.copyEnded_resync {s : State} {h : HostCopy} {j : Job} {n : Fin 4} (hjobs : s.jobs = [j]) (hphase : j.phase = .resyncing n .copying)
    (hq : s.engine.holdQueue = []) (hheld : s.engine.held = []) (hout : s.out = {}) :
    s.copyEnded h .ok =
      { s.reports j { aux := min (h.pairs / 4) 65535, w0 := BitVec.ofNat 32 (256 * h.pairs) } with
        engine := { s.engine with hostCopy := none, hold := none }
        cat := { s.cat with stale := s.cat.stale.set h.target false } } := by
  let t : State := (s.modEngine fun e => { e with hostCopy := none }).modCat fun c => { c with stale := c.stale.set h.target false }
  let r : Result := { aux := min (h.pairs / 4) 65535, w0 := BitVec.ofNat 32 (256 * h.pairs) }
  have hadopt : ((s.modEngine fun e => { e with hostCopy := none }).modCat fun c =>
      { c with stale := c.stale.set h.target false }).adoptJob = none := State.adoptJob_one hjobs hphase
  have hresync : ((s.modEngine fun e => { e with hostCopy := none }).modCat fun c =>
      { c with stale := c.stale.set h.target false }).resyncJob = some (j.id, n, .copying) := State.resyncJob_one hjobs hphase
  have hended : s.copyEnded h .ok = ((t.complete j.id r).releaseHold).blockOffers := by
    simp only [State.copyEnded, if_true, hadopt, hresync]
    rfl
  have hreported : t.complete j.id r = { s.reports j r with engine := t.engine, cat := t.cat } := by
    rw [State.complete_eq (j := j) (by rw [State.job, show t.jobs = [j] from hjobs, List.find?_cons_of_pos (by simp)])]
    exact congrArg (fun o : Outputs => { s.reports j r with engine := t.engine, cat := t.cat, out := { o with acts := o.acts ++ [Out.hostWrite (j.record + 48) r.bytes] } }) hout
  have hphases : ∀ k ∈ (s.reports j r).jobs, ∀ w, k.phase ≠ .blockWriting w := by
    intro k hk w
    obtain ⟨i, hi, rfl⟩ := List.mem_map.mp (show k ∈ s.jobs.map _ from hk)
    have hij : i = j := List.mem_singleton.mp (hjobs ▸ hi)
    rw [if_pos (congrArg Job.id hij)]
    exact nofun
  rw [hended, hreported, State.releaseHold_free (s := { s.reports j r with engine := t.engine, cat := t.cat }) hq hheld]
  exact State.blockOffers_none hphases

/-- Settles O46. -/
theorem adoptAndResync : Obligations.AdoptAndResync := by
  refine ⟨fun s j d hd hreq hj => adopt_bad hj hreq hd, fun s j d n hn => ⟨fun hreq hj => ?adopt, fun hreq hj => ?resync,
    fun w i hj hadopt hstage hdrive hhold hqueue haus hindex => ?action⟩,
    fun s h p o c again data v hp hcopy hops howner hw hlast hport => ?copy⟩
  case adopt =>
    subst hn
    refine ⟨fun h => adopt_refused hj hreq (State.adoptRefusal_wrongState h), fun hst hm hu => ?_, fun hst hm hu hpower hb => ?_⟩
    · exact adopt_refused hj hreq ((State.adoptRefusal_usable hst hm).trans (by rw [hu]; rfl))
    · have hends := adopt_allowed hj hreq ((State.adoptRefusal_usable hst hm).trans (by rw [hu]; rfl))
      exact Ends.of_eq hends (congrArg State.settle
        (State.raiseDemand_new (s := s.mute.setPhase j.id (.adopting { drive := n })) hu hpower hb))
  case resync =>
    subst hn
    refine ⟨fun hd => ?_, fun hd h => resync_refused hj hreq (State.resyncRefusal_wrongState hd h), fun hd hst hm hu hpower hb => ?_,
      fun hd hst hm hu => ?_, fun i hi hst hm hu hpower hrest hjobs hh hq horphans hpm hpf hps => ?_⟩
    · exact resync_refused hj hreq (dif_neg (Nat.not_lt.mpr hd))
    · have hends := resync_allowed hj hreq ((State.resyncRefusal_usable hd hst hm).trans (by rw [hu]; rfl))
      exact Ends.of_eq hends (congrArg State.settle
        (State.raiseDemand_new (s := s.mute.setPhase j.id (.resyncing n .starting)) hu hpower hb))
    · exact resync_refused hj hreq ((State.resyncRefusal_usable hd hst hm).trans (by rw [hu]; rfl))
    · have hd : n.val < 2 := by
        rw [← hi]
        exact i.isLt
      have hends := resync_allowed hj hreq ((State.resyncRefusal_usable hd hst hm).trans (by rw [hu]; rfl))
      refine Ends.of_eq hends ?_
      rw [State.raiseDemand_ready (s := s.mute.setPhase j.id (.resyncing n .starting)) hpower]
      exact State.resync_settles (s := s.mute) hi hrest hjobs hu hpower hh hq horphans hpm hpf hps
  case action =>
    obtain ⟨hp, hjob⟩ := hj
    have hm : s.mute.adoptJob = some (j.id, w) := hadopt
    have hmay : s.mute.mayHold .adopt = true := by
      have hh : s.mute.engine.hold = none := hhold
      have hq : s.mute.engine.holdQueue = [.adopt] := hqueue
      simp only [State.mayHold, hh, hq, List.head?_cons]
      rfl
    have hrow := run_ends (exec_adoptAction s) hp
    simp only [hm] at hrow
    refine Ends.of_eq hrow ((if_pos ⟨hstage, hmay⟩).trans (congrArg State.settle ?_))
    exact State.adoptAct_copies (s := s.mute) hdrive hhold hqueue haus hindex
  case copy =>
    let q : Op := { o with segsDone := o.segsDone + 1, data := o.data ++ data }
    have hsegs : o.segments ≤ o.segsDone + 1 := hlast.ge
    have hleft : (s.mute.opLeft p).engine.hostCopy = some h := hcopy
    refine ⟨fun hkind => ?_, fun hkind hmore => ?_, fun j n hkind hdone hjobs hphase hhold hq hheld => ?_⟩
    · let t : State := { s.mute.opLeft p with
        nextId := s.nextId + 1
        offers := s.offers ++
          [{ drive := catDrive h.target
             op := { id := s.nextId, cls := .bulk, kind := .areaWrite, first := o.first, count := 256, owner := .hostCopy
                     payload := o.data ++ data } }] }
      have hhand : (s.mute.opLeft p).hand p q (.done (o.data ++ data)) = t :=
        State.hostCopy_read (s := s.mute.opLeft p) (o := q) hleft howner hkind
      exact onlyOp_done_ends (t := t) hp hops hw hport rfl (hkind ▸ nofun) hsegs hhand
    · let t : State := { s.mute.opLeft p with
        nextId := s.nextId + 1
        engine := { s.engine with hostCopy := some { h with pairs := h.pairs + 1 } }
        offers := s.offers ++
          [{ drive := catDrive (1 - h.target)
             op := { id := s.nextId, cls := .bulk, kind := .areaRead
                     first := (2 * s.cat.geo.c + 1) * 1024 + 256 * (h.pairs + 1), count := 256, owner := .hostCopy } }] }
      have hhand : (s.mute.opLeft p).hand p q (.done (o.data ++ data)) = t := by
        rw [State.hostCopy_goesOn (s := s.mute.opLeft p) (o := q) hleft howner hkind hmore, State.copyRead_eq]
        rfl
      exact onlyOp_done_ends (t := t) hp hops hw hport rfl (hkind ▸ nofun) hsegs hhand
    · let t : State := { s.reports j { aux := min ((h.pairs + 1) / 4) 65535, w0 := BitVec.ofNat 32 (256 * (h.pairs + 1)) } with
        drives := (s.mute.opLeft p).drives
        engine := { s.engine with hostCopy := none, hold := none }
        cat := { s.cat with stale := s.cat.stale.set h.target false } }
      have hhand : (s.mute.opLeft p).hand p q (.done (o.data ++ data)) = t := by
        rw [State.hostCopy_ends (s := s.mute.opLeft p) (o := q) hleft howner hkind hdone]
        exact State.copyEnded_resync (s := s.mute.opLeft p) (h := { h with pairs := h.pairs + 1 }) hjobs hphase hq hheld rfl
      exact onlyOp_done_ends (t := t) hp hops hw hport rfl (hkind ▸ nofun) hsegs hhand

end Sys2Proof.Machine

/-! # Box power (R183 to R191) -/

namespace Sys2Proof.Machine

/-! ## Cold start and wake -/

theorem State.wakeEvent_wakes {s : State} {w : WakeSource} (h : s.wakesBox w = true) : s.wakeEvent w = s.enterWaking w := if_pos h

theorem State.wakeEvent_ignored {s : State} {w : WakeSource} (h : s.wakesBox w = false) : s.wakeEvent w = s :=
  if_neg fun hw => Bool.false_ne_true (h.symm.trans hw)

theorem State.wakesBox_enabled {s : State} {w : WakeSource} (hst : s.box.st = .sleep) (hw : s.cfg.wakes w = true) (hb : s.box.battLow = false) :
    s.wakesBox w = true := by simp [State.wakesBox, hst, hw, hb]

theorem State.wakesBox_disabled {s : State} {w : WakeSource} (hw : s.cfg.wakes w = false) : s.wakesBox w = false := by simp [State.wakesBox, hw]

theorem State.wakesBox_low {s : State} {w : WakeSource} (hw : w ≠ .mains) (hb : s.box.battLow = true) : s.wakesBox w = false := by
  simp [State.wakesBox, hw, hb]

/-- The emergency condition does not hold (R184). -/
theorem State.emergencyCheck_none {t : State} (h : ¬(t.box.st = .run ∧ t.box.supply = .battery ∧ (t.box.hold = .expired ∨ t.box.battLow = true))) :
    t.emergencyCheck = t := by
  refine if_neg fun he => h ?_
  simpa [State.emergency, and_assoc] using he

theorem State.emergencyCheck_mains {t : State} (h : t.box.supply = .mains) : t.emergencyCheck = t :=
  State.emergencyCheck_none fun ⟨_, hs, _⟩ => Supply.noConfusion (h.symm.trans hs)

/-- Settles O52. -/
theorem coldStartAndWake : Obligations.ColdStartAndWake := by
  refine ⟨fun s present mains low => ?cold, fun s hp => ⟨fun hst => ?asleep, fun hst => ?button, fun hst hrail => ?second,
    fun hst hrail hsupply hkept => ?run⟩⟩
  case cold =>
    rw [exec_coldStart]
    rfl
  case asleep =>
    have hnet := run_ends (exec_networkWake s) hp
    have hbut := run_ends (exec_buttonPress s) hp
    have hrun : ¬s.mute.box.st = .run := fun h => BoxState.noConfusion (hst.symm.trans h)
    simp only [if_neg hrun] at hbut
    refine ⟨fun hw hb => ?_, fun hw hb => ?_, fun h => ?_, fun h => ?_⟩
    · exact Ends.of_eq hnet (State.wakeEvent_wakes (State.wakesBox_enabled (s := s.mute) hst hw hb))
    · exact Ends.of_eq hbut (State.wakeEvent_wakes (State.wakesBox_enabled (s := s.mute) hst hw hb))
    · exact Ends.of_eq hnet (State.wakeEvent_ignored
        (h.elim (State.wakesBox_disabled (s := s.mute) (w := .network)) (State.wakesBox_low (s := s.mute) nofun)))
    · exact Ends.of_eq hbut (State.wakeEvent_ignored
        (h.elim (State.wakesBox_disabled (s := s.mute) (w := .button)) (State.wakesBox_low (s := s.mute) nofun)))
  case button =>
    have hrow := run_ends (exec_buttonPress s) hp
    exact Ends.of_eq hrow (if_pos hst)
  case second =>
    have hrow := run_ends (exec_hostRailStep s) hp
    refine Ends.of_eq hrow ((if_neg (not_not_intro hst)).trans (if_neg ?_))
    rw [show s.mute.box.rail2 = false from hrail]
    exact Bool.false_ne_true
  case run =>
    have hrow := run_ends (exec_hostRailStep s) hp
    refine Ends.of_eq hrow ((if_neg (not_not_intro hst)).trans ((if_pos hrail).trans ?_))
    have hno : s.mute.box.keptPrestart = 0 → ∀ t : State, t.prestart s.mute.box.keptPrestart = t := fun h t => if_pos h
    have hbox : { s.box with st := .run, keptPrestart := 0, hold := if s.box.supply = .battery then s.cfg.holdStart else .stopped } =
        { s.box with st := .run, hold := .stopped } := by
      rw [if_neg (by rw [hsupply]; exact nofun), ← hkept]
    simp only [State.enterRun, hno hkept]
    by_cases hf : s.box.fromSleep = true
    · rw [if_pos hf, if_pos (show s.mute.box.fromSleep = true from hf), State.emergencyCheck_mains (by exact hsupply)]
      exact congrArg (fun b => { s.mute with box := b, attn := s.attn ||| 0x20 }) hbox
    · rw [if_neg hf, if_neg (show ¬s.mute.box.fromSleep = true from hf), State.emergencyCheck_mains (by exact hsupply)]
      exact congrArg (fun b => { s.mute with box := b }) hbox

/-! ## Supply and the emergency condition -/

theorem State.stopChains_attached {s : State} (ha : s.link.attach = .attached) (hscrub : s.scrub = none) :
    s.stopChains = { s with chains := s.chains.map stopChain } := by
  have hstop : s.stop = { s with chains := s.chains.map stopChain } := by simp only [State.stop, ha]
  rw [State.stopChains, hstop, State.scrubRest_none (by exact hscrub)]

/-- The emergency shutdown begun while jobs are in flight (R190). -/
theorem State.emergencyCheck_begins {t : State} (hst : t.box.st = .run) (hsupply : t.box.supply = .battery)
    (hwhy : t.box.hold = .expired ∨ t.box.battLow = true) (ha : t.link.attach = .attached) (hjobs : t.jobs ≠ []) (hscrub : t.scrub = none) :
    t.emergencyCheck =
      { t with
        box := { t.box with
          st := .sleepPrep, hold := .stopped, seq := some { shutdown := true }, drain := true, consentWait := true, consentKept := false }
        attn := t.attn ||| 0x40
        chains := t.chains.map stopChain } := by
  have he : t.emergency = true := by simpa [State.emergency, hst, hsupply] using hwhy
  let u : State := { t with
    box := { t.box with
      st := .sleepPrep, hold := .stopped, seq := some { shutdown := true }, drain := true, consentWait := true, consentKept := false }
    attn := t.attn ||| 0x40 }
  refine (if_pos he).trans ((congrArg State.drainCheck (State.stopChains_attached (s := u) ha hscrub)).trans ?_)
  refine if_neg fun h => hjobs ?_
  exact List.isEmpty_iff.mp h.2

/-- The box at a switch-over in RUN outside a sequence (R183, R184). -/
theorem Box.switched_run {b : Box} (hst : b.st = .run) (hseq : b.seq = none) (good : Bool) (stamp : BitVec 32) (start : HoldTimer) :
    b.switched good stamp start =
      { b with supply := supplyOf good, switchTime := stamp, hold := if good then .stopped else start } := by
  have hpending : (b.pendingMains || (good && b.seq.any fun q => q.shutdown)) = b.pendingMains := by rw [hseq, Option.any_none, Bool.and_false, Bool.or_false]
  rw [Box.switched, if_pos hst, hpending]

/-- Settles O53. -/
theorem supplyChanges : Obligations.SupplyChanges := by
  intro s hp hst
  refine ⟨fun hs hseq => ?battery, fun hs hseq => ?mains, fun hs => ?low, fun t h => State.emergencyCheck_none h,
    fun ha hjobs hscrub => ?shutdown⟩
  case battery =>
    have hrow := run_ends (exec_supplySwitchOver false s) hp
    refine Ends.of_eq hrow ((if_neg ?_).trans (congrArg (fun t => (State.settle t).emergencyCheck) ?_))
    · rw [show s.mute.box.supply = .mains from hs]
      exact nofun
    · exact congrArg (fun b => { s.mute with box := b, attn := s.attn ||| 4 }) (Box.switched_run hst hseq false s.stamp s.cfg.holdStart)
  case mains =>
    have hrow := run_ends (exec_supplySwitchOver true s) hp
    refine Ends.of_eq hrow ((if_neg ?_).trans (congrArg (fun t => (State.settle t).emergencyCheck) ?_))
    · rw [show s.mute.box.supply = .battery from hs]
      exact nofun
    · have hrun : ((s.mute.modBox fun b => b.switched true s.stamp s.cfg.holdStart).setCause .supply).wakesBox .mains = false := by
        simp [State.wakesBox, State.setCause, State.modBox, Box.switched, hst]
      refine (State.wakeEvent_ignored hrun).trans ?_
      exact congrArg (fun b => { s.mute with box := b, attn := s.attn ||| 4 }) (Box.switched_run hst hseq true s.stamp s.cfg.holdStart)
  case low =>
    have hset := run_ends (exec_batteryLowChange true s) hp
    have hclear := run_ends (exec_batteryLowChange false s) hp
    exact ⟨Ends.of_eq hset (State.emergencyCheck_mains hs), Ends.of_eq hclear (State.emergencyCheck_mains hs)⟩
  case shutdown =>
    refine ⟨fun n hs hhold => ?_, fun hs => ?_, fun hrest hs hseq hwhy => ?_⟩
    · have hrow := run_ends (exec_holdTimerExpiry s) hp
      refine Ends.of_eq hrow ((if_pos ?_).trans ?_)
      · rw [show s.mute.box.hold = .running n from hhold]
        rfl
      · exact State.emergencyCheck_begins hst hs (.inl rfl) ha hjobs hscrub
    · have hrow := run_ends (exec_batteryLowChange true s) hp
      let t : State := { s.mute with box := { s.box with battLow := true }, attn := s.attn ||| 8 }
      refine Ends.of_eq hrow ((State.emergencyCheck_begins (t := t) hst hs (.inr rfl) ha hjobs hscrub).trans ?_)
      exact congrArg (fun a => { s.mute with
        box := { s.box with
          battLow := true, st := .sleepPrep, hold := .stopped, seq := some { shutdown := true }, drain := true, consentWait := true
          consentKept := false }
        attn := a
        chains := s.chains.map stopChain }) (BitVec.or_assoc s.attn 8 0x40)
    · have hrow := run_ends (exec_supplySwitchOver false s) hp
      have hdown : ¬s.mute.box.supply = supplyOf false := by
        rw [show s.mute.box.supply = .mains from hs]
        exact nofun
      let t : State := { s.mute with box := s.box.switched false s.stamp s.cfg.holdStart, attn := s.attn ||| 4 }
      have hsettle : t.settle = t := State.resting_settles hrest
      have hswitched : t.box = { s.box with
          supply := .battery, switchTime := s.stamp, hold := if false then .stopped else s.cfg.holdStart } :=
        Box.switched_run hst hseq false s.stamp s.cfg.holdStart
      have hcause : t.box.hold = .expired ∨ t.box.battLow = true := by
        rw [hswitched]
        exact hwhy.symm.imp (fun h => if_pos h) id
      have hbegins : t.emergencyCheck = _ :=
        State.emergencyCheck_begins (t := t) (by rw [hswitched]; exact hst) rfl hcause ha hjobs hscrub
      refine Ends.of_eq hrow ((if_neg hdown).trans ((congrArg State.emergencyCheck hsettle).trans (hbegins.trans ?_)))
      rw [hswitched]
      exact congrArg (fun a => { s.mute with
        box := { s.box with
          supply := .battery, switchTime := s.stamp
          st := .sleepPrep, hold := .stopped, seq := some { shutdown := true }, drain := true, consentWait := true, consentKept := false }
        attn := a
        chains := s.chains.map stopChain }) (BitVec.or_assoc s.attn 4 0x40)

/-! ## The sleep sequence -/

/-- Settles O55. -/
theorem sleep : Obligations.Sleep := by
  intro s hp
  refine ⟨fun j hj hreq => ?job, fun j closed hj hseq hdown => ?step, fun htimer hpending hload hckpt hlists => ?consent⟩
  case job =>
    obtain ⟨hp, hd, hjob⟩ := hj
    have hm : s.mute.dispatched 0 = some j := hd
    obtain ⟨id, chain, rec, notify, req, phase, fails⟩ := j
    obtain rfl : req = _ := hreq
    have hrow := run_ends (exec_sleep s) hp
    simp only [hm] at hrow
    refine ⟨fun hst => ?_, fun hst ha hscrub => ?_⟩
    · exact Ends.of_eq hrow ((if_pos hst).trans (State.complete_reports hjob _))
    · exact Ends.of_eq hrow ((if_neg (not_not_intro hst)).trans (State.stopChains_attached ha hscrub))
  case step =>
    obtain ⟨hp, hjob⟩ := hj
    have hs : s.mute.box.seq = some _ := hseq
    have hparked : ∀ d : Fin 4, s.mute.drives[d].power = .parked := hdown
    have hend : s.mute.stepEnded { step := .park, job := some j.id, closed := closed, ckpt := .succeeded } = true := by
      refine List.all_eq_true.mpr fun d _ => ?_
      rw [Drive.down, hparked d]
      simp
    have hresult : s.mute.sleepResult { step := .park, job := some j.id, closed := closed, ckpt := .succeeded } =
        { w0 := BitVec.ofNat 32 closed, w1 := 1, w2 := 15 } := by
      simp only [State.sleepResult, drives4, List.foldl_cons, List.foldl_nil, hparked, if_true]
      rfl
    have hrow := run_ends (exec_sleepSequenceStep s) hp
    simp only [hs] at hrow
    let t : State := { s.mute with
      box := { s.box with
        consentWait := true, seq := some { step := .complete, job := some j.id, closed := closed, ckpt := .succeeded } } }
    have hseq' : ((s.mute.modSeq fun y => { y with step := .complete }).modBox fun b => { b with consentWait := true }) = t :=
      congrArg (fun q => { s.mute with box := { s.box with consentWait := true, seq := q } })
        (congrArg (Option.map fun (y : Seq) => { y with step := .complete }) hseq)
    refine Ends.of_eq hrow ((if_pos ⟨rfl, hend⟩).trans (congrArg State.settle ?_))
    refine (congrArg₂ (fun u r => State.complete u j.id r) hseq' hresult).trans ?_
    exact State.complete_eq (s := t) (by exact hjob) _
  case consent =>
    have hrow := run_ends (exec_consentTimerExpiry s) hp
    refine Ends.of_eq hrow ((if_pos htimer).trans ?_)
    rw [State.enterSleep_empty hpending hload hckpt hlists]

end Sys2Proof.Machine

/-! # The emergency shutdown (R190, R191) -/

namespace Sys2Proof.Machine

/-! ## The internal close -/

section
variable {s : State} {n : Fin 8}

/-- An internal close with nothing left in the window ends at once (R68). -/
theorem State.internalClose_waiting (hst : s.streams[n].st ≠ .closed) (hwindow : ∀ c ∈ s.streams[n].window, c.phase = .waiting) :
    s.internalClose n = { s with streams := s.streams.set n {} } := by
  have hempty : (s.streams[n].window.filter fun c => c.phase != .waiting) = [] :=
    List.filter_eq_nil_iff.mpr fun c hc => by rw [hwindow c hc]; decide
  let x : Stream := { s.streams[n].fresh with st := .closing, internal := true, list := [], window := [] }
  have hclose : s.internalClose n = State.settleStream { s with streams := s.streams.set n x } n := by
    refine (if_neg hst).trans (congrArg (fun l => State.settleStream
      (s.modStream n fun x => { x.fresh with st := .closing, internal := true, list := [], window := l }) n) hempty)
  let t : State := { s with streams := s.streams.set n x }
  have hx : t.streams[n] = x := vector_set_same _ _ _
  have hwork : t.streamWork n = t := State.streamWork_none (by rw [hx]; rfl) (by rw [hx]; exact nofun)
    (Stream.resolvesNone_empty (by rw [hx]))
  let u : State := { s with streams := s.streams.set n {} }
  have hu : u.streams[n] = {} := vector_set_same _ _ _
  have hadvance : t.listAdvance n = some u := by
    have hclosed : t.streamClosed n = t.modStream n fun _ => {} := by
      simp only [State.streamClosed, hx, show x.active = none from rfl]
      rfl
    have hset : (t.modStream n fun _ => {}) = u := congrArg (fun v => { s with streams := v }) (Vector.set_set _ _)
    simp only [State.listAdvance, hx]
    exact congrArg some (hclosed.trans hset)
  rw [hclose, State.settleStream, State.settleLoop_go (by rw [hwork]; exact hadvance)]
  exact State.settleLoop_quiet 18 (.inr (by rw [hu])) (by rw [hu]) (Stream.resolvesNone_empty (by rw [hu])) (by rw [hu])

end

/-- The streams closed with only WAITING chunks in their windows (R68). -/
theorem State.closeAll_waiting {s : State} (h : ∀ n : Fin 8, ∀ c ∈ s.streams[n].window, c.phase = .waiting) :
    s.closeAll = { s with streams := s.streams.map fun (x : Stream) => if x.st = StreamState.closed then x else {} } := by
  have hfold := foldl_streams8 (F := State.internalClose) (u := s) (fun n => if s.streams[n].st = .closed then s.streams[n] else {})
    (fun n v hv => by
      by_cases hc : s.streams[n].st = .closed
      · have hst : v[n].st = .closed := by rw [hv]; exact hc
        rw [if_pos hc, ← hv, vector_set_self]
        exact if_pos hst
      · rw [if_neg hc]
        exact State.internalClose_waiting (s := { s with streams := v }) (by rw [hv]; exact hc) (by rw [hv]; exact h n))
  refine hfold.trans (congrArg (fun v => { s with streams := v }) ?_)
  ext i hi : 1
  simp

/-! ## The end of the drain -/

/-- Demands are given up where no LOAD and no checkpoint waits for a drive (R191). -/
theorem State.releaseAll {s : State} (hload : s.loadJob = none) (hckpt : s.engine.ckpt = none) :
    drives4.foldl State.releaseDemands s =
      { s with drives := s.drives.map fun (x : Drive) => if x.power = Power.ready then x else { x with demands := [] } } := by
  have hfold := foldl_drives4 (F := State.releaseDemands) (s := s)
    (fun d => if s.drives[d].power = .ready then s.drives[d] else { s.drives[d] with demands := [] }) (fun _ => [])
    (fun d v l hv => by
      have hd : (s.withDrives v l).drives[d] = s.drives[d] := hv
      by_cases hp : s.drives[d].power = .ready
      · rw [if_pos hp, ← hd, State.driveStep_self]
        exact if_pos (by rw [hd]; exact hp)
      · rw [if_neg hp, ← hd, ← State.modDrive_eq_driveStep (s.withDrives v l) d fun x => { x with demands := [] }]
        exact (if_neg (by rw [hd]; exact hp)).trans (State.tellOnce_quiet (by exact hload) (by exact hckpt) d false))
  rw [vector_ofFn_map s.drives fun (x : Drive) => if x.power = Power.ready then x else { x with demands := [] }] at hfold
  refine hfold.trans ?_
  exact congrArg (fun l => { s with
    drives := s.drives.map fun (x : Drive) => if x.power = Power.ready then x else { x with demands := [] }
    out := { s.out with acts := l } }) (List.append_nil _)

/-- Every job is abandoned with no operation, request, checkpoint or scrub in progress (R190). -/
theorem State.abandonJobs_still {s : State} (hload : s.loadJob = none) (hformat : s.formatJob = none) (hadopt : s.adoptJob = none)
    (hresync : s.resyncJob = none) (horphans : orphansOf s.jobs = []) (hoffers : s.offers = []) (hengine : s.engine = {})
    (hscrub : s.scrub = none) (ha : s.link.attach = .attached) (hlists : ∀ d : Fin 4, s.drives[d].ops = [] ∧ s.drives[d].room = []) :
    s.abandonJobs =
      { s with
        jobs := []
        drives := s.drives.map fun (x : Drive) => { x with park := none }
        streams := s.streams.map fun (x : Stream) => { x with list := [] }
        chains := s.chains.map fun (x : Chain) => { x with inFlight := 0 } } := by
  have hdrives : (Vector.ofFn fun d : Fin 4 => s.drives[d].withdraw fun o => o.abandoned) = s.drives := by
    refine (congrArg Vector.ofFn (funext fun d => Drive.withdraw_empty (hlists d).1 (hlists d).2 _)).trans ?_
    exact (vector_ofFn_map s.drives id).trans (Vector.map_id _)
  have hwithdraw : (s.withdraw fun _ o => o.abandoned) = s := by
    rw [State.withdraw, hdrives, hoffers]
    exact congrArg (fun l => { s with offers := l }) hoffers.symm
  have hnone : ∀ t : State, t.scrub = none → (t.modScrub fun x => { x with job := none }).scrubRest = t := fun t ht => by
    have hmod : (t.modScrub fun x => { x with job := none }) = t := by
      rw [State.modScrub, ht]
      exact congrArg (fun o => { t with scrub := o }) ht.symm
    rw [hmod, State.scrubRest_none ht]
  simp only [State.abandonJobs, hload, hformat, hadopt, hresync, hwithdraw, Option.isSome_none, Bool.or_self, Bool.false_eq_true, if_false,
    horphans]
  rw [hnone _ (by exact hscrub), State.detachIfIdle_of_attached (by exact ha)]
  have he : ({ s.engine with
      orphans := s.engine.orphans ++ []
      requests := s.engine.requests.filter fun q => !q.ofList
      held := s.engine.held.filter fun q => !q.ofList
      waiters := s.engine.waiters.filter fun q => !q.ofList
      hostCopy := none
      holdQueue := s.engine.holdQueue.filter fun o => o == .checkpoint } : Engine) = s.engine := by
    rw [hengine]
    rfl
  exact congrArg (fun e => { s with
    jobs := []
    drives := s.drives.map fun (x : Drive) => { x with park := none }
    streams := s.streams.map fun (x : Stream) => { x with list := [] }
    chains := s.chains.map fun (x : Chain) => { x with inFlight := 0 }
    engine := e }) he

/-- The power-down phase entered with only WAITING chunks in the windows (R191). -/
theorem State.enterPowerDown_still {s : State} (hload : s.loadJob = none) (hckpt : s.engine.ckpt = none)
    (h : ∀ n : Fin 8, ∀ c ∈ s.streams[n].window, c.phase = .waiting) :
    s.enterPowerDown =
      State.settle
        { s with
          startQueue := []
          box := { s.box with drain := false, seq := s.box.seq.map fun (q : Seq) => { q with step := .close } }
          drives := s.drives.map fun (x : Drive) => if x.power = Power.ready then x else { x with demands := [] }
          streams := s.streams.map fun (x : Stream) => if x.st = StreamState.closed then x else {} } := by
  let t : State := { s with
    startQueue := [], box := { s.box with drain := false, seq := s.box.seq.map fun (q : Seq) => { q with step := .close } } }
  have hrelease := State.releaseAll (s := t) hload hckpt
  have hclose := State.closeAll_waiting (s := { t with
    drives := t.drives.map fun (x : Drive) => if x.power = Power.ready then x else { x with demands := [] } }) h
  exact congrArg State.settle ((congrArg State.closeAll hrelease).trans hclose)

/-- Settles O54. -/
theorem shutdown : Obligations.Shutdown := by
  intro s hp hseq
  refine ⟨fun hdrain hload hformat hadopt hresync horphans hoffers hengine hscrub ha hwindows hlists => ?drained, fun hdrain ha hkept => ?waits⟩
  case drained =>
    have hrow := run_ends (exec_drainTimerExpiry s) hp
    refine Ends.of_eq hrow ((if_pos hdrain).trans ?_)
    rw [State.abandonJobs_still (s := s.mute) hload hformat hadopt hresync horphans hoffers hengine hscrub ha hlists]
    let u : State := { s.mute with
      jobs := []
      drives := s.drives.map fun (x : Drive) => { x with park := none }
      streams := s.streams.map fun (x : Stream) => { x with list := [] }
      chains := s.chains.map fun (x : Chain) => { x with inFlight := 0 } }
    refine (State.enterPowerDown_still (s := u) rfl (congrArg Engine.ckpt hengine) fun n c hc => ?_).trans (congrArg State.settle ?_)
    · refine hwindows n c ?_
      rwa [show u.streams[n] = { s.streams[n] with list := [] } from Vector.getElem_map _ _] at hc
    · have hs : s.box.seq.map (fun (q : Seq) => { q with step := .close }) = some { shutdown := true, step := .close } := by
        rw [hseq]
        rfl
      have hdrives : (u.drives.map fun (x : Drive) => if x.power = Power.ready then x else { x with demands := [] }) =
          s.drives.map fun (x : Drive) => if x.power = Power.ready then { x with park := none } else { x with park := none, demands := [] } :=
        Vector.map_map
      have hstreams : (u.streams.map fun (x : Stream) => if x.st = StreamState.closed then x else {}) =
          s.streams.map fun (x : Stream) => if x.st = StreamState.closed then { x with list := [] } else {} := Vector.map_map
      rw [hdrives, hstreams]
      exact congrArg (fun q => { s.mute with
        jobs := [], startQueue := []
        chains := s.chains.map fun (x : Chain) => { x with inFlight := 0 }
        streams := s.streams.map fun (x : Stream) => if x.st = StreamState.closed then { x with list := [] } else {}
        drives := s.drives.map fun (x : Drive) => if x.power = Power.ready then { x with park := none } else { x with park := none, demands := [] }
        box := { s.box with drain := false, seq := q } }) hs
  case waits =>
    have hs : s.mute.box.seq = some _ := hseq
    rw [hdrain, if_neg Bool.false_ne_true] at hs
    have hrow := run_ends (exec_shutdownPhaseStep s) hp
    simp only [hs] at hrow
    have hend : s.mute.stepEnded { shutdown := true, step := .detach } = true := by
      rw [State.stepEnded, show s.mute.link.attach = .detached from ha]
      rfl
    refine Ends.of_eq hrow ((if_pos ⟨trivial, hend⟩).trans (congrArg State.settle ?_))
    refine (if_neg fun h => Bool.false_ne_true (hkept.symm.trans h)).trans ?_
    exact congrArg (fun q => { s.mute with box := { s.box with seq := q, consentTimer := true, consentWait := true } })
      (congrArg (Option.map fun (y : Seq) => { y with step := .consent }) hs)

end Sys2Proof.Machine

/-! # Port commands (R122 to R132, R150) -/

namespace Sys2Proof.Machine

/-! ## What a command carries -/

theorem padTo_exact {n : Nat} {l : List Byte} (h : n ≤ l.length) : padTo n l = l.take n := by
  rw [padTo, Nat.sub_eq_zero_of_le h]
  exact List.append_nil _

theorem Op.command_read {o : Op} (h : o.kind = .chunkRead ∨ o.kind = .areaRead ∨ o.kind = .labelRead) :
    o.segments = (o.count + 63) / 64 ∧ o.command = .read (o.first + 64 * o.segsDone) (min 64 (o.count - 64 * o.segsDone)) := by
  obtain h | h | h := h <;> exact ⟨by simp only [Op.segments, h]; rfl, by simp only [Op.command, h]; rfl⟩

theorem Op.command_write {o : Op} (h : o.kind = .chunkWrite ∨ o.kind = .areaWrite ∨ o.kind = .labelWrite) :
    o.segments = (o.count + 63) / 64
      ∧ o.command = .write (o.first + 64 * o.segsDone) (padTo (min 64 (o.count - 64 * o.segsDone) * 4096) (o.payload.drop (262144 * o.segsDone))) := by
  obtain h | h | h := h <;> exact ⟨by simp only [Op.segments, h]; rfl, by simp only [Op.command, h]; rfl⟩

/-! ## The Integrity Unit and the credit, on one drive -/

theorem Drive.refilled_idle {x : Drive} (hport : x.port = .idle) (credit : Nat) :
    x.refilled credit = { x with credit := if x.ops = [] then credit else x.credit } := by
  by_cases hops : x.ops = []
  · rw [if_pos hops]
    exact if_pos ⟨hport, List.isEmpty_iff.mpr hops⟩
  · rw [if_neg hops]
    exact if_neg fun h => hops (List.isEmpty_iff.mp h.2)

theorem Drive.refilled_busy {x : Drive} (hport : x.port ≠ .idle) (credit : Nat) : x.refilled credit = x := if_neg fun h => hport h.1

section
variable {t : State} {d : Fin 4} {v : Vector Drive 4} {x : Drive} (h : t.drives = v.set d x)
include h

theorem State.modDrive_set (f : Drive → Drive) : t.modDrive d f = { t with drives := v.set d (f x) } := by
  have hx : t.drives[d] = x := by rw [h, vector_set_same]
  rw [State.modDrive, hx, h, Vector.set_set]

variable (hport : x.port = .idle)
include hport

theorem State.refill_idle : t.refill d = { t with drives := v.set d { x with credit := if x.ops = [] then t.cfg.credit else x.credit } } := by
  rw [State.refill, State.modDrive_set h, Drive.refilled_idle hport]

theorem State.ending_done :
    (t.integrity d .done).refill d =
      { t with drives := v.set d { x with noAnswer := 0, credit := if x.ops = [] then t.cfg.credit else x.credit } } := by
  have hset : (t.integrity d .done).drives = v.set d { x with noAnswer := 0 } := by rw [State.integrity, State.modDrive_set h]
  rw [State.refill_idle hset hport, State.integrity, State.modDrive_set h]

/-- A command that is not answered, fewer than two before it in a row (R132, R178). -/
theorem State.ending_noAnswer (hfew : x.noAnswer < 2) :
    (t.integrity d .noAnswer).refill d =
      { t with drives := v.set d { x with noAnswer := x.noAnswer + 1, credit := if x.ops = [] then t.cfg.credit else x.credit } } := by
  have hint : t.integrity d .noAnswer = { t with drives := v.set d { x with noAnswer := x.noAnswer + 1 } } := by
    rw [State.integrity, State.modDrive_set h]
    refine if_neg ?_
    rw [vector_set_same]
    exact Nat.not_le.mpr (Nat.add_lt_add_right hfew 1)
  rw [hint, State.refill_idle (t := { t with drives := v.set d { x with noAnswer := x.noAnswer + 1 } }) rfl hport]

end

/-! ## An operation's segment -/

/-- What is left of a drive as an operation leaves its list, its port IDLE. -/
def Drive.without (x : Drive) (id : Nat) : Drive := { x with port := .idle, ops := x.ops.filter fun p => p.id != id }

section
variable {s : State} {d : Fin 4} {o : Op} (hfind : (s.drives[d].ops.find? fun p => p.id == o.id) = some o)
include hfind

theorem State.segmentEnds_found (e : Ending) (data : List Byte) (v : Int) :
    (s.portIdle d).segmentEnds d o.id e data v =
      if e = .done then (s.portIdle d).segmentDone d o data v else (s.portIdle d).endOp d o e.outcome := by
  have hx : ((s.portIdle d).drives[d].ops.find? fun p => p.id == o.id) = some o := by
    rw [State.portIdle, State.modDrive, vector_set_same]
    exact hfind
  simp only [State.segmentEnds, hx]

omit hfind in
theorem State.portIdle_drop : ((s.portIdle d).modDrive d fun x => x.dropOp o.id) = { s with drives := s.drives.set d (s.drives[d].without o.id) } := by
  rw [State.modDrive_set (t := s.portIdle d) (v := s.drives) rfl]
  rfl

/-- A segment with more to come is answered DONE (R130). -/
theorem State.segmentEnds_more (hw : o.withdrawn = false) (hmore : o.segsDone + 1 < o.segments) (data : List Byte) (v : Int) :
    (s.portIdle d).segmentEnds d o.id .done data v =
      { s with
        drives := s.drives.set d { s.drives[d] with
          port := .idle
          ops := s.drives[d].ops.map fun p =>
            if p.id = o.id then { o with segsDone := o.segsDone + 1, data := o.data ++ data, st := .active } else p } } := by
  have hnot : ¬o.withdrawn = true := by rw [hw]; exact Bool.false_ne_true
  rw [State.segmentEnds_found hfind, if_pos rfl]
  refine (if_neg hnot).trans ((if_pos hmore).trans ?_)
  rw [State.modDrive_set (t := s.portIdle d) (v := s.drives) rfl]
  rfl

/-- A chunk write's last segment is answered DONE: its outcome is a request (R130, R96). -/
theorem State.segmentEnds_written (hw : o.withdrawn = false) (hlast : o.segments ≤ o.segsDone + 1) (hkind : o.kind = .chunkWrite) {n : Fin 8}
    {id : Nat} {k : CopyName} (howner : o.owner = .chunkCopy n id k) (data : List Byte) (v : Int) :
    (s.portIdle d).segmentEnds d o.id .done data v =
      { s with
        drives := s.drives.set d (s.drives[d].without o.id)
        engine := { s.engine with requests := s.engine.requests ++ [.writeOutcome (.chunk n id k) .done] } } := by
  have hnot : ¬o.withdrawn = true := by rw [hw]; exact Bool.false_ne_true
  have htemp : ¬o.kind = .tempPoll := by rw [hkind]; exact nofun
  rw [State.segmentEnds_found hfind, if_pos rfl]
  refine (if_neg hnot).trans ((if_neg (Nat.not_lt.mpr hlast)).trans ?_)
  rw [if_neg htemp, State.endOp]
  refine (if_neg hnot).trans ?_
  rw [State.portIdle_drop (s := s) (o := { o with segsDone := o.segsDone + 1, data := o.data ++ data })]
  simp only [State.hand, State.labelOp, hkind, howner]
  rfl

/-- A chunk write that fails: its outcome is a request (R130, R96). -/
theorem State.segmentEnds_failed (hw : o.withdrawn = false) (hkind : o.kind = .chunkWrite) {n : Fin 8} {id : Nat} {k : CopyName}
    (howner : o.owner = .chunkCopy n id k) {e : Ending} (he : e ≠ .done) (data : List Byte) (v : Int) :
    (s.portIdle d).segmentEnds d o.id e data v =
      { s with
        drives := s.drives.set d (s.drives[d].without o.id)
        engine := { s.engine with requests := s.engine.requests ++ [.writeOutcome (.chunk n id k) e.outcome.write] } } := by
  have hnot : ¬o.withdrawn = true := by rw [hw]; exact Bool.false_ne_true
  rw [State.segmentEnds_found hfind, if_neg he, State.endOp]
  refine (if_neg hnot).trans ?_
  rw [State.portIdle_drop (s := s) (o := o)]
  simp only [State.hand, State.labelOp, hkind, howner]
  rfl

/-- The label that the drive keeps after the answer of an operation (R90). -/
def Drive.labelAfter (x : Drive) (o : Op) (data : List Byte) : Option Label :=
  match o.kind with
  | .labelRead => readLabel data
  | .labelWrite => readLabel o.payload
  | _ => x.label

omit hfind in
theorem State.labelOp_done {t : State} {v : Vector Drive 4} {x : Drive} (h : t.drives = v.set d x) (o : Op) (data : List Byte) :
    t.labelOp d o (.done data) = { t with drives := v.set d { x with label := x.labelAfter o data } } := by
  have hsame : t = { t with drives := v.set d x } := congrArg (fun w => { t with drives := w }) h
  obtain ⟨-, -, kind, -, -, -, payload, -, -, -, -⟩ := o
  cases kind with
  | labelRead => exact State.modDrive_set h fun x => { x with label := readLabel data }
  | labelWrite => exact State.modDrive_set h fun x => { x with label := readLabel payload }
  | _ => exact hsame

/-- A withdrawn operation leaves the list; the kept label follows a label operation (R137, R90). -/
theorem State.segmentEnds_withdrawn (hw : o.withdrawn = true) (data : List Byte) (v : Int) :
    (s.portIdle d).segmentEnds d o.id .done data v =
      { s with drives := s.drives.set d { s.drives[d].without o.id with label := s.drives[d].labelAfter o (o.data ++ data) } } := by
  rw [State.segmentEnds_found hfind, if_pos rfl]
  refine (if_pos hw).trans ?_
  rw [State.portIdle_drop (s := s) (o := o)]
  exact State.labelOp_done (t := { s with drives := s.drives.set d (s.drives[d].without o.id) }) rfl o _

end

/-! ## The endings of the port's users -/

/-- The drive with its port IDLE, as its command's user has the ending. -/
def Drive.heard (x : Drive) (f : Drive → Drive) : Drive := f { x with port := .idle }

theorem State.portIdle_mod (s : State) (d : Fin 4) (f : Drive → Drive) :
    (s.portIdle d).modDrive d f = { s with drives := s.drives.set d (s.drives[d].heard f) } :=
  State.modDrive_set (t := s.portIdle d) (v := s.drives) rfl f

section
variable {s t : State} {d : Fin 4} {u : PortUse} {c : DriveCmd} {r : Bool} {y : Drive} (hp : s.powered = true) (ht : t.drives = s.drives.set d y)
  (hidle : y.port = .idle)
include hp ht hidle

/-- A port command is answered DONE. -/
theorem answer_done_ends (hport : s.drives[d].port = .command u c r) {data : List Byte} {v : Int}
    (huse : (s.mute.portIdle d).useEnds d u .done data v = t) :
    Ends s (.commandAnswer d (.done data v))
      (State.settle { t with drives := s.drives.set d { y with noAnswer := 0, credit := if y.ops = [] then t.cfg.credit else y.credit } }) := by
  refine commandAnswer_ends (a := .done data v) hp hport (congrArg State.settle ?_)
  exact (congrArg (fun t => (t.integrity d .done).refill d) huse).trans (State.ending_done ht hidle)

/-- A port command is answered with an error other than a media error. -/
theorem answer_other_ends (hport : s.drives[d].port = .command u c r) (huse : (s.mute.portIdle d).useEnds d u .other [] 0 = t) :
    Ends s (.commandAnswer d .otherError)
      (State.settle { t with drives := s.drives.set d { y with credit := if y.ops = [] then t.cfg.credit else y.credit } }) := by
  refine commandAnswer_ends (a := .otherError) hp hport (congrArg State.settle ?_)
  exact (congrArg (fun t => (t.integrity d .other).refill d) huse).trans (State.refill_idle ht hidle)

/-- A port reset is not answered, fewer than two NO_ANSWERs before it in a row (R131). -/
theorem resetTimeout_ends (hport : s.drives[d].port = .resetting u c r) (hu : u ≠ .wake) (hfew : y.noAnswer < 2)
    (huse : (s.mute.portIdle d).useEnds d u .noAnswer [] 0 = t) :
    Ends s (.portResetTimeout d)
      (State.settle
        { t with
          drives := s.drives.set d { y with noAnswer := y.noAnswer + 1, credit := if y.ops = [] then t.cfg.credit else y.credit } }) := by
  have hrow := run_ends (exec_portResetTimeout d s) hp
  have hm : s.mute.drives[d].port = .resetting u c r := hport
  simp only [hm, hu, if_false] at hrow
  refine Ends.of_eq hrow (congrArg State.settle ?_)
  exact (congrArg (fun t => (t.integrity d .noAnswer).refill d) huse).trans (State.ending_noAnswer ht hidle hfew)

end

section
variable {s : State} {d : Fin 4} {u : PortUse} {c : DriveCmd} {r : Bool} {f : Drive → Drive} {y : Drive} (hp : s.powered = true)
  (hport : s.drives[d].port = .command u c r) (hy : s.drives[d].heard f = y) (hidle : y.port = .idle)
include hp hport hy hidle

/-- A command answered DONE whose user changes the drive alone. -/
theorem heard_done_ends {data : List Byte} {v : Int}
    (huse : (s.mute.portIdle d).useEnds d u .done data v = (s.mute.portIdle d).modDrive d f) :
    Ends s (.commandAnswer d (.done data v))
      (State.settle
        { s with
          drives := s.drives.set d { y with noAnswer := 0, credit := if y.ops = [] then s.cfg.credit else y.credit }, out := {} }) := by
  subst hy
  exact answer_done_ends (t := { s.mute with drives := s.drives.set d (s.drives[d].heard f) }) hp rfl hidle hport
    (huse.trans (State.portIdle_mod s.mute d f))

/-- A command answered with an error whose user changes the drive alone. -/
theorem heard_other_ends (huse : (s.mute.portIdle d).useEnds d u .other [] 0 = (s.mute.portIdle d).modDrive d f) :
    Ends s (.commandAnswer d .otherError)
      (State.settle { s with drives := s.drives.set d { y with credit := if y.ops = [] then s.cfg.credit else y.credit }, out := {} }) := by
  subst hy
  exact answer_other_ends (t := { s.mute with drives := s.drives.set d (s.drives[d].heard f) }) hp rfl hidle hport
    (huse.trans (State.portIdle_mod s.mute d f))

end

/-! ## A STANDBY that fails -/

section
variable {s : State} {d : Fin 4} {e : Ending}

theorem State.portIdle_powerOff (s : State) (d : Fin 4) :
    (s.portIdle d).powerOff d =
      { s with drives := s.drives.set d (s.drives[d].heard Drive.poweredOff), out := { s.out with acts := s.out.acts ++ [.rail d false] } } :=
  congrArg (fun t => State.emit t (.rail d false)) (State.portIdle_mod s d Drive.poweredOff)

theorem State.portIdle_park (s : State) (d : Fin 4) : (s.portIdle d).drives[d].park = s.drives[d].park :=
  (congrArg Drive.park (vector_set_same s.drives d { s.drives[d] with port := .idle })).trans rfl

theorem State.standbyEnds_off (hpark : s.drives[d].park = none) (he : e ≠ .done) :
    (s.portIdle d).standbyEnds d e =
      { s with drives := s.drives.set d (s.drives[d].heard Drive.poweredOff), out := { s.out with acts := s.out.acts ++ [.rail d false] } } := by
  refine (if_neg he).trans ((if_neg ?_).trans (State.portIdle_powerOff s d))
  rw [State.portIdle_park, hpark]
  exact nofun

/-- The job of a pending park reports as it is settled (R151, R152). -/
theorem State.standbyEnds_settled (hpark : s.drives[d].park.isSome = true) (he : e ≠ .done) {j : Job} {o : Bool} (hjobs : s.jobs = [j])
    (hphase : j.phase = .parking d o) :
    (s.portIdle d).standbyEnds d e =
      { s.setPhase j.id (.writingResults { w0 := 1, w1 := BitVec.ofNat 32 j.fails }) with
        drives := s.drives.set d { s.drives[d].heard Drive.poweredOff with park := none }
        out := { s.out with
          acts := s.out.acts ++ [.rail d false]
            ++ [.hostWrite (j.record + 48) (Result.bytes { w0 := 1, w1 := BitVec.ofNat 32 j.fails })] } } := by
  have hsome : (s.portIdle d).drives[d].park.isSome = true := by rw [State.portIdle_park, hpark]
  let t : State := { s with
    drives := s.drives.set d { s.drives[d].heard Drive.poweredOff with park := none }
    out := { s.out with acts := s.out.acts ++ [.rail d false] } }
  have ht : ((s.portIdle d).powerOff d).modDrive d (fun x => { x with park := none }) = t := by
    rw [State.portIdle_powerOff]
    exact State.modDrive_set (t := { s with
      drives := s.drives.set d (s.drives[d].heard Drive.poweredOff), out := { s.out with acts := s.out.acts ++ [.rail d false] } })
      rfl fun x => { x with park := none }
  have hresult : t.powerResult d .ok j.fails = { w0 := 1, w1 := BitVec.ofNat 32 j.fails } := by
    rw [State.powerResult, show t.drives[d] = { s.drives[d].heard Drive.poweredOff with park := none } from vector_set_same _ _ _]
    rfl
  have hjob : t.job j.id = some j := by rw [State.job, show t.jobs = [j] from hjobs, List.find?_cons_of_pos (by simp)]
  have hsettled : ((s.portIdle d).powerOff d).parkSettled d = t.complete j.id (t.powerResult d .ok j.fails) := by
    simp only [State.parkSettled, ht, show t.jobs = [j] from hjobs, List.findSome?_cons, hphase, if_true]
  refine (if_neg he).trans ((if_pos hsome).trans (hsettled.trans ?_))
  rw [hresult, State.complete_eq hjob]
  rfl

end

/-! ## Timeouts and port resets -/

theorem retries_of {u : PortUse} {c : DriveCmd} (hu : u ≠ .wake) (hc : ∀ f b, c ≠ .write f b) : retries u c = true := by
  cases u with
  | wake => exact absurd rfl hu
  | _ =>
    cases c with
    | write f b => exact absurd rfl (hc f b)
    | _ => rfl

section
variable {s : State} {d : Fin 4} {u : PortUse} {c : DriveCmd} {r : Bool} (hp : s.powered = true) (hu : u ≠ .wake)
include hp hu

theorem commandTimeout_ends (hport : s.drives[d].port = .command u c r) :
    Ends s (.commandTimeout d)
      { s with drives := s.drives.set d { s.drives[d] with port := .resetting u c r }, out := { acts := [.portReset d] } } := by
  have hrow := run_ends (exec_commandTimeout d s) hp
  have hm : s.mute.drives[d].port = .command u c r := hport
  simp only [hm, hu, if_false] at hrow
  exact hrow

theorem portReset_retries (hc : ∀ f b, c ≠ .write f b) (hport : s.drives[d].port = .resetting u c false) :
    Ends s (.portResetAnswered d)
      { s with drives := s.drives.set d { s.drives[d] with port := .command u c true }, out := { acts := [.port d c] } } := by
  have hrow := run_ends (exec_portResetAnswered d s) hp
  have hm : s.mute.drives[d].port = .resetting u c false := hport
  simp only [hm, hu, if_false, retries_of hu hc] at hrow
  exact hrow

end

/-! ## The clauses of the segments, the start-up phase and STANDBY -/

/-- The credit of a port left IDLE (R129). -/
def Drive.creditLeft (x : Drive) (credit : Nat) : Nat := if x.ops = [] then credit else x.credit

section
variable {s : State} {d : Fin 4} {o : Op} {c : DriveCmd} {r : Bool} (hp : s.powered = true)
include hp

section
variable (hport : s.drives[d].port = .command (.segment o.id) c r) (hfind : (s.drives[d].ops.find? fun p => p.id == o.id) = some o)
include hport hfind

theorem segment_more_ends (hw : o.withdrawn = false) (hmore : o.segsDone + 1 < o.segments) (data : List Byte) (v : Int) :
    Ends s (.commandAnswer d (.done data v))
      (State.settle
        { s with
          drives := s.drives.set d
            { s.drives[d] with
              port := .idle, noAnswer := 0
              ops := s.drives[d].ops.map fun p =>
                if p.id = o.id then { o with segsDone := o.segsDone + 1, data := o.data ++ data, st := .active } else p }
          out := {} }) := by
  let ops := s.drives[d].ops.map fun p =>
    if p.id = o.id then { o with segsDone := o.segsDone + 1, data := o.data ++ data, st := .active } else p
  have hmem : s.drives[d].ops ≠ [] := fun h => by
    rw [h, List.find?_nil] at hfind
    exact Option.some_ne_none o hfind.symm
  let t : State := { s.mute with drives := s.drives.set d { s.drives[d] with port := .idle, ops := ops } }
  have hends := answer_done_ends (s := s) hp (t := t) (y := { s.drives[d] with port := .idle, ops := ops }) rfl rfl hport
    (State.segmentEnds_more (s := s.mute) hfind hw hmore data v)
  rwa [if_neg (fun h => hmem (List.map_eq_nil_iff.mp h))] at hends

theorem segment_withdrawn_ends (hw : o.withdrawn = true) (data : List Byte) (v : Int) :
    Ends s (.commandAnswer d (.done data v))
      (State.settle
        { s with
          drives := s.drives.set d
            { s.drives[d].without o.id with
              label := s.drives[d].labelAfter o (o.data ++ data), noAnswer := 0, credit := (s.drives[d].without o.id).creditLeft s.cfg.credit }
          out := {} }) := by
  let y : Drive := { s.drives[d].without o.id with label := s.drives[d].labelAfter o (o.data ++ data) }
  let t : State := { s.mute with drives := s.drives.set d y }
  have huse : (s.mute.portIdle d).useEnds d (.segment o.id) .done data v = t := State.segmentEnds_withdrawn (s := s.mute) hfind hw data v
  have hends := answer_done_ends (s := s) (t := t) (y := y) hp rfl rfl hport huse
  exact hends

variable {n : Fin 8} {id : Nat} {k : CopyName} (hw : o.withdrawn = false) (hkind : o.kind = .chunkWrite) (howner : o.owner = .chunkCopy n id k)
include hw hkind howner

theorem segment_written_ends (hlast : o.segments ≤ o.segsDone + 1) (data : List Byte) (v : Int) :
    Ends s (.commandAnswer d (.done data v))
      (State.settle
        { s with
          engine := { s.engine with requests := s.engine.requests ++ [.writeOutcome (.chunk n id k) .done] }
          drives := s.drives.set d
            { s.drives[d].without o.id with noAnswer := 0, credit := (s.drives[d].without o.id).creditLeft s.cfg.credit }
          out := {} }) := by
  let t : State := { s.mute with
    drives := s.drives.set d (s.drives[d].without o.id)
    engine := { s.engine with requests := s.engine.requests ++ [.writeOutcome (.chunk n id k) .done] } }
  exact answer_done_ends (s := s) hp (t := t) (y := s.drives[d].without o.id) rfl rfl hport
    (State.segmentEnds_written (s := s.mute) hfind hw hlast hkind howner data v)

theorem segment_failed_ends :
    Ends s (.commandAnswer d .otherError)
      (State.settle
        { s with
          engine := { s.engine with requests := s.engine.requests ++ [.writeOutcome (.chunk n id k) .failed] }
          drives := s.drives.set d { s.drives[d].without o.id with credit := (s.drives[d].without o.id).creditLeft s.cfg.credit }
          out := {} }) := by
  let t : State := { s.mute with
    drives := s.drives.set d (s.drives[d].without o.id)
    engine := { s.engine with requests := s.engine.requests ++ [.writeOutcome (.chunk n id k) .failed] } }
  exact answer_other_ends (s := s) hp (t := t) (y := s.drives[d].without o.id) rfl rfl hport
    (State.segmentEnds_failed (s := s.mute) hfind hw hkind howner (e := .other) nofun [] 0)

end

/-- A chunk write is lost to a port reset that is not answered (R131). -/
theorem segment_lost_ends {n : Fin 8} {id : Nat} {k : CopyName} (hw : o.withdrawn = false) (hkind : o.kind = .chunkWrite)
    (howner : o.owner = .chunkCopy n id k) (hport : s.drives[d].port = .resetting (.segment o.id) c r) (hops : s.drives[d].ops = [o])
    (hfew : s.drives[d].noAnswer < 2) :
    Ends s (.portResetTimeout d)
      (State.settle
        { s with
          engine := { s.engine with requests := s.engine.requests ++ [.writeOutcome (.chunk n id k) .failed] }
          drives := s.drives.set d
            { s.drives[d] with port := .idle, ops := [], credit := s.cfg.credit, noAnswer := s.drives[d].noAnswer + 1 }
          out := {} }) := by
  have hfind : (s.drives[d].ops.find? fun p => p.id == o.id) = some o := by rw [hops, List.find?_cons_of_pos (by simp)]
  have hrest : (s.drives[d].without o.id) = { s.drives[d] with port := .idle, ops := [] } := by
    rw [Drive.without, hops, List.filter_cons_of_neg (by simp), List.filter_nil]
  let t : State := { s.mute with
    drives := s.drives.set d (s.drives[d].without o.id)
    engine := { s.engine with requests := s.engine.requests ++ [.writeOutcome (.chunk n id k) .failed] } }
  have hends := resetTimeout_ends (s := s) hp (t := t) (y := s.drives[d].without o.id) rfl rfl hport nofun hfew
    (State.segmentEnds_failed (s := s.mute) hfind hw hkind howner (e := .noAnswer) nofun [] 0)
  rw [hrest] at hends
  exact hends

theorem standby_off_ends (hport : s.drives[d].port = .command .standby c r) (hpark : s.drives[d].park = none) :
    Ends s (.commandAnswer d .otherError)
      (State.settle
        { s with
          drives := s.drives.set d
            { s.drives[d].heard Drive.poweredOff with park := none, credit := s.drives[d].creditLeft s.cfg.credit }
          out := { acts := [.rail d false] } }) := by
  have hoff : s.drives[d].heard Drive.poweredOff = { s.drives[d].heard Drive.poweredOff with park := none } :=
    congrArg (fun p => { s.drives[d].heard Drive.poweredOff with park := p }) hpark
  let t : State := { s.mute with
    drives := s.drives.set d { s.drives[d].heard Drive.poweredOff with park := none }, out := { acts := [.rail d false] } }
  have huse : (s.mute.portIdle d).useEnds d .standby .other [] 0 = t :=
    (State.standbyEnds_off (s := s.mute) (e := .other) hpark nofun).trans
      (congrArg (fun x => { s.mute with drives := s.drives.set d x, out := { acts := [.rail d false] } }) hoff)
  have hends := answer_other_ends (t := t) (y := { s.drives[d].heard Drive.poweredOff with park := none }) hp rfl rfl hport huse
  exact hends

theorem standby_settled_ends (hport : s.drives[d].port = .command .standby c r) {j : Job} {f : Bool} (hpark : s.drives[d].park.isSome = true)
    (hjobs : s.jobs = [j]) (hphase : j.phase = .parking d f) :
    Ends s (.commandAnswer d .otherError)
      (State.settle
        { s.reports j { w0 := 1, w1 := BitVec.ofNat 32 j.fails } with
          drives := s.drives.set d
            { s.drives[d].heard Drive.poweredOff with park := none, credit := s.drives[d].creditLeft s.cfg.credit }
          out :=
            { acts := [.rail d false, .hostWrite (j.record + 48) (Result.bytes { w0 := 1, w1 := BitVec.ofNat 32 j.fails })] } }) := by
  let t : State := { s.reports j { w0 := 1, w1 := BitVec.ofNat 32 j.fails } with
    drives := s.drives.set d { s.drives[d].heard Drive.poweredOff with park := none }
    out := { acts := [.rail d false, .hostWrite (j.record + 48) (Result.bytes { w0 := 1, w1 := BitVec.ofNat 32 j.fails })] } }
  have huse : (s.mute.portIdle d).useEnds d .standby .other [] 0 = t :=
    State.standbyEnds_settled (s := s.mute) (e := .other) hpark nofun hjobs hphase
  have hends := answer_other_ends (t := t) (y := { s.drives[d].heard Drive.poweredOff with park := none }) hp rfl rfl hport huse
  exact hends

end

theorem Drive.heard_feature {x : Drive} {u : Startup} (hstart : x.startup = some u) {e : Ending} {bad : Bool} (hbad : decide (e ≠ .done) = bad) :
    (x.heard fun x => x.featureEnds e) =
      { x with
        port := .idle, startup := some { u with todo := u.todo.tail, failed := u.failed || bad }
        setupIncomplete := x.setupIncomplete || bad } := by
  subst hbad
  simp only [Drive.heard, Drive.featureEnds, hstart]

theorem Drive.heard_identify {x : Drive} {u : Startup} (hstart : x.startup = some u) (v : Nat) :
    (x.heard fun x => x.identifyEnds .done v) =
      { x with port := .idle, startup := some { u with stage := .label }, identified := true, capacity := v } := by
  simp only [Drive.heard, Drive.identifyEnds, hstart]
  rfl

/-- Settles O47. -/
theorem portCommands : Obligations.PortCommands := by
  refine ⟨fun o => ⟨Op.command_read, fun h => ⟨(Op.command_write h).1, fun hlen => ?write⟩, fun h => ?flush, fun h => ?poll⟩,
    fun s d hp => ⟨fun o l hoffers hrange hf hpower hroom => ?offer, fun o c r hport hfind hkind => ?segment,
      fun o c r n id k hport hops hw hkind howner hfew => segment_lost_ends hp hw hkind howner hport hops hfew,
      fun u c r hstart => ⟨fun hport => ?feature, fun hport => ?identify⟩, fun data v c r hport => ?label,
      fun data v c r hport => ?standby, fun u c r hu hport => commandTimeout_ends hp hu hport,
      fun u c hu hc hport => portReset_retries hp hu hc hport, fun c r hfew hport => ?unanswered⟩⟩
  case write =>
    refine (Op.command_write h).2.trans (congrArg _ ?_)
    rw [padTo_exact, Nat.mul_comm]
    rw [List.length_drop, hlen]
    omega
  case flush => exact ⟨by simp only [Op.segments, h], by simp only [Op.command, h]⟩
  case poll => exact ⟨by simp only [Op.segments, h], by simp only [Op.command, h]⟩
  case offer =>
    have hends : State.offerEnds { s.mute with offers := l } d o = none := by
      have hu : ¬(!s.drives[d].usable) = true := by
        rw [Drive.usable, hpower, hf]
        decide
      exact (if_neg (Bool.eq_false_iff.mp hrange)).trans ((if_neg hu).trans (if_pos hpower))
    refine run_ends_of (exec_operationOffer s) hp ((State.takeOffer_placed (s := s.mute) hoffers hends).trans (congrArg State.settle ?_))
    exact congrArg (fun x => { s.mute with offers := l, drives := s.drives.set d x }) (if_pos hroom)
  case segment =>
    exact ⟨fun data v => ⟨fun hw hmore => segment_more_ends hp hport hfind hw hmore data v,
        fun hw => segment_withdrawn_ends hp hport hfind hw data v,
        fun n id k hw hlast hwrite howner => segment_written_ends hp hport hfind hw hwrite howner hlast data v⟩,
      fun n id k hw hwrite howner => segment_failed_ends hp hport hfind hw hwrite howner⟩
  case feature =>
    have hdone := fun data v => heard_done_ends (data := data) (v := v) hp hport (Drive.heard_feature hstart (e := .done) rfl) rfl rfl
    have hother := heard_other_ends hp hport (Drive.heard_feature hstart (e := .other) rfl) rfl rfl
    exact ⟨hdone, hother⟩
  case identify =>
    have hdone := fun data (v : Nat) => heard_done_ends (data := data) (v := v) hp hport (Drive.heard_identify hstart v) rfl rfl
    have hother := heard_other_ends (f := fun x => x.identifyEnds .other 0) hp hport rfl rfl rfl
    exact ⟨hdone, hother⟩
  case label =>
    exact heard_done_ends (f := fun x => x.labelEnds .done data) hp hport rfl rfl rfl
  case standby =>
    exact ⟨heard_done_ends (f := fun x => { x with power := .parked }) hp hport rfl rfl rfl, fun hpark => standby_off_ends hp hport hpark,
      fun j f hpark hjobs hphase => standby_settled_ends hp hport hpark hjobs hphase⟩
  case unanswered =>
    let y : Drive := { s.drives[d] with port := .idle, startup := none }
    have huse : (s.mute.portIdle d).useEnds d .label .noAnswer [] 0 = { s.mute with drives := s.drives.set d y } :=
      State.portIdle_mod s.mute d fun x => x.labelEnds .noAnswer []
    exact resetTimeout_ends (t := { s.mute with drives := s.drives.set d y }) (y := y) hp rfl rfl hport nofun hfew huse

end Sys2Proof.Machine

/-! # Starts and idle parking (R133, R145, R146, R149) -/

namespace Sys2Proof.Machine

/-! ## The end of a start -/

/-- A drive that has become READY: its start-up phase begins and every demand is released (R133, R145). -/
def Drive.started (x : Drive) (setup : List (BitVec 16 × BitVec 16)) : Drive :=
  { x with power := .ready, startTimer := none, startFails := 0, startup := some { todo := setup }, demands := [] }

/-- A drive whose first start has failed: its ONCE demands are released (R141, R146). -/
def Drive.startLost (x : Drive) : Drive :=
  { x with
    startTimer := none, wakeAsked := false, startFails := 1
    demands := x.demands.filter fun b => b != .prestart && b != .checkpoint && b != .load }

theorem Drive.startLost_idle (x : Drive) :
    { Drive.startLost { x with port := .idle } with power := .parked } = { x.startLost with port := .idle, power := .parked } := rfl

theorem not_once : (fun b : DemandBy => !b.once) = fun b => b != .prestart && b != .checkpoint && b != .load := by
  funext b
  cases b <;> rfl

theorem State.loadJob_countFail (s : State) (d : Fin 4) : State.loadJob { s with jobs := s.jobs.map (countFail d) } = s.loadJob := by
  rw [State.loadJob, State.loadJob, List.findSome?_map]
  refine congrArg (fun f => s.jobs.findSome? f) (funext fun j => ?_)
  rw [Function.comp_apply, countFail]
  by_cases h : j.powers d = true
  · rw [if_pos h]
  · rw [if_neg h]

section
variable {s : State} {d : Fin 4} {v : Vector Drive 4} {x : Drive} (hdrives : s.drives = v.set d x) (hload : s.loadJob = none)
  (hckpt : s.engine.ckpt = none)
include hdrives hload hckpt

theorem State.driveReady_quiet : s.driveReady d = { s with drives := v.set d (x.started s.cfg.drive[d].setup) } := by
  have henter := State.modDrive_set hdrives fun x =>
    { x with power := .ready, startTimer := none, startFails := 0, startup := some { todo := s.cfg.drive[d].setup } }
  have hready : (s.enterReady d).modDrive d (fun x => { x with demands := [] }) =
      { s with drives := v.set d (x.started s.cfg.drive[d].setup) } := by
    rw [State.enterReady, henter]
    exact State.modDrive_set (t := { s with drives := _ }) rfl _
  rw [State.driveReady, hready, State.tellOnce_quiet (by exact hload) (by exact hckpt)]

omit hdrives in
theorem State.startTold_quiet : (s.tellOnce d false).ckptStartFailed d = s := by
  rw [State.tellOnce_quiet hload hckpt]
  simp only [State.ckptStartFailed, hckpt]
  cases catIndex d <;> rfl

omit hload hckpt in
theorem State.startFailed_first {t : State} {x₁ : Drive} (hfails : x.startFails = 0)
    (hpower : (if x.fromParked = true then s.modDrive d fun y => { y with power := .parked, startTimer := none, wakeAsked := false }
      else s.powerOff d) = t)
    (ht : t.drives = v.set d x₁) (htfails : x₁.startFails = 0) (htload : t.loadJob = none) (htckpt : t.engine.ckpt = none) :
    s.startFailed d =
      { t with
        drives := v.set d { x₁ with startFails := 1, demands := x₁.demands.filter fun b => b != .prestart && b != .checkpoint && b != .load }
        jobs := t.jobs.map (countFail d) } := by
  have hx : s.drives[d] = x := by rw [hdrives, vector_set_same]
  have hmod : (t.modDrive d fun y => { y with startFails := y.startFails + 1, demands := y.demands.filter fun b => !b.once }) =
      { t with
        drives := v.set d { x₁ with startFails := 1, demands := x₁.demands.filter fun b => b != .prestart && b != .checkpoint && b != .load } } := by
    rw [State.modDrive_set ht, htfails, not_once]
  simp only [State.startFailed, hx, hpower, hmod, hfails]
  refine (if_neg (by decide)).trans (State.startTold_quiet ?_ htckpt)
  exact (State.loadJob_countFail _ d).trans htload

theorem State.startFailed_parked (hfails : x.startFails = 0) (hfrom : x.fromParked = true) :
    s.startFailed d = { s with drives := v.set d { x.startLost with power := .parked }, jobs := s.jobs.map (countFail d) } := by
  have hpower : (if x.fromParked = true then s.modDrive d fun y => { y with power := .parked, startTimer := none, wakeAsked := false }
      else s.powerOff d) = { s with drives := v.set d { x with power := .parked, startTimer := none, wakeAsked := false } } :=
    (if_pos hfrom).trans (State.modDrive_set hdrives _)
  have hfirst := State.startFailed_first hdrives hfails hpower rfl hfails hload hckpt
  exact hfirst

theorem State.startFailed_off (hfails : x.startFails = 0) (hfrom : x.fromParked = false) :
    s.startFailed d =
      { s with
        drives := v.set d { x.startLost with power := .unpowered, rail := false, standbyAsked := false }
        jobs := s.jobs.map (countFail d), out := { s.out with acts := s.out.acts ++ [.rail d false] } } := by
  have hpower : (if x.fromParked = true then s.modDrive d fun y => { y with power := .parked, startTimer := none, wakeAsked := false }
      else s.powerOff d) = { s with drives := v.set d x.poweredOff, out := { s.out with acts := s.out.acts ++ [.rail d false] } } :=
    (if_neg (by rw [hfrom]; exact Bool.false_ne_true)).trans
      (congrArg (fun t => State.emit t (.rail d false)) (State.modDrive_set hdrives Drive.poweredOff))
  have hfirst := State.startFailed_first hdrives hfails hpower rfl hfails hload hckpt
  exact hfirst

end

/-! ## The commands that end a start -/

section
variable {s : State} {d : Fin 4} (hp : s.powered = true) (hload : s.loadJob = none) (hckpt : s.engine.ckpt = none)
include hp hload hckpt

theorem announce_ends (hpower : s.drives[d].power = .starting) (hfrom : s.drives[d].fromParked = false) :
    Ends s (.driveAnnounce d)
      (State.settle { s with drives := s.drives.set d (s.drives[d].started s.cfg.drive[d].setup), out := {} }) := by
  have hsame : s.mute.drives = s.drives.set d s.drives[d] := (vector_set_self _ _).symm
  have hrow := run_ends (exec_driveAnnounce d s) hp
  refine Ends.of_eq hrow ((if_pos ⟨hpower, ?_⟩).trans (congrArg State.settle (State.driveReady_quiet hsame hload hckpt)))
  rw [show s.mute.drives[d].fromParked = false from hfrom]
  rfl

theorem startTimeout_ends (hpower : s.drives[d].power = .starting) (hfrom : s.drives[d].fromParked = false)
    (htimer : s.drives[d].startTimer.isSome = true) (hfails : s.drives[d].startFails = 0) :
    Ends s (.startTimeout d)
      (State.settle
        { s with
          drives := s.drives.set d { s.drives[d].startLost with power := .unpowered, rail := false, standbyAsked := false }
          jobs := s.jobs.map (countFail d), out := { acts := [.rail d false] } }) := by
  have hsame : s.mute.drives = s.drives.set d s.drives[d] := (vector_set_self _ _).symm
  have hrow := run_ends (exec_startTimeout d s) hp
  exact Ends.of_eq hrow ((if_pos ⟨hpower, htimer⟩).trans
    (congrArg State.settle (State.startFailed_off hsame hload hckpt hfails hfrom)))

variable {c : DriveCmd} {r : Bool} (hport : s.drives[d].port = .command .wake c r)
include hport

theorem wake_done_ends (data : List Byte) (v : Int) :
    Ends s (.commandAnswer d (.done data v))
      (State.settle
        { s with
          drives := s.drives.set d
            { s.drives[d].started s.cfg.drive[d].setup with port := .idle, noAnswer := 0, credit := s.drives[d].creditLeft s.cfg.credit }
          out := {} }) := by
  let x : Drive := { s.drives[d] with port := .idle }
  let y : Drive := x.started s.cfg.drive[d].setup
  let t : State := { s.mute with drives := s.drives.set d y }
  have huse : (s.mute.portIdle d).useEnds d .wake .done data v = t :=
    State.driveReady_quiet (s := s.mute.portIdle d) (v := s.drives) (x := x) rfl hload hckpt
  have hends := answer_done_ends (t := t) (y := y) hp rfl rfl hport huse
  exact hends

variable (hfrom : s.drives[d].fromParked = true) (hfails : s.drives[d].startFails = 0)
include hfrom hfails

omit hp hport in
/-- A WAKE that fails (R146). -/
theorem State.wake_fails :
    (s.mute.portIdle d).startFailed d =
      { s.mute with
        drives := s.drives.set d { s.drives[d].startLost with port := .idle, power := .parked }, jobs := s.jobs.map (countFail d) } := by
  let x : Drive := { s.drives[d] with port := .idle }
  have hfailed := State.startFailed_parked (s := s.mute.portIdle d) (v := s.drives) (x := x) rfl hload hckpt hfails hfrom
  exact hfailed.trans (congrArg (fun y => { s.mute with drives := s.drives.set d y, jobs := s.jobs.map (countFail d) })
    (Drive.startLost_idle s.drives[d]))

theorem wake_fails_ends :
    Ends s (.commandAnswer d .otherError)
      (State.settle
        { s with
          drives := s.drives.set d
            { s.drives[d].startLost with port := .idle, power := .parked, credit := s.drives[d].creditLeft s.cfg.credit }
          jobs := s.jobs.map (countFail d), out := {} }) := by
  let y : Drive := { s.drives[d].startLost with port := .idle, power := .parked }
  let t : State := { s.mute with drives := s.drives.set d y, jobs := s.jobs.map (countFail d) }
  have huse : (s.mute.portIdle d).useEnds d .wake .other [] 0 = t := State.wake_fails hload hckpt hfrom hfails
  have hends := answer_other_ends (t := t) (y := y) hp rfl rfl hport huse
  exact hends

theorem wake_timeout_ends (hf : s.drives[d].failed = false) :
    Ends s (.commandTimeout d)
      (State.settle
        { s with
          drives := s.drives.set d { s.drives[d].startLost with port := .resetting .wake c r, power := .parked }
          jobs := s.jobs.map (countFail d), out := { acts := [.portReset d] } }) := by
  have hrow := run_ends (exec_commandTimeout d s) hp
  have hm : s.mute.drives[d].port = .command .wake c r := hport
  simp only [hm, if_true] at hrow
  let y : Drive := { s.drives[d].startLost with port := .idle, power := .parked }
  let t : State := { s.mute with drives := s.drives.set d y, jobs := s.jobs.map (countFail d) }
  have hfailed : (s.mute.portIdle d).startFailed d = t := State.wake_fails hload hckpt hfrom hfails
  have hnot : ¬t.drives[d].failed = true := by
    rw [show t.drives[d] = y from vector_set_same _ _ _]
    exact Bool.eq_false_iff.mp hf
  rw [hfailed, if_neg hnot] at hrow
  refine Ends.of_eq hrow (congrArg State.settle ?_)
  exact congrArg (fun u => State.emit u (.portReset d))
    (State.modDrive_set (t := t) (v := s.drives) (x := y) rfl fun x => { x with port := .resetting .wake c r })

end

/-- Settles O48. -/
theorem starts : Obligations.Starts := by
  intro s d hp x
  refine ⟨fun hload hckpt hpower => ?starting, fun hidle => ?idle⟩
  case starting =>
    intro full started fails jobs
    have hjobs : s.jobs.map (countFail d) = jobs := List.map_congr_left fun j _ => if_congr Job.powers_iff rfl rfl
    refine ⟨fun hfrom => ⟨announce_ends hp hload hckpt hpower hfrom, fun htimer hfails => ?timeout⟩,
      fun c r hfrom hport => ⟨wake_done_ends hp hload hckpt hport, fun hfails => ⟨?refused, fun hf => ?unanswered⟩⟩⟩
    case timeout =>
      rw [← hjobs]
      exact startTimeout_ends hp hload hckpt hpower hfrom htimer hfails
    case refused =>
      rw [← hjobs]
      exact wake_fails_ends hp hload hckpt hport hfrom hfails
    case unanswered =>
      rw [← hjobs]
      exact wake_timeout_ends hp hload hckpt hport hfrom hfails hf
  case idle =>
    have hrow := run_ends (exec_idleTimerExpiry d s) hp
    refine Ends.of_eq hrow (if_neg fun h => ?_)
    have hnone : s.drives[d].idle = none := Option.isNone_iff_eq_none.mp h
    exact Bool.false_ne_true ((congrArg Option.isSome hnone).symm.trans hidle)

end Sys2Proof.Machine

/-! # Drive health and rails (R140, R154, R175 to R180) -/

namespace Sys2Proof.Machine

/-! ## Latches -/

/-- A drive that has latched FAILED for a cause, with its snapshot (R136, R179, R180). -/
def Drive.latchedFailed (x : Drive) (credit : Nat) (c : FaultCause) (time : BitVec 32) (before : Power) : Drive :=
  { x.quiet credit with
    causes := x.causes.add c, snap := some (x.snapshot true c time before), snapCount := x.snapCount + 1 }

theorem Drive.causes_none {x : Drive} (hf : x.failed = false) {c : FaultCause} (hc : c ≠ .media) : x.causes.has c = false := by
  rw [Drive.failed] at hf
  simp only [Bool.or_eq_false_iff] at hf
  obtain ⟨⟨⟨hstart, hanswer⟩, hremoved⟩, hrail⟩ := hf
  cases c with
  | media => exact absurd rfl hc
  | start => exact hstart
  | noAnswer => exact hanswer
  | removed => exact hremoved
  | rail => exact hrail

section
variable {s : State} {d : Fin 4} {v : Vector Drive 4} {x : Drive} (hdrives : s.drives = v.set d x) (hf : x.failed = false)
  (hlists : x.ops = [] ∧ x.room = []) (hload : s.loadJob = none) (hckpt : s.engine.ckpt = none) {c : FaultCause} (hc : c ≠ .media)
  (before : Power)
include hdrives hf hlists hload hckpt hc

omit hload hckpt in
theorem State.latchFailed_told {t : State} (hquiet : (if x.power = .absent ∨ x.power = .unpowered then
      (s.note.modDrive d fun y => { y with causes := y.causes.add c }).modDrive d fun y => y.quiet s.cfg.credit
    else ((s.note.modDrive d fun y => { y with causes := y.causes.add c }).modDrive d fun y => y.quiet s.cfg.credit).powerOff d) = t)
    (htload : t.loadJob = none) (htckpt : t.engine.ckpt = none) :
    s.latchFailed d c before = t.takeSnapshot d (x.snapshot true c s.stamp before) := by
  have hx : s.drives[d] = x := by rw [hdrives, vector_set_same]
  have htold : (t.tellOnce d false).ckptDriveFailed d = t := by
    rw [State.tellOnce_quiet htload htckpt]
    simp only [State.ckptDriveFailed, htckpt]
    cases catIndex d <;> rfl
  have hhas : ¬x.causes.has c = true := Bool.eq_false_iff.mp (Drive.causes_none hf hc)
  simp only [State.latchFailed, hx, hhas, hf, Bool.false_eq_true, if_false, hquiet, htold, hlists.1, hlists.2, List.filter_nil]
  rfl

omit hf hlists hload hckpt hc in
theorem State.noted_quiet :
    ((s.note.modDrive d fun y => { y with causes := y.causes.add c }).modDrive d fun y => y.quiet s.cfg.credit) =
      { s.note with drives := v.set d (Drive.quiet { x with causes := x.causes.add c } s.cfg.credit) } := by
  have hadd := State.modDrive_set (t := s.note) hdrives fun y => { y with causes := y.causes.add c }
  rw [hadd]
  exact State.modDrive_set (t := { s.note with drives := v.set d { x with causes := x.causes.add c } }) rfl _

omit hdrives hf hlists hload hckpt hc in
theorem State.takeSnapshot_set {t : State} {y : Drive} (ht : t.drives = v.set d y) (n : Snapshot) :
    t.takeSnapshot d n = { t with drives := v.set d { y with snap := some n, snapCount := y.snapCount + 1 }, attn := t.attn ||| 0x10 } := by
  rw [State.takeSnapshot, State.modDrive_set ht]
  rfl

/-- FAILED latched on a drive without power (R179). -/
theorem State.latchFailed_off (hpower : x.power = .absent ∨ x.power = .unpowered) :
    s.latchFailed d c before =
      { s with
        drives := v.set d (x.latchedFailed s.cfg.credit c s.stamp before)
        attn := s.attn ||| 0x10, out := { s.out with notes := s.out.notes ++ s.stage } } := by
  have hlatch := State.latchFailed_told hdrives hf hlists hc before ((if_pos hpower).trans (State.noted_quiet hdrives)) hload hckpt
  let y : Drive := Drive.quiet { x with causes := x.causes.add c } s.cfg.credit
  exact hlatch.trans (State.takeSnapshot_set (t := { s.note with drives := v.set d y }) (y := y) rfl _)

/-- FAILED latched on a drive with power, whose rail then goes off (R136, R179). -/
theorem State.latchFailed_on (hpower : ¬(x.power = .absent ∨ x.power = .unpowered)) :
    s.latchFailed d c before =
      { s with
        drives := v.set d (x.latchedFailed s.cfg.credit c s.stamp before).poweredOff
        attn := s.attn ||| 0x10, out := { s.out with acts := s.out.acts ++ [.rail d false], notes := s.out.notes ++ s.stage } } := by
  let y : Drive := Drive.quiet { x with causes := x.causes.add c } s.cfg.credit
  have hoff : ({ s.note with drives := v.set d y } : State).powerOff d =
      { s with
        drives := v.set d y.poweredOff
        out := { s.out with acts := s.out.acts ++ [.rail d false], notes := s.out.notes ++ s.stage } } :=
    congrArg (fun t => State.emit t (.rail d false)) (State.modDrive_set (t := { s.note with drives := v.set d y }) rfl Drive.poweredOff)
  have hlatch := State.latchFailed_told hdrives hf hlists hc before
    ((if_neg hpower).trans ((congrArg (fun t => State.powerOff t d) (State.noted_quiet hdrives)).trans hoff)) hload hckpt
  let t : State := { s with
    drives := v.set d y.poweredOff
    out := { s.out with acts := s.out.acts ++ [.rail d false], notes := s.out.notes ++ s.stage } }
  exact hlatch.trans (State.takeSnapshot_set (t := t) (y := y.poweredOff) rfl _)

end

/-- What the page shows of a state one of whose drives has changed where it shows nothing. -/
theorem State.stage_set {s : State} {d : Fin 4} {y : Drive} (hy : y.shown = s.drives[d].shown) :
    State.stage { s with drives := s.drives.set d y } = s.stage := State.stage_withDrive hy s.startQueue s.nextId

/-! ## The rails -/

/-- A latch with every field of the drive written out, as the snapshot and the page take it. -/
theorem railGrace_latches {s : State} {d : Fin 4} (hp : s.powered = true) (hf : s.drives[d].failed = false)
    (hlists : s.drives[d].ops = [] ∧ s.drives[d].room = []) (hload : s.loadJob = none) (hckpt : s.engine.ckpt = none)
    (hgrace : s.drives[d].railGrace.isSome = true) (hpower : s.drives[d].power = .unpowered) :
    Ends s (.railGraceExpiry d)
      (State.settle
        { s with
          drives := s.drives.set d (Drive.latchedFailed { s.drives[d] with railGrace := none } s.cfg.credit .rail s.stamp s.drives[d].power)
          attn := s.attn ||| 0x10, out := { notes := s.stage } }) := by
  let x : Drive := { s.drives[d] with railGrace := none }
  let t : State := { s.mute with drives := s.drives.set d x }
  have hrow := run_ends (exec_railGraceExpiry d s) hp
  have hnot : ¬s.mute.drives[d].railGrace.isNone = true := fun h => by
    have hnone : s.drives[d].railGrace = none := Option.isNone_iff_eq_none.mp h
    rw [hnone] at hgrace
    exact Bool.false_ne_true hgrace
  have hstage : t.stage = s.stage := State.stage_set (s := s.mute) (y := x) rfl
  have hlatch := State.latchFailed_off (s := t) (x := x) (c := .rail) rfl hf hlists hload hckpt nofun s.drives[d].power (.inr hpower)
  rw [hstage] at hlatch
  exact Ends.of_eq hrow ((if_neg hnot).trans (congrArg State.settle hlatch))

theorem Drive.sampled_eq (x : Drive) (cfg : Cfg) (current : Nat) :
    x.sampled cfg current =
      if x.power = .unpowered ∧ x.failed = false ∧ cfg.leak ≤ current then
        { x with railGrace := if x.railGrace.isSome then x.railGrace else some cfg.railGrace }
      else { x with railGrace := none } := by
  by_cases h : x.power = .unpowered ∧ (!x.failed) = true
  · refine (if_pos h).trans ?_
    have hf : x.failed = false := by simpa using h.2
    by_cases hleak : cfg.leak ≤ current
    · rw [if_pos hleak]
      exact (if_pos (And.intro h.1 (And.intro hf hleak))).symm
    · rw [if_neg hleak]
      exact (if_neg fun hall => hleak hall.2.2).symm
  · refine (if_neg h).trans (if_neg fun hall => h ⟨hall.1, ?_⟩).symm
    rw [hall.2.1]
    rfl

theorem Drive.sampled_below {x : Drive} {cfg : Cfg} {current : Nat} (h : current < cfg.leak) :
    x.sampled cfg current = { x with railGrace := none } := by
  rw [Drive.sampled_eq, if_neg fun hall => Nat.not_le.mpr h hall.2.2]

/-- A sample of the rails after one of the presence lines that leaves a state. -/
theorem railSample_ends {s t : State} {current : Vector Nat 4} {present : BitVec 4} (hp : s.powered = true)
    (ht : drives4.foldl (fun s d => s.samplePresence present d) s.mute = t) :
    Ends s (.railSample current present)
      (State.settle { t with drives := Vector.ofFn fun d => t.drives[d].sampled s.cfg current[d] }) := by
  subst ht
  exact Ends.of_eq (run_ends (exec_railSample current present s) hp) rfl

/-- A drive put in (R140). -/
def Drive.putIn (x : Drive) (here : Bool) : Drive := if x.power = .absent ∧ here = true then { x with present := true, power := .unpowered } else x

theorem State.samplePresence_stays {s : State} {present : BitVec 4} {d : Fin 4} (h : s.drives[d].power ≠ .absent → present.getLsbD d.val = true) :
    s.samplePresence present d = s.driveStep d (s.drives[d].putIn (present.getLsbD d.val)) [] := by
  rw [State.samplePresence, Drive.putIn]
  by_cases hp : s.drives[d].power = .absent
  · cases hb : present.getLsbD d.val with
    | true =>
      simp only [hp, true_and, if_true, State.modDrive_eq_driveStep]
    | false =>
      simp only [hp, Bool.false_eq_true, and_false, if_false, if_true, State.driveStep_self]
  · simp only [h hp, hp, false_and, if_true, if_false, State.driveStep_self]

/-- The presence lines with no drive taken out (R140). -/
theorem State.samplePresence_all {s : State} {present : BitVec 4} (h : ∀ d : Fin 4, s.drives[d].power ≠ .absent → present.getLsbD d.val = true) :
    drives4.foldl (fun s d => s.samplePresence present d) s =
      { s with drives := Vector.ofFn fun d => s.drives[d].putIn (present.getLsbD d.val) } := by
  have hfold := foldl_drives4 (F := fun s d => s.samplePresence present d) (s := s)
    (fun d => s.drives[d].putIn (present.getLsbD d.val)) (fun _ => [])
    (fun d v l hv => by
      have hd : (s.withDrives v l).drives[d] = s.drives[d] := hv
      rw [← hd]
      exact State.samplePresence_stays (by rw [hd]; exact h d))
  exact hfold.trans (congrArg (fun l => { s with
    drives := Vector.ofFn fun d => s.drives[d].putIn (present.getLsbD d.val), out := { s.out with acts := l } }) (List.append_nil _))

/-- A drive that has been taken out, before its latch (R140). -/
def Drive.takenOut (x : Drive) : Drive := { x with present := false, power := .absent, rail := false, label := none, capacity := 0 }

/-- A drive is taken out of the part (R140, R179). -/
theorem State.removeDrive_empty {s : State} {d : Fin 4} (hf : s.drives[d].failed = false)
    (hlists : s.drives[d].ops = [] ∧ s.drives[d].room = []) (hload : s.loadJob = none) (hckpt : s.engine.ckpt = none) (hmute : s.out = {}) :
    s.removeDrive d =
      { s with
        drives := s.drives.set d (s.drives[d].takenOut.latchedFailed s.cfg.credit .removed s.stamp s.drives[d].power)
        attn := s.attn ||| 0x10
        out :=
          { acts := if s.drives[d].rail then [.rail d false] else []
            notes := State.stage { s with drives := s.drives.set d s.drives[d].takenOut } } } := by
  let out : Drive := s.drives[d].takenOut
  let u : State := { s with drives := s.drives.set d out, out := { acts := if s.drives[d].rail then [.rail d false] else [] } }
  have hgone : (if s.drives[d].rail then State.emit (s.modDrive d Drive.takenOut) (.rail d false) else s.modDrive d Drive.takenOut) = u := by
    by_cases hrail : s.drives[d].rail = true
    · have hacts : (if s.drives[d].rail then [Out.rail d false] else []) = [.rail d false] := if_pos hrail
      exact (if_pos hrail).trans ((congrArg (fun o : Outputs => { s with
        drives := s.drives.set d out, out := { o with acts := o.acts ++ [Out.rail d false] } }) hmute).trans
        (congrArg (fun l => { s with drives := s.drives.set d out, out := { acts := l } }) hacts.symm))
    · have hacts : (if s.drives[d].rail then [Out.rail d false] else []) = [] := if_neg hrail
      exact (if_neg hrail).trans ((congrArg (fun o => { s with drives := s.drives.set d out, out := o }) hmute).trans
        (congrArg (fun l => { s with drives := s.drives.set d out, out := { acts := l } }) hacts.symm))
  have hlatch := State.latchFailed_off (s := u) (v := s.drives) (x := out) (c := .removed) rfl hf hlists hload hckpt nofun
    s.drives[d].power (.inl rfl)
  have hremove : s.removeDrive d = u.latchFailed d .removed s.drives[d].power := by
    refine (if_neg (Bool.eq_false_iff.mp hf)).trans ?_
    exact congrArg (fun t => State.latchFailed t d .removed s.drives[d].power) hgone
  exact hremove.trans hlatch

/-- The presence lines with one drive taken out (R140). -/
theorem State.samplePresence_out {s : State} {d : Fin 4} {present : BitVec 4} (hf : s.drives[d].failed = false)
    (hlists : s.drives[d].ops = [] ∧ s.drives[d].room = []) (hload : s.loadJob = none) (hckpt : s.engine.ckpt = none) (hmute : s.out = {})
    (hpower : s.drives[d].power ≠ .absent) (hout : present.getLsbD d.val = false)
    (hothers : ∀ e : Fin 4, e ≠ d → (s.drives[e].power = .absent ↔ present.getLsbD e.val = false)) :
    drives4.foldl (fun s d => s.samplePresence present d) s =
      { s with
        drives := s.drives.set d (s.drives[d].takenOut.latchedFailed s.cfg.credit .removed s.stamp s.drives[d].power)
        attn := s.attn ||| 0x10
        out :=
          { acts := if s.drives[d].rail then [.rail d false] else []
            notes := State.stage { s with drives := s.drives.set d s.drives[d].takenOut } } } := by
  have hstays : ∀ (t : State) (e : Fin 4), e ≠ d → t.drives[e] = s.drives[e] → t.samplePresence present e = t := by
    intro t e he ht
    rw [State.samplePresence]
    by_cases hb : present.getLsbD e.val = true
    · have hpe : ¬t.drives[e].power = .absent := by
        rw [ht]
        exact fun h => Bool.false_ne_true (((hothers e he).mp h).symm.trans hb)
      rw [if_pos hb, if_neg hpe]
    · have hpe : t.drives[e].power = .absent := by
        rw [ht]
        exact (hothers e he).mpr (Bool.eq_false_iff.mpr hb)
      rw [if_neg hb, if_pos hpe]
  have hremove : s.samplePresence present d = _ :=
    (if_neg (Bool.eq_false_iff.mp hout)).trans ((if_neg hpower).trans (State.removeDrive_empty hf hlists hload hckpt hmute))
  exact foldl_drives4_one d hremove (fun e he => hstays s e he rfl) fun e he => hstays _ e he (vector_set_other s.drives he _)

/-- Settles O49. -/
theorem rails : Obligations.Rails := by
  intro s hp
  refine ⟨fun current present h => ?stay, fun d hf hops hroom hload hckpt => ⟨fun hgrace hpower => ?grace, fun current present hpower hout hothers hlow => ?out⟩⟩
  case stay =>
    have hends := railSample_ends (current := current) hp (State.samplePresence_all (s := s.mute) h)
    refine Ends.of_eq hends (congrArg State.settle (congrArg (fun v => { s.mute with drives := v }) ?_))
    refine congrArg Vector.ofFn (funext fun d => ?_)
    have hget : (Vector.ofFn fun e : Fin 4 => s.drives[e].putIn (present.getLsbD e.val))[d] = s.drives[d].putIn (present.getLsbD d.val) :=
      Vector.getElem_ofFn d.isLt
    exact (congrArg (fun x => Drive.sampled x s.cfg current[d]) hget).trans (Drive.sampled_eq _ _ _)
  case grace =>
    exact railGrace_latches hp hf ⟨hops, hroom⟩ hload hckpt hgrace hpower
  case out =>
    have hends := railSample_ends (current := current) hp
      (State.samplePresence_out (s := s.mute) hf ⟨hops, hroom⟩ hload hckpt rfl hpower hout hothers)
    let x : Drive := s.drives[d].takenOut.latchedFailed s.cfg.credit .removed s.stamp s.drives[d].power
    refine Ends.of_eq hends (congrArg State.settle (congrArg (fun v => { s.mute with
      drives := v, attn := s.attn ||| 0x10
      out :=
        { acts := if s.drives[d].rail then [.rail d false] else []
          notes := State.stage { s with drives := s.drives.set d s.drives[d].takenOut } } }) (congrArg Vector.ofFn (funext fun e => ?_))))
    refine (Drive.sampled_below (hlow e)).trans ?_
    by_cases he : e = d
    · rw [if_pos he, he]
      exact congrArg (fun y : Drive => { y with railGrace := none }) (vector_set_same s.drives d x)
    · rw [if_neg he]
      exact congrArg (fun y : Drive => { y with railGrace := none }) (vector_set_other s.drives he x)

end Sys2Proof.Machine

/-! # The health timers and the endings that the Integrity Unit takes (R175 to R180) -/

namespace Sys2Proof.Machine

theorem not_isNone {α : Type} {o : Option α} (h : o.isSome = true) : ¬o.isNone = true := by
  rw [Option.isNone_iff_eq_none]
  rintro rfl
  exact Bool.false_ne_true h

/-! ## The temperature -/

theorem clampTemp_eq (v : Int) : clampTemp v = if v < -40 then -40 else if 125 < v then 125 else v := by
  rw [clampTemp]
  split
  · omega
  · split <;> omega

theorem Drive.reading_eq (x : Drive) (cfg : Cfg) (v : Int) :
    x.reading cfg v =
      { x with
        temp := some (clampTemp v), hot := x.hot && decide ((cfg.recover : Int) < clampTemp v)
        hotGrace :=
          if x.hot then x.hotGrace
          else if clampTemp v < cfg.hot then none else if x.hotGrace.isSome then x.hotGrace else some cfg.hotGrace } := by
  by_cases hhot : x.hot = true
  · by_cases hle : clampTemp v ≤ cfg.recover
    · simp only [Drive.reading, hhot, hle, decide_eq_false (Int.not_lt.mpr hle), if_true, Bool.and_false]
    · simp only [Drive.reading, hhot, hle, decide_eq_true (Int.not_le.mp hle), if_true, if_false, Bool.and_true]
  · have hcold : x.hot = false := Bool.eq_false_iff.mpr hhot
    by_cases hle : (cfg.hot : Int) ≤ clampTemp v
    · cases hgrace : x.hotGrace <;>
        simp only [Drive.reading, hcold, hle, Int.not_lt.mpr hle, hgrace, Bool.false_eq_true, if_false, if_true, Bool.false_and, Option.isNone_none,
          Option.isNone_some, Option.isSome_none, Option.isSome_some]
    · simp only [Drive.reading, hcold, hle, Int.not_le.mp hle, Bool.false_eq_true, if_false, if_true, Bool.false_and]

/-- A drive whose only operation was a TEMP_POLL that has been answered. -/
theorem Drive.reading_alone (x : Drive) (cfg : Cfg) (v : Int) :
    ({ Drive.reading { x with port := .idle } cfg v with ops := [] } : Drive) = { x.reading cfg v with port := .idle, ops := [] } := by
  rw [Drive.reading_eq, Drive.reading_eq]

/-- A TEMP_POLL alone on its list is answered (R175, R176). -/
theorem tempPoll_ends {s : State} {d : Fin 4} {o : Op} {c : DriveCmd} {r : Bool} (hp : s.powered = true) (hops : s.drives[d].ops = [o])
    (hw : o.withdrawn = false) (hport : s.drives[d].port = .command (.segment o.id) c r) (hkind : o.kind = .tempPoll) (howner : o.owner = .tempPoll)
    (data : List Byte) (v : Int) :
    Ends s (.commandAnswer d (.done data v))
      (State.settle
        { s with
          drives := s.drives.set d
            { s.drives[d].reading s.cfg v with port := .idle, ops := [], noAnswer := 0, credit := s.cfg.credit }
          out := {} }) := by
  let y : Drive := { s.drives[d].reading s.cfg v with port := .idle, ops := [] }
  let t : State := { s.mute with drives := s.drives.set d y }
  have huse : (s.mute.portIdle d).useEnds d (.segment o.id) .done data v = t := by
    have hfind : (s.mute.drives[d].ops.find? fun p => p.id == o.id) = some o := by
      rw [show s.mute.drives[d].ops = [o] from hops, List.find?_cons_of_pos (by simp)]
    have hnot : ¬o.withdrawn = true := by rw [hw]; exact Bool.false_ne_true
    have hlast : ¬o.segsDone + 1 < o.segments := by
      simp only [Op.segments, hkind]
      omega
    let x : Drive := Drive.reading { s.drives[d] with port := .idle } s.cfg v
    have hread : ((s.mute.portIdle d).modDrive d fun x => x.reading s.cfg v) = { s.mute with drives := s.drives.set d x } :=
      State.modDrive_set (t := s.mute.portIdle d) (v := s.drives) rfl _
    have hops' : x.ops = [o] := (congrArg Drive.ops (Drive.reading_eq { s.drives[d] with port := .idle } s.cfg v)).trans hops
    have hdrop : x.dropOp o.id = y := by
      rw [Drive.dropOp, hops', List.filter_cons_of_neg (by simp), List.filter_nil]
      exact Drive.reading_alone s.drives[d] s.cfg v
    have hdropped : (State.modDrive { s.mute with drives := s.drives.set d x } d fun x => x.dropOp o.id) = t :=
      (State.modDrive_set (t := { s.mute with drives := s.drives.set d x }) rfl _).trans
        (congrArg (fun z => { s.mute with drives := s.drives.set d z }) hdrop)
    refine (State.segmentEnds_found (s := s.mute) hfind .done data v).trans ((if_pos rfl).trans ((if_neg hnot).trans ((if_neg hlast).trans ?_)))
    rw [if_pos hkind]
    refine (congrArg (fun u => State.endOp u d { o with segsDone := o.segsDone + 1, data := o.data ++ data } (.done (o.data ++ data))) hread).trans ?_
    refine (if_neg hnot).trans ?_
    rw [hdropped]
    simp only [State.hand, State.labelOp, hkind, howner]
  have hends := answer_done_ends (t := t) (y := y) hp rfl rfl hport huse
  exact hends

/-! ## The media score -/

section
variable {t : State} {d : Fin 4} {v : Vector Drive 4} {x : Drive} (h : t.drives = v.set d x)
include h

theorem State.latchDegraded_set :
    t.latchDegraded d =
      { t with
        drives := v.set d
          { x with degraded := true, snap := some (x.snapshot false .media t.stamp x.power), snapCount := x.snapCount + 1 }
        attn := t.attn ||| 0x10, out := { t.out with notes := t.out.notes ++ t.stage } } := by
  have hx : t.drives[d] = x := by rw [h, vector_set_same]
  have hmod : t.note.modDrive d (fun x => { x with degraded := true }) = { t.note with drives := v.set d { x with degraded := true } } :=
    State.modDrive_set (t := t.note) h _
  simp only [State.latchDegraded, hx, hmod]
  exact State.takeSnapshot_set (t := { t.note with drives := v.set d { x with degraded := true } }) (y := { x with degraded := true }) rfl _

/-- A drive with a media error counted (R177). -/
def Drive.scored (x : Drive) : Drive := { x with score := x.score + 1, decay := if x.score = 0 then some 3600 else x.decay }

theorem State.mediaError_set (hscore : x.score < 255) :
    t.mediaError d =
      if t.cfg.mediaLimit ≤ x.score + 1 ∧ x.degraded = false then
        State.latchDegraded { t with drives := v.set d x.scored } d
      else { t with drives := v.set d x.scored } := by
  have hmod : (t.modDrive d fun x => { x with score := satInc 255 x.score, decay := if x.score = 0 then some 3600 else x.decay }) =
      { t with drives := v.set d x.scored } := by
    rw [State.modDrive_set h, satInc, if_pos hscore]
    rfl
  have hx : (v.set d x.scored)[d] = x.scored := vector_set_same v d x.scored
  simp only [State.mediaError, hmod, hx]
  refine if_congr (and_congr Iff.rfl ?_) rfl rfl
  exact iff_of_eq (Bool.not_eq_true' x.degraded)

end

/-- A chunk write alone on its list, ended by a media error. -/
def State.mediaLeft (s : State) (d : Fin 4) (q : CatReq) : State :=
  { s.mute with
    drives := s.drives.set d { s.drives[d] with port := .idle, ops := [] }
    engine := { s.engine with requests := s.engine.requests ++ [q] } }

section
variable {s : State} {d : Fin 4} {o : Op} {c : DriveCmd} {r : Bool} {n : Fin 8} {id : Nat} {k : CopyName} (hp : s.powered = true)
  (hops : s.drives[d].ops = [o]) (hw : o.withdrawn = false) (hport : s.drives[d].port = .command (.segment o.id) c r) (hkind : o.kind = .chunkWrite)
  (howner : o.owner = .chunkCopy n id k)
include hp hops hw hport hkind howner

theorem mediaError_ends {u : State}
    (hu : ((s.mediaLeft d (.writeOutcome (.chunk n id k) .media)).mediaError d).refill d = u) : Ends s (.commandAnswer d .mediaError) u.settle := by
  have hfind : (s.mute.drives[d].ops.find? fun p => p.id == o.id) = some o := by
    rw [show s.mute.drives[d].ops = [o] from hops, List.find?_cons_of_pos (by simp)]
  have hrest : s.drives[d].without o.id = { s.drives[d] with port := .idle, ops := [] } := by
    rw [Drive.without, hops, List.filter_cons_of_neg (by simp), List.filter_nil]
  have huse : (s.mute.portIdle d).useEnds d (.segment o.id) .media [] 0 = s.mediaLeft d (.writeOutcome (.chunk n id k) .media) :=
    (State.segmentEnds_failed (s := s.mute) hfind hw hkind howner (e := .media) nofun [] 0).trans
      (congrArg (fun y => { s.mute with
        drives := s.drives.set d y
        engine := { s.engine with requests := s.engine.requests ++ [CatReq.writeOutcome (.chunk n id k) .media] } }) hrest)
  refine commandAnswer_ends (a := .mediaError) hp hport (congrArg State.settle ?_)
  exact (congrArg (fun t => (t.integrity d .media).refill d) huse).trans hu

variable (hscore : s.drives[d].score < 255)
include hscore

/-- A media error that latches nothing (R177). -/
theorem mediaError_counts (hlimit : s.drives[d].score + 1 < s.cfg.mediaLimit ∨ s.drives[d].degraded = true) :
    Ends s (.commandAnswer d .mediaError)
      (State.settle
        { s.mediaLeft d (.writeOutcome (.chunk n id k) .media) with
          drives := s.drives.set d { s.drives[d].scored with port := .idle, ops := [], credit := s.cfg.credit } }) := by
  let t : State := s.mediaLeft d (.writeOutcome (.chunk n id k) .media)
  let y : Drive := { s.drives[d].scored with port := .idle, ops := [] }
  have hnot : ¬(t.cfg.mediaLimit ≤ s.drives[d].score + 1 ∧ s.drives[d].degraded = false) := fun h =>
    hlimit.elim (Nat.not_lt.mpr h.1) fun hd => Bool.false_ne_true (h.2.symm.trans hd)
  have hmedia : t.mediaError d = { t with drives := s.drives.set d y } :=
    (State.mediaError_set (t := t) (v := s.drives) (x := { s.drives[d] with port := .idle, ops := [] }) rfl hscore).trans (if_neg hnot)
  refine mediaError_ends hp hops hw hport hkind howner ((congrArg (fun u => State.refill u d) hmedia).trans ?_)
  exact State.refill_idle (t := { t with drives := s.drives.set d y }) (x := y) rfl rfl

/-- A media error that latches DEGRADED (R177, R180). -/
theorem mediaError_degrades (hlimit : s.cfg.mediaLimit ≤ s.drives[d].score + 1) (hdegraded : s.drives[d].degraded = false) :
    let t : State := { s.mediaLeft d (.writeOutcome (.chunk n id k) .media) with
      drives := s.drives.set d { s.drives[d].scored with port := .idle, ops := [], credit := s.cfg.credit } }
    Ends s (.commandAnswer d .mediaError)
      (State.settle
        { t with
          drives := s.drives.set d
            { s.drives[d].scored with
              port := .idle, ops := [], credit := s.cfg.credit, degraded := true
              snap := some (s.drives[d].scored.snapshot false .media s.stamp s.drives[d].power), snapCount := s.drives[d].snapCount + 1 }
          attn := s.attn ||| 0x10, out := { notes := t.stage } }) := by
  intro t
  let t₀ : State := s.mediaLeft d (.writeOutcome (.chunk n id k) .media)
  let y : Drive := { s.drives[d].scored with port := .idle, ops := [] }
  let t₁ : State := { t₀ with drives := s.drives.set d y }
  have hmedia : t₀.mediaError d = t₁.latchDegraded d :=
    (State.mediaError_set (t := t₀) (v := s.drives) (x := { s.drives[d] with port := .idle, ops := [] }) rfl hscore).trans
      (if_pos ⟨hlimit, hdegraded⟩)
  have hstage : t₁.stage = t.stage := by
    have hshown := State.stage_set (s := t₁) (d := d) (y := { y with credit := s.cfg.credit }) (by
      rw [show t₁.drives[d] = y from vector_set_same _ _ _]
      rfl)
    rw [← hshown]
    exact congrArg (fun v => State.stage { t₀ with drives := v }) (Vector.set_set _ _)
  have hlatch := State.latchDegraded_set (t := t₁) (x := y) rfl
  rw [hstage] at hlatch
  let z : Drive := { y with degraded := true, snap := some (y.snapshot false .media s.stamp y.power), snapCount := y.snapCount + 1 }
  let t₂ : State := { t₁ with drives := s.drives.set d z, attn := s.attn ||| 0x10, out := { notes := t.stage } }
  refine mediaError_ends hp hops hw hport hkind howner
    ((congrArg (fun u => State.refill u d) (hmedia.trans (show t₁.latchDegraded d = t₂ from hlatch))).trans ?_)
  exact State.refill_idle (t := t₂) (x := z) rfl rfl

end

/-- The third NO_ANSWER in a row, to the LABEL_READ of the start-up phase (R132, R178). -/
theorem third_noAnswer_ends {s : State} {d : Fin 4} {c : DriveCmd} {r : Bool} (hp : s.powered = true)
    (hport : s.drives[d].port = .resetting .label c r) (hthird : s.drives[d].noAnswer = 2) (hf : s.drives[d].failed = false)
    (hpower : s.drives[d].power = .ready) (hlists : s.drives[d].ops = [] ∧ s.drives[d].room = []) (hload : s.loadJob = none)
    (hckpt : s.engine.ckpt = none) :
    Ends s (.portResetTimeout d)
      (State.settle
        { s with
          drives := s.drives.set d
            (Drive.poweredOff
              (Drive.latchedFailed { s.drives[d] with port := .idle, startup := none, noAnswer := 3 } s.cfg.credit .noAnswer s.stamp .ready))
          attn := s.attn ||| 0x10, out := { acts := [.rail d false], notes := s.stage } }) := by
  let y : Drive := { s.drives[d] with port := .idle, startup := none, noAnswer := 3 }
  let t : State := { s.mute with drives := s.drives.set d y }
  have huse : (s.mute.portIdle d).useEnds d .label .noAnswer [] 0 =
      { s.mute with drives := s.drives.set d { s.drives[d] with port := .idle, startup := none } } :=
    State.portIdle_mod s.mute d fun x => x.labelEnds .noAnswer []
  have hcount : (State.modDrive { s.mute with drives := s.drives.set d { s.drives[d] with port := .idle, startup := none } } d
      fun x => { x with noAnswer := x.noAnswer + 1 }) = t :=
    (State.modDrive_set (v := s.drives) rfl _).trans (congrArg (fun n => { s.mute with
      drives := s.drives.set d { s.drives[d] with port := .idle, startup := none, noAnswer := n + 1 } }) hthird)
  have hy : t.drives[d] = y := vector_set_same _ _ _
  have hthree : 3 ≤ t.drives[d].noAnswer := by rw [hy]
  have hstage : t.stage = s.stage := State.stage_set (s := s.mute) (y := y) rfl
  have hpower' : ¬(y.power = .absent ∨ y.power = .unpowered) := by
    rw [show y.power = .ready from hpower]
    exact fun h => h.elim nofun nofun
  have hlatch := State.latchFailed_on (s := t) (v := s.drives) (x := y) (c := .noAnswer) rfl hf hlists hload hckpt nofun .ready hpower'
  rw [hstage] at hlatch
  let z : Drive := (y.latchedFailed s.cfg.credit .noAnswer s.stamp .ready).poweredOff
  let u : State := { s.mute with
    drives := s.drives.set d z, attn := s.attn ||| 0x10, out := { acts := [.rail d false], notes := s.stage } }
  have hint : (((s.mute.portIdle d).useEnds d .label .noAnswer [] 0).integrity d .noAnswer) = u := by
    rw [huse, State.integrity, hcount]
    refine (if_pos hthree).trans ?_
    rw [hy, show y.power = .ready from hpower]
    exact hlatch
  have hrow := run_ends (exec_portResetTimeout d s) hp
  have hm : s.mute.drives[d].port = .resetting .label c r := hport
  simp only [hm, reduceCtorEq, if_false] at hrow
  refine Ends.of_eq hrow (congrArg State.settle ?_)
  exact (congrArg (fun t => State.refill t d) hint).trans (State.refill_idle (t := u) (x := z) rfl rfl)

/-- Settles O50. -/
theorem healthTimers : Obligations.HealthTimers := by
  intro s d hp
  refine ⟨fun hpoll => ⟨fun h => ?polling, fun h => ?offers⟩, fun hgrace => ?grace, fun hdecay => ?decay,
    fun o c r hops hw hport => ⟨fun data v hkind howner => ?poll, fun n id k hkind howner hscore => ?media⟩,
    fun c r hport hthird hf hpower hops hroom hload hckpt => ?third⟩
  case polling => 
    have hrow := run_ends (exec_tempPollTimerExpiry d s) hp
    exact Ends.of_eq hrow ((if_neg (not_isNone hpoll)).trans (if_pos h))
  case offers =>
    have hrow := run_ends (exec_tempPollTimerExpiry d s) hp
    exact Ends.of_eq hrow ((if_neg (not_isNone hpoll)).trans (if_neg (Bool.eq_false_iff.mp h)))
  case grace =>
    have hrow := run_ends (exec_hotGraceExpiry d s) hp
    exact Ends.of_eq hrow (if_neg (not_isNone hgrace))
  case decay =>
    have hrow := run_ends (exec_decayTimerExpiry d s) hp
    exact Ends.of_eq hrow (if_neg (not_isNone hdecay))
  case poll =>
    have hends := tempPoll_ends hp hops hw hport hkind howner data v
    rw [Drive.reading_eq, clampTemp_eq] at hends
    exact hends
  case media =>
    exact ⟨mediaError_counts hp hops hw hport hkind howner hscore, mediaError_degrades hp hops hw hport hkind howner hscore⟩
  case third =>
    have hends := third_noAnswer_ends hp hport hthird hf hpower ⟨hops, hroom⟩ hload hckpt
    exact hends

end Sys2Proof.Machine

/-! # SCRUB (R168 to R173) -/

namespace Sys2Proof.Machine

/-! ## The walk -/

/-- The walk with its step's slot counted (R169). -/
def ScrubCtx.walks (x : ScrubCtx) (slots : Nat) (skipped : Bool) : ScrubCtx :=
  { x with
    walked := x.walked + 1, left := x.left - 1, next := if x.next + 1 < slots then x.next + 1 else 0
    skipped := if skipped then x.skipped + 1 else x.skipped, step := none }

section
variable {s : State} {x : ScrubCtx} {job : Nat} (hx : s.scrub = some x) (hjob : x.job = some job)
include hx hjob

/-- A walk that goes on (R168). -/
theorem State.scrubRest_goesOn (hleft : x.left ≠ 0) (hchain : s.chains[(3 : Fin 4)].st ≠ .stopped) : s.scrubRest = s := by
  have hgo : ¬(x.left = 0 ∨ s.chains[(3 : Fin 4)].st = .stopped) := fun h => h.elim hleft hchain
  simp only [State.scrubRest, hx, hjob]
  cases hstep : x.step with
  | some p => rfl
  | none => exact if_neg hgo

theorem State.scrubWalked_goesOn (hleft : 2 ≤ x.left) (hchain : s.chains[(3 : Fin 4)].st ≠ .stopped) (skipped : Bool) :
    s.scrubWalked skipped = { s with scrub := some (x.walks s.cat.geo.slots skipped) } := by
  have hmod : (s.modScrub fun x =>
      { x with
        walked := x.walked + 1, left := x.left - 1, next := if x.next + 1 < s.cat.geo.slots then x.next + 1 else 0
        skipped := if skipped then x.skipped + 1 else x.skipped, step := none }) =
      { s with scrub := some (x.walks s.cat.geo.slots skipped) } := by
    rw [State.modScrub, hx]
    rfl
  have hrest := State.scrubRest_goesOn (s := { s with scrub := some (x.walks s.cat.geo.slots skipped) }) (x := x.walks s.cat.geo.slots skipped)
    rfl hjob (Nat.sub_ne_zero_of_lt hleft) hchain
  exact (congrArg State.scrubRest hmod).trans hrest

end

/-! ## A slot is looked up -/

section
variable {s : State} {x : ScrubCtx}

theorem State.scrubSlot_free (h : s.cat.entry x.next = none) : s.scrubSlot x = s.scrubWalked false := by
  simp only [State.scrubSlot, h]

theorem State.scrubSlot_reads {e : Entry} {q : CopyName × Copy} {l : List (CopyName × Copy)} (h : s.cat.entry x.next = some e) (hlive : e.st = .live)
    (hrecent : s.recentlyVerified x.skipRecent e = false) (hcopies : s.presentCopies e = q :: l) :
    s.scrubSlot x = s.scrubReads x e (q :: l) := by
  have hgo : ¬(e.st ≠ .live ∨ s.recentlyVerified x.skipRecent e = true) := by
    rw [hlive, hrecent]
    exact fun h => h.elim (fun h => h rfl) nofun
  simp only [State.scrubSlot, h, if_neg hgo, hcopies]

/-- Copy A alone present: copy B, where there is one, is not read (R170). -/
theorem State.scrubCopies_a {e : Entry} (h : s.presentCopies e = [(.a, e.a)]) :
    e.copies.map s.scrubCopy =
      { copy := .a, loc := e.a.loc } :: (e.b.toList.map fun b => { copy := .b, loc := b.loc, verdict := .notRead }) := by
  have ha : s.present e.a = true := by
    have hmem : (CopyName.a, e.a) ∈ s.presentCopies e := by rw [h]; exact List.mem_singleton_self _
    simpa using (List.mem_filter.mp hmem).2
  cases hb : e.b with
  | none => simp only [Entry.copies, hb, List.map_cons, List.map_nil, State.scrubCopy, ha, if_true, Option.toList_none]
  | some b =>
    have hnot : s.present b = false := by
      refine Bool.eq_false_iff.mpr fun hpresent => ?_
      have hmem : (CopyName.b, b) ∈ s.presentCopies e := List.mem_filter.mpr ⟨by simp [Entry.copies, hb], hpresent⟩
      rw [h] at hmem
      exact absurd (congrArg Prod.fst (List.mem_singleton.mp hmem)) nofun
    simp only [Entry.copies, hb, List.map_cons, List.map_nil, State.scrubCopy, ha, hnot, if_true, Bool.false_eq_true, if_false,
      Option.toList_some]

end

theorem State.scrubReads_a {s : State} {x : ScrubCtx} {e : Entry} (hx : s.scrub = some x) (h : s.presentCopies e = [(.a, e.a)]) :
    s.scrubReads x e [(.a, e.a)] =
      { s with
        scrub := some
          { x with
            step := some
              { slot := x.next, key := e.key
                copies := { copy := .a, loc := e.a.loc } :: (e.b.toList.map fun b => { copy := .b, loc := b.loc, verdict := .notRead }) } }
        nextId := s.nextId + 1
        offers := s.offers ++
          [{ drive := e.a.loc.drive
             op := { id := s.nextId, cls := if x.wakeOk then .bulk else .background, kind := .chunkRead, first := e.a.loc.sector
                     count := sectorsOf e.key.len, owner := .scrubRead .a } }] } := by
  simp only [State.scrubReads, State.scrubCopies_a h, List.foldl_cons, List.foldl_nil, State.modScrub, hx, Option.map_some]
  rfl

/-! ## The plan of a step whose only copy was good -/

theorem State.present_setSlot (s : State) (i : Nat) (e : Option Entry) (x : Copy) : (s.modCat fun c => c.setSlot i e).present x = s.present x := by
  have hkept : (s.cat.setSlot i e).st = s.cat.st ∧ (s.cat.setSlot i e).boxId = s.cat.boxId := by
    unfold Cat.setSlot
    split
    · exact ⟨rfl, rfl⟩
    · split <;> exact ⟨rfl, rfl⟩
  obtain ⟨hst, hbox⟩ := hkept
  simp only [State.present, State.member, State.membership, State.modCat, hst, hbox, Cat.setSlot_geo]

/-- The part as a rewritten copy is GOOD again (R172). -/
def State.rewritten (s : State) (p : ScrubStep) (w : ScrubRewrite) (e : Entry) (x : ScrubCtx) : State :=
  let a := s.cat.au w.loc.drive (auOf w.loc.sector)
  { s with
    cat := (s.cat.setAuTested w.loc.drive (auOf w.loc.sector) { a with inFlight := a.inFlight - 1 }).setSlot p.slot
      (some { e with a := { loc := w.loc, st := .good } })
    repair := { s.repair with list := s.repair.list.filter fun y => !(y.slot == p.slot && y.copy == .a) }
    scrub := some { x with repaired := x.repaired + 1 } }

/-- One rewrite's part of a final update whose check has passed (R172). -/
theorem State.finalRewrite_done {s : State} {x : ScrubCtx} {p : ScrubStep} {w : ScrubRewrite} {e : Entry} (hx : s.scrub = some x)
    (hentry : s.cat.entry p.slot = some e) (hcopy : w.copy = .a) (hresult : w.result = some .done)
    (hepoch : s.drives[w.loc.drive].epoch = w.epoch) (hidle : s.repair.worker = .idle) :
    s.finalRewrite p true w = s.rewritten p w e x := by
  have hindex : (s.cat.applyRewrite w.loc .done).index = s.cat.index := Cat.setAuTested_index ..
  have hstands : (s.cat.applyRewrite w.loc .done).entry p.slot = some e := (congrFun (Cat.entry_of_index hindex) p.slot).trans hentry
  have hscrub : s.scrub.map (fun x => { x with repaired := x.repaired + 1 }) = some { x with repaired := x.repaired + 1 } := by
    rw [hx]
    rfl
  simp only [State.finalRewrite, hresult, Option.getD_some, hepoch, if_true, Bool.not_true, Bool.false_eq_true, if_false, State.modCat, hstands, hcopy,
    hidle, State.modScrub, State.dropRepair, hscrub]
  exact congrArg (fun k => { s.rewritten p w e x with repair := { (s.rewritten p w e x).repair with worker := k } }) hidle.symm

section
variable {s : State} {x : ScrubCtx} {p : ScrubStep} {e : Entry} {job : Nat} (hx : s.scrub = some x) (hjob : x.job = some job)
  (hleft : 2 ≤ x.left) (hchain : s.chains[(3 : Fin 4)].st ≠ .stopped) (hstep : x.step = some p) (hentry : s.cat.entry p.slot = some e)
  (hkey : e.key = p.key) (hlive : e.st = .live)
include hx hjob hleft hchain hstep hentry hkey hlive

theorem State.planScrub_good {today : Nat} (htoday : s.today = some today) (hgood : e.a.st = .good) (hb : e.b = none)
    (hpresent : s.present e.a = true) (hwanted : e.wanted = 1) (hcopies : p.copies = [{ copy := .a, loc := e.a.loc, verdict := .good }])
    (hrewrites : p.rewrites = []) (hmirror : p.mirror = none) :
    s.planScrub =
      { s with
        cat := s.cat.setSlot p.slot (some { e with day := today })
        scrub := some (x.walks s.cat.geo.slots false) } := by
  have hcheck : p.check s.cat = some e := by
    simp only [ScrubStep.check, hentry]
    refine if_pos ⟨hkey, hlive, ?_, ?_⟩
    · simp [ScrubStep.unmoved, hcopies, Entry.copy]
    · simp [hcopies, Entry.copy, CopyVerdict.wasRead, hgood]
  have hpresents : ∀ t : State, t.present e.a = true → ∀ day, t.presentCopies { e with day := day } = [(.a, e.a)] := fun t ht day => by
    simp only [State.presentCopies, Entry.copies, hb]
    exact List.filter_cons_of_pos ht
  have hnow : s.presentCopies e = [(.a, e.a)] := hpresents s hpresent e.day
  let t : State := s.modCat fun c => c.setSlot p.slot (some { e with day := today })
  have hpt : t.present e.a = true := (s.present_setSlot _ _ _).trans hpresent
  have hfew : ¬(t.presentCopies { e with day := today }).length < ({ e with day := today } : Entry).wanted := by
    rw [hpresents t hpt, show ({ e with day := today } : Entry).wanted = 1 from hwanted]
    exact Nat.lt_irrefl 1
  have hend : t.planEnd = t.scrubWalked false := by
    simp only [State.planEnd, show t.scrub = some x from hx, Option.bind_some, hstep, hrewrites, hmirror]
    rfl
  have hwalk := State.scrubWalked_goesOn (s := t) hx hjob hleft hchain false
  rw [show t.cat.geo = s.cat.geo from Cat.setSlot_geo ..] at hwalk
  have hbad : (p.copies.filterMap fun c => c.verdict.badReason.map fun r => (c, r)) = [] := by rw [hcopies]; rfl
  have hany : (p.copies.any fun c => c.verdict == .good) = true := by rw [hcopies]; rfl
  have hall : ((s.presentCopies e).all fun q =>
      p.copies.any fun c => c.copy == q.1 && (c.verdict == .good || c.verdict.badReason.isSome)) = true := by
    rw [hnow, hcopies]
    rfl
  simp only [State.planScrub, hx, hstep, hcheck, hbad, hany, hall, htoday, List.foldl_nil, List.isEmpty_nil, Bool.not_true, Bool.false_eq_true,
    and_false, and_self, if_true, if_false]
  rw [if_neg (by simpa using hfew)]
  exact hend.trans hwalk

/-! ## The final update of a rewritten copy -/

theorem State.updateScrub_rewritten {w : ScrubRewrite} {b : Copy} (hsuspect : e.a.st = .suspect) (hb : e.b = some b)
    (hcopies : p.copies = [{ copy := .a, loc := e.a.loc, verdict := .bad w.reason }, { copy := .b, loc := b.loc, verdict := .good }])
    (hrewrites : p.rewrites = [w]) (hmirror : p.mirror = none) (hcopy : w.copy = .a) (hloc : w.loc = e.a.loc) (hresult : w.result = some .done)
    (hepoch : s.drives[w.loc.drive].epoch = w.epoch) (hidle : s.repair.worker = .idle) :
    s.updateScrub =
      let a := s.cat.au w.loc.drive (auOf w.loc.sector)
      let c := s.cat.setAuTested w.loc.drive (auOf w.loc.sector) { a with inFlight := a.inFlight - 1 }
      { s with
        cat := c.setSlot p.slot (some { e with a := { loc := w.loc, st := .good } })
        repair := { s.repair with list := s.repair.list.filter fun y => !(y.slot == p.slot && y.copy == .a) }
        scrub := some { x.walks s.cat.geo.slots false with repaired := x.repaired + 1 } } := by
  have hcheck : p.checkFinal s.cat = some e := by
    simp only [ScrubStep.checkFinal, hentry]
    refine if_pos ⟨hkey, hlive, ?_, ?_, ?_⟩
    · simp [ScrubStep.unmoved, hcopies, Entry.copy, hb]
    · simp [hrewrites, hcopy, hloc, Entry.copy, hsuspect]
    · rw [hmirror]
      rfl
  have hfinal := State.finalRewrite_done (p := p) hx hentry hcopy hresult hepoch hidle
  let t : State := s.rewritten p w e x
  have ht : s.updateScrub = t.scrubWalked false := by
    simp only [State.updateScrub, hx, Option.bind_some, hstep, hcheck, Option.isSome_some, hrewrites, List.foldl_cons, List.foldl_nil, hfinal, hmirror,
      Bool.not_true]
    rfl
  have hwalk := State.scrubWalked_goesOn (s := t) (x := { x with repaired := x.repaired + 1 }) rfl hjob hleft hchain false
  have hgeo : t.cat.geo = s.cat.geo := (Cat.setSlot_geo ..).trans (Cat.setAu_geo ..)
  rw [hgeo] at hwalk
  exact ht.trans hwalk

end

/-- Settles O51. -/
theorem scrub : Obligations.Scrub := by
  intro s x job hp
  refine ⟨fun j start n skip wakeOk remirror hj hreq => ?job, fun hx hjob hleft hchain => ?_⟩
  case job =>
    obtain ⟨hp, hdis, hjob⟩ := hj
    have hm : s.mute.dispatched 3 = some j := hdis
    obtain ⟨id, chain, rec, notify, req, phase, fails⟩ := j
    obtain rfl : req = _ := hreq
    have hrow := run_ends (exec_scrub s) hp
    simp only [hm] at hrow
    refine ⟨fun hst => ?_, fun hst hbad => ?_, fun hst hstart hn hnone hchain => ?_⟩
    · exact Ends.of_eq hrow ((if_pos hst).trans (State.complete_reports hjob _))
    · exact Ends.of_eq hrow ((if_neg (not_not_intro hst)).trans ((if_pos hbad).trans (State.complete_reports hjob _)))
    · have hgood : ¬(s.mute.cat.geo.slots ≤ start ∨ n = 0) := fun h =>
        h.elim (Nat.not_le.mpr hstart) fun h => absurd hn (by omega)
      have hfree : ¬s.mute.scrub.isSome = true := by
        rw [show s.mute.scrub = none from hnone]
        exact nofun
      refine Ends.of_eq hrow ((if_neg (not_not_intro hst)).trans ((if_neg hgood).trans ((if_neg hfree).trans ?_)))
      refine State.scrubRest_goesOn (job := id) rfl rfl ?_ hchain
      have hslots : 0 < s.cat.geo.slots := Nat.two_pow_pos _
      exact (Nat.lt_min.mpr ⟨hn, hslots⟩).ne'
  have hlow : x.left ≠ 0 := by omega
  have hstepRow : x.step = none → Ends s .scrubSlotStep (s.mute.scrubSlot x) := fun hstep => by
    have hrow := run_ends (exec_scrubSlotStep s) hp
    have hm : s.mute.scrub = some x := hx
    simp only [hm] at hrow
    refine Ends.of_eq hrow ((if_neg (by rw [hstep]; exact nofun)).trans (if_neg ?_))
    rw [hjob]
    exact fun h => h.elim nofun fun h => h.elim hlow hchain
  intro walked
  refine ⟨fun hstep hentry => ?free, fun e hstep hentry hlive hrecent hcopies => ?reads,
    fun p e l hstep hentry hkey hlive hhold => ⟨fun today hq htoday hgood hb hpresent hwanted hcopies hrewrites hmirror => ?plan,
      fun w b hq hsuspect hb hpresent hcopies hrewrites hmirror hcopy hloc hresult hepoch hidle => ?update⟩⟩
  case free =>
    refine Ends.of_eq (hstepRow hstep) ((State.scrubSlot_free (s := s.mute) hentry).trans ?_)
    exact State.scrubWalked_goesOn (s := s.mute) hx hjob hleft hchain false
  case reads =>
    refine Ends.of_eq (hstepRow hstep) ((State.scrubSlot_reads (s := s.mute) hentry hlive hrecent hcopies).trans ?_)
    exact State.scrubReads_a (s := s.mute) hx hcopies
  case plan =>
    have hplan := State.planScrub_good (s := s.taking l) hx hjob hleft hchain hstep hentry hkey hlive htoday hgood hb hpresent hwanted hcopies hrewrites
      hmirror
    exact takeRequest_ends hp hq hhold hplan rfl
  case update =>
    have hupdate := State.updateScrub_rewritten (s := s.taking l) hx hjob hleft hchain hstep hentry hkey hlive hsuspect hb hcopies hrewrites hmirror hcopy
      hloc hresult hepoch hidle
    exact takeRequest_ends hp hq hhold hupdate rfl

end Sys2Proof.Machine

/-! # The image that LOAD takes (R118, R119): the candidates, and the drains of the loaded AU records -/

namespace Sys2Proof.Machine

/-! ## The candidates in their order -/

/-- The order in which headers are tried (R118). -/
def Candidate.notAfter (c d : Candidate) : Prop :=
  d.hdr.generation.toNat < c.hdr.generation.toNat ∨ (c.hdr.generation = d.hdr.generation ∧ c.drive ≤ d.drive)

theorem insertCandidate_perm (l : List Candidate) (c : Candidate) : (insertCandidate l c).Perm (c :: l) := by
  induction l with
  | nil => exact .refl _
  | cons x l ih =>
    rw [insertCandidate]
    split
    · exact .refl _
    · exact (ih.cons x).trans (.swap c x l)

theorem Candidate.notAfter_trans {c d e : Candidate} (hcd : c.notAfter d) (hde : d.notAfter e) : c.notAfter e := by
  obtain hcd | ⟨hcd, hdrive⟩ := hcd <;> obtain hde | ⟨hde, hdrive'⟩ := hde
  · exact .inl (Nat.lt_trans hde hcd)
  · exact .inl (hde ▸ hcd)
  · exact .inl (hcd ▸ hde)
  · exact .inr ⟨hcd.trans hde, Fin.le_trans hdrive hdrive'⟩

/-- A header that does not come before another one does not stand in front of it. -/
theorem Candidate.notAfter_of_not_before {x c : Candidate}
    (h : ¬(x.hdr.generation.toNat < c.hdr.generation.toNat ∨ (x.hdr.generation = c.hdr.generation ∧ c.drive.val < x.drive.val))) :
    x.notAfter c := by
  obtain ⟨hgen, hdrive⟩ := not_or.mp h
  obtain hlt | heq := Nat.lt_or_eq_of_le (Nat.le_of_not_lt hgen)
  · exact .inl hlt
  · have hsame : x.hdr.generation = c.hdr.generation := BitVec.eq_of_toNat_eq heq.symm
    exact .inr ⟨hsame, Nat.le_of_not_lt fun hlt => hdrive ⟨hsame, hlt⟩⟩

theorem insertCandidate_pairwise {l : List Candidate} (h : l.Pairwise Candidate.notAfter) (c : Candidate) :
    (insertCandidate l c).Pairwise Candidate.notAfter := by
  induction l with
  | nil => exact List.pairwise_singleton _ _
  | cons x l ih =>
    obtain ⟨hx, hl⟩ := List.pairwise_cons.mp h
    rw [insertCandidate]
    split
    · rename_i hbefore
      have hcx : c.notAfter x := hbefore.imp id fun ⟨hgen, hdrive⟩ => ⟨hgen.symm, Nat.le_of_lt hdrive⟩
      refine List.pairwise_cons.mpr ⟨fun y hy => ?_, h⟩
      obtain rfl | hy := List.mem_cons.mp hy
      · exact hcx
      · exact Candidate.notAfter_trans hcx (hx y hy)
    · rename_i hbefore
      refine List.pairwise_cons.mpr ⟨fun y hy => ?_, ih hl⟩
      obtain rfl | hy := List.mem_cons.mp ((insertCandidate_perm l c).mem_iff.mp hy)
      · exact Candidate.notAfter_of_not_before hbefore
      · exact hx y hy

theorem foldl_insertCandidate_perm (l : List Candidate) : ∀ k : List Candidate, (l.foldl insertCandidate k).Perm (l ++ k) := by
  induction l with
  | nil => exact fun k => .refl _
  | cons c l ih =>
    intro k
    exact (ih _).trans (((insertCandidate_perm k c).append_left l).trans List.perm_middle)

theorem foldl_insertCandidate_pairwise (l : List Candidate) :
    ∀ k : List Candidate, k.Pairwise Candidate.notAfter → (l.foldl insertCandidate k).Pairwise Candidate.notAfter := by
  induction l with
  | nil => exact fun k hk => hk
  | cons c l ih => exact fun k hk => ih _ (insertCandidate_pairwise hk c)

/-- The candidate of one header read (R118). -/
def LoadWork.found (w : LoadWork) (q : ImgSlot × Fin 2) : List Candidate :=
  (w.passing q.1 q.2).toList.map fun h => { drive := catDrive q.2, slot := q.1, hdr := h }

/-- The four header reads. -/
def headerReads : List (ImgSlot × Fin 2) := [(.a, 0), (.a, 1), (.b, 0), (.b, 1)]

theorem mem_headerReads (q : ImgSlot × Fin 2) : q ∈ headerReads := by
  obtain ⟨x, i⟩ := q
  cases x <;> fin_cases i <;> decide

theorem LoadWork.candidates_eq (w : LoadWork) : w.candidates = (headerReads.flatMap w.found).foldl insertCandidate [] := by
  unfold LoadWork.candidates headerReads
  simp only [List.flatMap_cons, List.flatMap_nil, List.append_nil, List.append_assoc, LoadWork.found]
  cases w.passing .a 0 <;> cases w.passing .a 1 <;> cases w.passing .b 0 <;> cases w.passing .b 1 <;> rfl

theorem LoadWork.candidates_perm (w : LoadWork) : w.candidates.Perm (headerReads.flatMap w.found) := by
  rw [w.candidates_eq]
  exact (foldl_insertCandidate_perm _ []).trans (by rw [List.append_nil])

theorem LoadWork.mem_found {w : LoadWork} {q : ImgSlot × Fin 2} {c : Candidate} :
    c ∈ w.found q ↔ c.drive = catDrive q.2 ∧ c.slot = q.1 ∧ w.passing q.1 q.2 = some c.hdr := by
  obtain ⟨d, y, h⟩ := c
  simp only [LoadWork.found, List.mem_map, Option.mem_toList, Candidate.mk.injEq]
  constructor
  · rintro ⟨k, hk, rfl, rfl, rfl⟩
    exact ⟨rfl, rfl, hk⟩
  · rintro ⟨rfl, rfl, hk⟩
    exact ⟨h, hk, rfl, rfl, rfl⟩

theorem LoadWork.found_disjoint (w : LoadWork) {q r : ImgSlot × Fin 2} (hqr : q ≠ r) : (w.found q).Disjoint (w.found r) := by
  intro c hq hr
  obtain ⟨hdq, hsq, _⟩ := mem_found.mp hq
  obtain ⟨hdr, hsr, _⟩ := mem_found.mp hr
  exact hqr (Prod.ext (hsq.symm.trans hsr) (Fin.castLE_injective _ (hdq.symm.trans hdr)))

theorem LoadWork.candidates_nodup (w : LoadWork) : w.candidates.Nodup := by
  refine w.candidates_perm.nodup_iff.mpr (List.nodup_flatMap.mpr ⟨fun q _ => ?_, ?_⟩)
  · rw [LoadWork.found]
    cases w.passing q.1 q.2 with
    | none => exact List.nodup_nil
    | some h => exact List.nodup_singleton _
  · have hnodup : headerReads.Nodup := by decide
    exact hnodup.imp w.found_disjoint

theorem LoadWork.candidates_ordered (w : LoadWork) : w.candidates.Pairwise Candidate.notAfter := by
  rw [w.candidates_eq]
  exact foldl_insertCandidate_pairwise _ _ .nil

/-- A header read that passed its check, as O43 lists the reads (R118). -/
theorem LoadWork.passed_iff (w : LoadWork) (d : Fin 4) (x : ImgSlot) (h : Header) :
    (∃ r, (d, x, HdrRead.read r) ∈ [((0 : Fin 4), ImgSlot.a, w.a0), (1, .a, w.a1), (0, .b, w.b0), (1, .b, w.b1)] ∧ checkHeader r = some h)
      ↔ ∃ i, d = catDrive i ∧ w.passing x i = some h := by
  have hread : ∀ x i, w.passing x i = some h ↔ ∃ r, HdrRead.read r = w.hdr x i ∧ checkHeader r = some h := fun x i => by
    unfold LoadWork.passing
    cases w.hdr x i <;> simp
  simp only [hread, List.mem_cons, List.not_mem_nil, or_false, Prod.mk.injEq]
  constructor
  · rintro ⟨r, ⟨rfl, rfl, hr⟩ | ⟨rfl, rfl, hr⟩ | ⟨rfl, rfl, hr⟩ | ⟨rfl, rfl, hr⟩, hc⟩
    · exact ⟨0, rfl, r, hr, hc⟩
    · exact ⟨1, rfl, r, hr, hc⟩
    · exact ⟨0, rfl, r, hr, hc⟩
    · exact ⟨1, rfl, r, hr, hc⟩
  · rintro ⟨i, rfl, r, hr, hc⟩
    refine ⟨r, ?_, hc⟩
    cases x <;> fin_cases i
    · exact .inl ⟨rfl, rfl, hr⟩
    · exact .inr (.inl ⟨rfl, rfl, hr⟩)
    · exact .inr (.inr (.inl ⟨rfl, rfl, hr⟩))
    · exact .inr (.inr (.inr ⟨rfl, rfl, hr⟩))

theorem LoadWork.mem_candidates (w : LoadWork) (c : Candidate) :
    c ∈ w.candidates ↔ ∃ i, c.drive = catDrive i ∧ w.passing c.slot i = some c.hdr := by
  rw [w.candidates_perm.mem_iff, List.mem_flatMap]
  constructor
  · rintro ⟨q, _, hc⟩
    obtain ⟨hd, hs, hp⟩ := mem_found.mp hc
    exact ⟨q.2, hd, hs ▸ hp⟩
  · rintro ⟨i, hd, hp⟩
    exact ⟨(c.slot, i), mem_headerReads _, mem_found.mpr ⟨hd, rfl, hp⟩⟩

/-! ## Marks -/

theorem mem_setPut {l : List Nat} {k p : Nat} : p ∈ setPut l k ↔ p = k ∨ p ∈ l := by
  induction l with
  | nil => simp [setPut]
  | cons i l ih =>
    rw [setPut]
    split
    · exact List.mem_cons
    · split
      · rename_i hki
        subst hki
        simp
      · simp only [List.mem_cons, ih]
        exact or_left_comm

theorem Marks.has_put (m : Marks) (k p : Nat) : (m.put k).has p = true ↔ p = k ∨ m.has p = true := by
  rw [Marks.put, Marks.has, Marks.has]
  cases hall : m.all with
  | true =>
    simp only [if_true, setErase, Bool.not_eq_true', List.contains_eq_mem, decide_eq_false_iff_not, List.mem_filter, decide_eq_true_eq]
    tauto
  | false =>
    simp only [Bool.false_eq_true, if_false, List.contains_eq_mem, decide_eq_true_eq]
    exact mem_setPut

/-! ## Drains -/

theorem AuRec.drain_drain (r : AuRec) (g : BitVec 64) : (r.drain g).drain g = r.drain g := by
  refine if_neg fun h => ?_
  by_cases hr : r.st = .sealed ∧ r.live = 0 ∧ r.inFlight = 0
  · have hst := h.1
    rw [AuRec.drain, if_pos hr] at hst
    split at hst <;> exact absurd hst nofun
  · rw [AuRec.drain, if_neg hr] at h
    exact hr h

theorem AuRec.drain_ne_iff (r : AuRec) (g : BitVec 64) : r.drain g ≠ r ↔ r.st = .sealed ∧ r.live = 0 ∧ r.inFlight = 0 := by
  rw [AuRec.drain]
  split
  · rename_i h
    refine iff_of_true (fun heq => ?_) h
    have hst := (congrArg AuRec.st heq).trans h.1
    split at hst <;> exact absurd hst nofun
  · rename_i h
    exact iff_of_false (fun hne => hne rfl) h

theorem Geometry.plainAu_drain (geo : Geometry) (d : Fin 4) (a : Nat) (g : BitVec 64) : (geo.plainAu d a).drain g = geo.plainAu d a := by
  refine if_neg fun h => ?_
  have hst := h.1
  rw [Geometry.plainAu] at hst
  split at hst <;> exact absurd hst nofun

/-- Two catalogues that differ in AU records and marks alone. -/
def Cat.sameApart (c k : Cat) : Prop := k = { c with aus := k.aus, marksA := k.marksA, marksB := k.marksB }

theorem Cat.sameApart.trans {c k m : Cat} (h : c.sameApart k) (h' : k.sameApart m) : c.sameApart m := by
  rw [Cat.sameApart] at h h' ⊢
  rw [h'.trans (congrArg (fun k : Cat => { k with aus := m.aus, marksA := m.marksA, marksB := m.marksB }) h)]

theorem Cat.sameApart.geo {c k : Cat} (h : c.sameApart k) : k.geo = c.geo := by
  rw [Cat.sameApart] at h
  rw [h]

theorem Cat.sameApart.generation {c k : Cat} (h : c.sameApart k) : k.generation = c.generation := by
  rw [Cat.sameApart] at h
  rw [h]
  rfl

theorem Cat.setAu_sameApart (c : Cat) (d : Fin 4) (a : Nat) (r : AuRec) : c.sameApart (c.setAu d a r) := by
  unfold Cat.setAu
  split
  · rfl
  · rfl

/-- An AU set marks its page for both slots, unless it had the record (R93, R105). -/
theorem Cat.marks_setAu (c : Cat) (d : Fin 4) (a : Nat) (r : AuRec) (x : ImgSlot) (p : Nat) :
    ((c.setAu d a r).marks x).has p = true ↔ (c.marks x).has p = true ∨ (p = c.geo.auPage d a ∧ r ≠ c.au d a) := by
  unfold Cat.setAu
  split
  · rename_i h
    simp [h]
  · rename_i h
    have hne : r ≠ c.au d a := fun heq => h heq.symm
    cases x with
    | a => exact (Marks.has_put c.marksA _ p).trans (or_comm.trans (or_congr_right (iff_self_and.mpr fun _ => hne)))
    | b => exact (Marks.has_put c.marksB _ p).trans (or_comm.trans (or_congr_right (iff_self_and.mpr fun _ => hne)))

theorem Cat.setAu_sorted {c : Cat} (h : ∀ d : Fin 4, tabSorted c.aus[d] = true) (d : Fin 4) (a : Nat) (r : AuRec) (f : Fin 4) :
    tabSorted (c.setAu d a r).aus[f] = true := by
  by_cases hf : f = d
  · subst hf
    obtain ⟨_, e⟩ | ⟨_, e⟩ | ⟨_, e⟩ := c.setAu_aus_same f a r <;> rw [e]
    · exact h f
    · exact tabSorted_erase _ _ (h f)
    · exact tabSorted_put _ _ _ (h f)
  · rw [c.setAu_aus_other hf]
    exact h f

/-- What draining some AUs makes of a catalogue: `P` says which. -/
structure Cat.drainedTo (c k : Cat) (P : Fin 4 → Nat → Prop) : Prop where
  same : c.sameApart k
  sorted : ∀ d : Fin 4, tabSorted k.aus[d] = true
  out : ∀ d a, ¬P d a → k.au d a = c.au d a
  into : ∀ d a, P d a → k.au d a = (c.au d a).drain c.generation
  marks : ∀ x p, (k.marks x).has p = true
    ↔ (c.marks x).has p = true ∨ ∃ d a, P d a ∧ p = c.geo.auPage d a ∧ (c.au d a).drain c.generation ≠ c.au d a

section
variable {c k m : Cat} {P Q : Fin 4 → Nat → Prop}

theorem Cat.drainedTo.refl (h : ∀ d : Fin 4, tabSorted c.aus[d] = true) : c.drainedTo c fun _ _ => False where
  same := rfl
  sorted := h
  out _ _ _ := rfl
  into _ _ hP := hP.elim
  marks x p := by simp

theorem Cat.drainedTo.trans (h : c.drainedTo k P) (h' : k.drainedTo m Q) : c.drainedTo m fun d a => P d a ∨ Q d a where
  same := h.same.trans h'.same
  sorted := h'.sorted
  out d a hPQ := (h'.out d a fun hQ => hPQ (.inr hQ)).trans (h.out d a fun hP => hPQ (.inl hP))
  into d a hPQ := by
    by_cases hP : P d a
    · by_cases hQ : Q d a
      · rw [h'.into d a hQ, h.into d a hP, h.same.generation, AuRec.drain_drain]
      · rw [h'.out d a hQ, h.into d a hP]
    · rw [h'.into d a (hPQ.resolve_left hP), h.out d a hP, h.same.generation]
  marks x p := by
    rw [h'.marks, h.marks, h.same.geo, h.same.generation, or_assoc]
    refine or_congr_right ⟨?_, ?_⟩
    · rintro (⟨d, a, hP, hp, hne⟩ | ⟨d, a, hQ, hp, hne⟩)
      · exact ⟨d, a, .inl hP, hp, hne⟩
      · refine ⟨d, a, .inr hQ, hp, ?_⟩
        by_cases hP : P d a
        · rw [h.into d a hP, AuRec.drain_drain] at hne
          exact absurd rfl hne
        · rwa [h.out d a hP] at hne
    · rintro ⟨d, a, hPQ, hp, hne⟩
      by_cases hP : P d a
      · exact .inl ⟨d, a, hP, hp, hne⟩
      · refine .inr ⟨d, a, hPQ.resolve_left hP, hp, ?_⟩
        rwa [h.out d a hP]

/-- AUs that do not drain may be added. -/
theorem Cat.drainedTo.mono (h : c.drainedTo k P) (hPQ : ∀ d a, P d a → Q d a)
    (hstays : ∀ d a, Q d a → ¬P d a → (c.au d a).drain c.generation = c.au d a) : c.drainedTo k Q where
  same := h.same
  sorted := h.sorted
  out d a hQ := h.out d a fun hP => hQ (hPQ d a hP)
  into d a hQ := by
    by_cases hP : P d a
    · exact h.into d a hP
    · rw [h.out d a hP, hstays d a hQ hP]
  marks x p := by
    rw [h.marks]
    refine or_congr_right ⟨fun ⟨d, a, hP, hp, hne⟩ => ⟨d, a, hPQ d a hP, hp, hne⟩, fun ⟨d, a, hQ, hp, hne⟩ => ?_⟩
    exact ⟨d, a, not_not.mp fun hP => hne (hstays d a hQ hP), hp, hne⟩

theorem Cat.drainedTo_setAuTested (h : ∀ d : Fin 4, tabSorted c.aus[d] = true) (d : Fin 4) (a : Nat) :
    c.drainedTo (c.setAuTested d a (c.au d a)) fun e b => e = d ∧ b = a where
  same := c.setAu_sameApart d a _
  sorted := Cat.setAu_sorted h d a _
  out e b hP := (Cat.au_setAu h d e a b _).trans (if_neg hP)
  into e b hP := by
    obtain ⟨rfl, rfl⟩ := hP
    exact (Cat.au_setAu h e e b b _).trans (if_pos ⟨rfl, rfl⟩)
  marks x p := by
    refine (c.marks_setAu d a _ x p).trans (or_congr_right ⟨fun ⟨hp, hne⟩ => ⟨d, a, ⟨rfl, rfl⟩, hp, hne⟩, ?_⟩)
    rintro ⟨_, _, ⟨rfl, rfl⟩, hp, hne⟩
    exact ⟨hp, hne⟩

theorem Cat.drainedTo_foldl (d : Fin 4) (l : List (Nat × AuRec)) :
    ∀ c : Cat, (∀ d : Fin 4, tabSorted c.aus[d] = true) →
      c.drainedTo (l.foldl (fun c p => c.setAuTested d p.1 (c.au d p.1)) c) fun e b => e = d ∧ b ∈ l.map Prod.fst := by
  induction l with
  | nil => exact fun c hc => (Cat.drainedTo.refl hc).mono (fun _ _ h => h.elim) fun _ _ h => absurd h.2 List.not_mem_nil
  | cons p l ih =>
    intro c hc
    have hone := Cat.drainedTo_setAuTested hc d p.1
    have hall := hone.trans (ih _ hone.sorted)
    refine hall.mono ?_ ?_
    · rintro e b (⟨he, hb⟩ | ⟨he, hb⟩)
      · exact ⟨he, List.mem_cons.mpr (.inl hb)⟩
      · exact ⟨he, List.mem_cons_of_mem _ hb⟩
    · rintro e b ⟨he, hb⟩ hnot
      obtain hb | hb := List.mem_cons.mp hb
      · exact absurd (.inl ⟨he, hb⟩) hnot
      · exact absurd (.inr ⟨he, hb⟩) hnot

/-- An AU that no table lists does not drain: the pass over the listed ones reaches every AU of the drive. -/
theorem Cat.drainedTo_drainLoaded (h : ∀ d : Fin 4, tabSorted c.aus[d] = true) (d : Fin 4) :
    c.drainedTo (c.drainLoaded d) fun e _ => e = d := by
  refine (Cat.drainedTo_foldl d c.aus[d] c h).mono (fun e b hP => hP.1) fun e b he hnot => ?_
  subst he
  have hplain : c.au e b = c.geo.plainAu e b := by
    rw [Cat.au, tabGet_not_listed fun hb => hnot ⟨rfl, hb⟩]
    rfl
  rw [hplain, Geometry.plainAu_drain]

theorem Cat.drainedTo_drives (l : List (Fin 4)) :
    ∀ c : Cat, (∀ d : Fin 4, tabSorted c.aus[d] = true) → c.drainedTo (l.foldl Cat.drainLoaded c) fun e _ => e ∈ l := by
  induction l with
  | nil => exact fun c hc => (Cat.drainedTo.refl hc).mono (fun _ _ h => h.elim) fun _ _ h => absurd h List.not_mem_nil
  | cons d l ih =>
    intro c hc
    have hone := Cat.drainedTo_drainLoaded hc d
    refine (hone.trans (ih _ hone.sorted)).mono (fun e b h => List.mem_cons.mpr h) fun e b he hnot => ?_
    exact absurd (List.mem_cons.mp he) hnot

end

end Sys2Proof.Machine

/-! # LOAD's image (R118, R119): the catalogue that is loaded, and the two commands that take an image -/

namespace Sys2Proof.Machine

/-! ## A table of the numbers of a list -/

section
variable {α : Type}

theorem tabGet_filterMap (f : Nat → Option α) (k : Nat) (ks : List Nat) :
    tabGet (ks.filterMap fun i => (f i).map fun v => (i, v)) k = if k ∈ ks then f k else none := by
  induction ks with
  | nil => rfl
  | cons i ks ih =>
    by_cases hik : i = k
    · subst hik
      rw [if_pos List.mem_cons_self]
      cases hf : f i with
      | none =>
        rw [List.filterMap_cons_none (by rw [hf]; rfl), ih, hf, ite_self]
      | some v =>
        rw [List.filterMap_cons_some (b := (i, v)) (by rw [hf]; rfl)]
        exact if_pos rfl
    · have hmem : k ∈ i :: ks ↔ k ∈ ks := by simp [Ne.symm hik]
      simp only [hmem]
      cases hf : f i with
      | none => rw [List.filterMap_cons_none (by rw [hf]; rfl), ih]
      | some v =>
        rw [List.filterMap_cons_some (b := (i, v)) (by rw [hf]; rfl)]
        exact (if_neg hik).trans ih

theorem tabSorted_filterMap (f : Nat → Option α) {ks : List Nat} (h : ks.Pairwise (· < ·)) :
    tabSorted (ks.filterMap fun i => (f i).map fun v => (i, v)) = true := by
  induction ks with
  | nil => rfl
  | cons i ks ih =>
    obtain ⟨hi, hks⟩ := List.pairwise_cons.mp h
    cases hf : f i with
    | none =>
      rw [List.filterMap_cons_none (by rw [hf]; rfl)]
      exact ih hks
    | some v =>
      rw [List.filterMap_cons_some (b := (i, v)) (by rw [hf]; rfl)]
      refine (tabSorted_cons ..).mpr ⟨fun p hp => ?_, ih hks⟩
      obtain ⟨k, hk, hpk⟩ := List.mem_filterMap.mp hp
      obtain ⟨v, _, rfl⟩ := Option.map_eq_some_iff.mp hpk
      exact hi k hk

end

/-! ## The catalogue of an image -/

theorem imageAus_eq (g : Geometry) (bytes : List Byte) (d : Fin 4) :
    imageAus g bytes d = (List.range g.au[d]).filterMap fun a =>
      (if loadedAu bytes (4096 * g.indexPages) (g.ausBefore d + a) = g.plainAu d a then none
        else some (loadedAu bytes (4096 * g.indexPages) (g.ausBefore d + a))).map fun v => (a, v) := by
  refine congrArg (fun f => (List.range g.au[d]).filterMap f) (funext fun a => ?_)
  rw [apply_ite (Option.map fun v => (a, v))]
  rfl

/-- The catalogue of an image before the test of R98. -/
def LoadWork.image (w : LoadWork) (c : Candidate) : Cat :=
  let step := #v[w.inStep c 0, w.inStep c 1]
  let both := #v[true, true]
  let base : Cat :=
    { st := .ready, boxId := c.hdr.boxId, geo := c.hdr.geo, index := imageIndex c.hdr.geo w.bytes
      aus := Vector.ofFn fun d => imageAus c.hdr.geo w.bytes d
      stale := #v[c.hdr.stale0, c.hdr.stale1], lastTime := c.hdr.time }
  if c.slot = .a then { base with marksB := { all := true }, genA := c.hdr.generation, inStepA := step, inStepB := both }
  else { base with marksA := { all := true }, genB := c.hdr.generation, inStepA := both, inStepB := step }

theorem LoadWork.loaded_eq (w : LoadWork) (c : Candidate) : w.loaded c = drives4.foldl Cat.drainLoaded (w.image c) := by
  obtain ⟨d, x, h⟩ := c
  cases x <;> rfl

section
variable (w : LoadWork) (c : Candidate)

theorem LoadWork.image_geo : (w.image c).geo = c.hdr.geo := by
  unfold LoadWork.image
  split <;> rfl

theorem LoadWork.image_aus (d : Fin 4) : (w.image c).aus[d] = imageAus c.hdr.geo w.bytes d := by
  unfold LoadWork.image
  split <;> simp

theorem LoadWork.image_generation : (w.image c).generation = c.hdr.generation := by
  unfold LoadWork.image
  split
  · exact if_neg (Nat.not_lt_zero _)
  · refine (ite_eq_left_iff.mpr fun h => ?_)
    exact (BitVec.eq_of_toNat_eq (Nat.eq_zero_of_not_pos h)).symm

theorem LoadWork.image_sorted (d : Fin 4) : tabSorted (w.image c).aus[d] = true := by
  rw [w.image_aus, imageAus_eq]
  exact tabSorted_filterMap _ List.pairwise_lt_range

theorem LoadWork.image_au_listed {d : Fin 4} {a : Nat} (ha : a < c.hdr.geo.au[d]) :
    (w.image c).au d a = loadedAu w.bytes (4096 * c.hdr.geo.indexPages) (c.hdr.geo.ausBefore d + a) := by
  rw [Cat.au, w.image_aus, w.image_geo, imageAus_eq, tabGet_filterMap, if_pos (List.mem_range.mpr ha)]
  split
  · rename_i h
    exact h.symm
  · rfl

theorem LoadWork.image_au_plain {d : Fin 4} {a : Nat} (ha : ¬a < c.hdr.geo.au[d]) : (w.image c).au d a = c.hdr.geo.plainAu d a := by
  rw [Cat.au, w.image_aus, w.image_geo, imageAus_eq, tabGet_filterMap, if_neg fun h => ha (List.mem_range.mp h)]
  rfl

theorem LoadWork.loaded_drained : (w.image c).drainedTo (w.loaded c) fun _ _ => True := by
  rw [w.loaded_eq]
  refine (Cat.drainedTo_drives drives4 _ (w.image_sorted c)).mono (fun _ _ _ => trivial) fun d _ _ hd => ?_
  exact absurd (by fin_cases d <;> decide) hd

theorem LoadWork.loaded_entry (i : Nat) :
    (w.loaded c).entry i = if i < 2 ^ c.hdr.e then Config.slotOfBytes ((w.bytes.drop (32 * i)).take 32) else none := by
  have hindex : (w.loaded c).index = imageIndex c.hdr.geo w.bytes := by
    have hsame : w.loaded c = _ := (w.loaded_drained c).same
    rw [hsame, LoadWork.image]
    split <;> rfl
  rw [Cat.entry, hindex, imageIndex]
  refine (tabGet_filterMap (fun i => Config.slotOfBytes ((w.bytes.drop (32 * i)).take 32)) i _).trans ?_
  simp only [List.mem_range]
  rfl

theorem LoadWork.image_marks_slot (p : Nat) : ((w.image c).marks c.slot).has p = false := by
  unfold LoadWork.image
  split
  · rename_i h
    rw [h]
    rfl
  · rename_i h
    obtain hb : c.slot = .b := by cases hx : c.slot with
      | a => exact absurd hx h
      | b => rfl
    rw [hb]
    rfl

theorem LoadWork.image_marks_other (p : Nat) : ((w.image c).marks (if c.slot = .a then .b else .a)).has p = true := by
  unfold LoadWork.image
  split <;> rfl

theorem LoadWork.inStep_iff (i : Fin 2) :
    w.inStep c i = true
      ↔ ∃ h, (∃ k, catDrive i = catDrive k ∧ w.passing c.slot k = some h) ∧ h.generation = c.hdr.generation ∧ h.imageCrc = c.hdr.imageCrc := by
  unfold LoadWork.inStep
  have hone : ∀ h, (∃ k, catDrive i = catDrive k ∧ w.passing c.slot k = some h) ↔ w.passing c.slot i = some h := fun h =>
    ⟨fun ⟨k, hk, hp⟩ => Fin.castLE_injective _ hk ▸ hp, fun hp => ⟨i, rfl, hp⟩⟩
  simp only [hone]
  cases w.passing c.slot i with
  | none => simp
  | some h => simp

theorem LoadWork.loaded_inStep (i : Fin 2) :
    (if c.slot = .a then (w.loaded c).inStepA[i] else (w.loaded c).inStepB[i]) = w.inStep c i
      ∧ (if c.slot = .a then (w.loaded c).inStepB[i] else (w.loaded c).inStepA[i]) = true := by
  have hsame : w.loaded c = _ := (w.loaded_drained c).same
  rw [hsame]
  unfold LoadWork.image
  split
  · fin_cases i <;> exact ⟨rfl, rfl⟩
  · fin_cases i <;> exact ⟨rfl, rfl⟩

end

/-- The AUs of the drive slots before one, as a sum. -/
theorem Header.ausBefore_eq (h : Header) (d : Fin 4) :
    h.geo.ausBefore d = ((drives4.filter fun k => decide (k < d)).map fun k => h.au[k]).sum := by
  fin_cases d
  · rfl
  · rfl
  · exact (Nat.add_zero _)
  · exact (Nat.add_assoc ..)

/-- A record as LOAD takes it is the image's eight bytes with no write in flight (R92). -/
theorem Header.loadedAu_eq (h : Header) (bytes : List Byte) (d : Fin 4) (a : Nat) :
    loadedAu bytes (4096 * h.geo.indexPages) (h.geo.ausBefore d + a) =
      { Config.auOfBytes ((bytes.drop (4096 * (2 ^ h.e / 128)
          + 8 * (((drives4.filter fun k => decide (k < d)).map fun k => h.au[k]).sum + a))).take 8) with inFlight := 0 } := by
  rw [h.ausBefore_eq]
  rfl

/-- An AU of the image drains when it is SEALED with live 0 (R98). -/
theorem AuRec.drain_ne_of_still {r : AuRec} (h : r.inFlight = 0) (g : BitVec 64) : r.drain g ≠ r ↔ r.st = .sealed ∧ r.live = 0 := by
  rw [AuRec.drain_ne_iff]
  exact and_congr_right fun _ => and_iff_left h

theorem LoadWork.loaded_au (w : LoadWork) (c : Candidate) {d : Fin 4} {a : Nat} (ha : a < c.hdr.geo.au[d]) :
    (w.loaded c).au d a
      = (loadedAu w.bytes (4096 * c.hdr.geo.indexPages) (c.hdr.geo.ausBefore d + a)).drain c.hdr.generation := by
  rw [(w.loaded_drained c).into d a trivial, w.image_au_listed c ha, w.image_generation]

/-- The marks of the slot that was loaded are the pages of the AUs that drain (R105). -/
theorem LoadWork.loaded_marks_slot (w : LoadWork) (c : Candidate) (p : Nat) :
    ((w.loaded c).marks c.slot).has p = true
      ↔ ∃ (d : Fin 4) (a : Nat), a < c.hdr.geo.au[d] ∧ p = c.hdr.geo.auPage d a
          ∧ (loadedAu w.bytes (4096 * c.hdr.geo.indexPages) (c.hdr.geo.ausBefore d + a)).st = .sealed
          ∧ (loadedAu w.bytes (4096 * c.hdr.geo.indexPages) (c.hdr.geo.ausBefore d + a)).live = 0 := by
  rw [(w.loaded_drained c).marks, w.image_marks_slot, w.image_geo, w.image_generation]
  simp only [Bool.false_eq_true, false_or, true_and]
  constructor
  · rintro ⟨d, a, hp, hne⟩
    by_cases ha : a < c.hdr.geo.au[d]
    · rw [w.image_au_listed c ha] at hne
      exact ⟨d, a, ha, hp, (AuRec.drain_ne_of_still rfl _).mp hne⟩
    · rw [w.image_au_plain c ha] at hne
      exact absurd (Geometry.plainAu_drain ..) hne
  · rintro ⟨d, a, ha, hp, hdrains⟩
    refine ⟨d, a, hp, ?_⟩
    rw [w.image_au_listed c ha]
    exact (AuRec.drain_ne_of_still rfl _).mpr hdrains

/-! ## The tried image -/

theorem Candidate.result_eq (c : Candidate) :
    c.result = { aux := if c.slot = .a then 0 else 1, w0 := c.hdr.generation.setWidth 32
                 w1 := (c.hdr.generation >>> 32).setWidth 32, w2 := BitVec.ofNat 32 c.drive.val } := by
  obtain ⟨d, x, h⟩ := c
  cases x <;> rfl

section
variable {s : State} {j : Job}

theorem State.tryImage_none (hjob : s.job j.id = some j) {w : LoadWork} (h : w.cands = []) :
    s.mute.tryImage j.id w = { s.reports j { status := .noValidImage, w2 := BitVec.ofNat 32 w.passed } with cat := {} } := by
  obtain ⟨stage, waiting, a0, a1, b0, b1, bAsked, cands, passed, reads, bytes, bad⟩ := w
  obtain rfl : cands = _ := h
  exact State.complete_reports (s := { s with cat := {} }) hjob _

theorem State.tryImage_some {w : LoadWork} {c : Candidate} {l : List Candidate} (h : w.cands = c :: l) :
    s.mute.tryImage j.id w =
      { s.goesTo j
          (.loading { w with stage := .image, reads := (wholeRuns c.hdr.geo.pages).length, bytes := [], bad := false }) [] with
        nextId := s.nextId + (wholeRuns c.hdr.geo.pages).length
        offers := s.offers ++ (wholeRuns c.hdr.geo.pages).zipIdx.map fun p =>
          { drive := c.drive
            op := { id := s.nextId + p.2, cls := .bulk, kind := .areaRead
                    first := c.hdr.geo.slotSector c.slot + 1 + p.1.1, count := p.1.2, owner := .loadPage } } } := by
  obtain ⟨stage, waiting, a0, a1, b0, b1, bAsked, cands, passed, reads, bytes, bad⟩ := w
  obtain rfl : cands = _ := h
  exact State.foldl_offer c.drive .bulk .areaRead (fun _ r => c.hdr.geo.slotSector c.slot + 1 + r.1) Prod.snd .loadPage
    (fun _ _ => []) _ _

/-- The next candidate's image is read from the same work: LOAD stays at its images. -/
theorem State.tryImage_next {w : LoadWork} {l m : List Candidate} {d : Candidate} (hstage : w.stage = .image) (hl : l = d :: m) :
    s.mute.tryImage j.id { w with cands := l } =
      { s.goesTo j
          (.loading { w with cands := d :: m, reads := (wholeRuns d.hdr.geo.pages).length, bytes := [], bad := false }) [] with
        nextId := s.nextId + (wholeRuns d.hdr.geo.pages).length
        offers := s.offers ++ (wholeRuns d.hdr.geo.pages).zipIdx.map fun p =>
          { drive := d.drive
            op := { id := s.nextId + p.2, cls := .bulk, kind := .areaRead
                    first := d.hdr.geo.slotSector d.slot + 1 + p.1.1, count := p.1.2, owner := .loadPage } } } := by
  subst hl
  rw [State.tryImage_some (w := { w with cands := d :: m }) rfl]
  simp only [hstage]

end

/-! ## The obligation -/

/-- Settles O43. -/
theorem loadImage : Obligations.LoadImage := by
  refine ⟨fun w => ?image, fun s j w ⟨hp, hjob⟩ hload => ⟨fun hread => ?headers, fun c l hstage hreads hcands => ?done⟩⟩
  case image =>
    intro reads passed
    have hpassed : ∀ d x h, passed d x h ↔ ∃ i, d = catDrive i ∧ w.passing x i = some h := w.passed_iff
    refine ⟨fun c => (w.mem_candidates c).trans (hpassed _ _ _).symm, w.candidates_nodup, w.candidates_ordered, fun c => ?_⟩
    intro cat slots before kept drains other
    have hkept : ∀ d a, loadedAu w.bytes (4096 * c.hdr.geo.indexPages) (c.hdr.geo.ausBefore d + a) = kept d a :=
      fun d a => c.hdr.loadedAu_eq w.bytes d a
    have hpage : ∀ d a, c.hdr.geo.auPage d a = slots / 128 + (before d + a) / 512 := fun d a =>
      congrArg (fun n => slots / 128 + (n + a) / 512) (c.hdr.ausBefore_eq d)
    have hsame : cat = { w.image c with aus := cat.aus, marksA := cat.marksA, marksB := cat.marksB } := (w.loaded_drained c).same
    have hgens : (cat.genA, cat.genB) = (if c.slot = .a then (c.hdr.generation, 0) else (0, c.hdr.generation)) := by
      rw [hsame, LoadWork.image]
      split <;> rfl
    have hfixed : cat.st = .ready ∧ cat.boxId = c.hdr.boxId ∧ cat.geo = { e := c.hdr.e, h := c.hdr.h, au := c.hdr.au, c := c.hdr.c }
        ∧ cat.stale = #v[c.hdr.stale0, c.hdr.stale1] ∧ cat.lastTime = c.hdr.time
        ∧ cat.collisions = 0 ∧ cat.unindexed = 0 ∧ cat.accounting = 0 ∧ cat.overflows = 0 := by
      rw [hsame, LoadWork.image]
      split <;> exact ⟨rfl, rfl, rfl, rfl, rfl, rfl, rfl, rfl, rfl⟩
    obtain ⟨hst, hbox, hgeo, hstale, htime, hcounts⟩ := hfixed
    obtain ⟨hcollisions, hunindexed, haccounting, hoverflows⟩ := hcounts
    have hgeneration : cat.generation = c.hdr.generation := (w.loaded_drained c).same.generation.trans (w.image_generation c)
    refine ⟨hst, hbox, hgeo, hstale, htime, hgeneration, hgens, hcollisions, hunindexed, haccounting, hoverflows,
      w.loaded_entry c, fun d a ha => ?_, fun p => ⟨?_, ?_⟩, fun i => ?_⟩
    · have hau : cat.au d a = (kept d a).drain c.hdr.generation := (w.loaded_au c ha).trans (by rw [hkept])
      exact ⟨fun hno => hau.trans (if_neg fun h => hno ⟨h.1, h.2.1⟩), fun ⟨hst, hlive⟩ => hau.trans (if_pos ⟨hst, hlive, rfl⟩)⟩
    · exact ((w.loaded_drained c).marks _ p).mpr (.inl (w.image_marks_other c p))
    · have hmarks := w.loaded_marks_slot c p
      simp only [hkept, hpage] at hmarks
      exact hmarks
    · obtain ⟨hloaded, hother⟩ := w.loaded_inStep c i
      refine ⟨(Iff.of_eq (congrArg (· = true) hloaded)).trans ((w.inStep_iff c i).trans ?_), hother⟩
      simp only [hpassed]
  case headers =>
    have hrow := run_ends (exec_loadHeadersRead s) hp
    have hm : s.mute.loadJob = some (j.id, w) := hload
    simp only [hm, hread, if_true] at hrow
    refine ⟨fun hnone => Ends.of_eq hrow ?_, fun c l hcands => ?_⟩
    · refine (State.tryImage_none hjob (w := { w with cands := w.candidates, passed := w.candidates.length }) hnone).trans ?_
      rw [hnone]
      rfl
    · intro runs
      refine Ends.of_eq hrow ?_
      have htry := State.tryImage_some (s := s) (j := j)
        (w := { w with cands := w.candidates, passed := w.candidates.length }) hcands
      rw [hcands] at htry ⊢
      exact htry
  case done =>
    have hrow := run_ends (exec_loadImageReadDone s) hp
    have hm : s.mute.loadJob = some (j.id, w) := hload
    simp only [hm, hcands] at hrow
    have hgo : ¬(w.stage ≠ .image ∨ w.reads ≠ 0) := by simp [hstage, hreads]
    refine ⟨fun hgood hcrc => ?_, fun hbad => ?_⟩
    · have hfine : (!w.bad) = true ∧ crc32 w.bytes = c.hdr.imageCrc := ⟨by rw [hgood]; rfl, hcrc⟩
      refine Ends.of_eq hrow ((if_neg hgo).trans ((if_pos hfine).trans ?_))
      refine (State.complete_reports (s := { s with cat := w.loaded c }) hjob _).trans ?_
      rw [c.result_eq]
      rfl
    · have hnot : ¬((!w.bad) = true ∧ crc32 w.bytes = c.hdr.imageCrc) := fun ⟨hgood, hcrc⟩ =>
        hbad.elim (fun h => by rw [h] at hgood; cases hgood) fun h => h hcrc
      have hnext := Ends.of_eq hrow ((if_neg hgo).trans (if_neg hnot))
      refine ⟨fun hl => Ends.of_eq hnext ?_, fun d m hl => ?_⟩
      · exact State.tryImage_none hjob (w := { w with cands := l }) hl
      · intro runs
        exact Ends.of_eq hnext (State.tryImage_next hstage hl)

end Sys2Proof.Machine

/-! # The clock stays

The counter, its flag and the alarm slots are set by CLOCK_TICK, SET_CLOCK, SET_ALARM, a fired slot and the cold start alone. The
settling of the drives comes to every part of the model that an ended operation is for, so what it keeps is said function by
function, in the order of the model: one lemma each, which the lemmas of its callers use. -/

namespace Sys2Proof.Machine

section
variable (s : State)

/-! ## The jobs and the drives -/

/-- What keeps the clock at every element keeps it over a list. -/
@[simp] theorem foldl_clock {α : Type} {f : State → α → State} (h : ∀ s x, (f s x).clock = s.clock) (l : List α) (s : State) :
    (l.foldl f s).clock = s.clock := by
  induction l generalizing s with
  | nil => rfl
  | cons x l ih => exact (ih _).trans (h s x)

@[simp] theorem State.complete_clock (id : Nat) (r : Result) : (s.complete id r).clock = s.clock := by
  unfold State.complete
  split <;> simp

theorem State.place_clock {s t : State} {n : Nat} {exclude : List (Fin 4)} {readyOnly : Bool} {l : Loc}
    (h : s.place n exclude readyOnly = some (l, t)) : t.clock = s.clock := by
  unfold State.place at h
  split at h
  · cases h
  · obtain ⟨_, rfl⟩ := Prod.mk.inj (Option.some.inj h)
    rfl

@[simp] theorem State.withdraw_clock (p : Fin 4 → Op → Bool) : (s.withdraw p).clock = s.clock := rfl

@[simp] theorem State.portIssue_clock (d : Fin 4) (u : PortUse) (c : DriveCmd) : (s.portIssue d u c).clock = s.clock := rfl

@[simp] theorem State.issueNext_clock (d : Fin 4) : (s.issueNext d).clock = s.clock := by
  unfold State.issueNext
  split <;> simp

@[simp] theorem State.startupNext_clock (d : Fin 4) (u : Startup) : (s.startupNext d u).clock = s.clock := by
  unfold State.startupNext
  repeat' split
  all_goals simp

@[simp] theorem State.kickPort_clock (d : Fin 4) : (s.kickPort d).clock = s.clock := by
  unfold State.kickPort
  dsimp only
  repeat' split
  all_goals simp

@[simp] theorem State.syncRequest_clock (d : Fin 4) : (s.syncRequest d).clock = s.clock := by
  unfold State.syncRequest
  split <;> simp

@[simp] theorem State.syncQueue_clock : s.syncQueue.clock = s.clock :=
  foldl_clock (fun _ _ => by simp) _ s

@[simp] theorem State.grant_clock (d : Fin 4) : (s.grant d).clock = s.clock := by
  unfold State.grant
  split <;> simp

@[simp] theorem State.grantLoop_clock (n : Nat) : (State.grantLoop n s).clock = s.clock := by
  induction n generalizing s with
  | zero => rfl
  | succ n ih =>
    unfold State.grantLoop
    split
    · rfl
    · split <;> simp [ih]

@[simp] theorem State.powerOff_clock (d : Fin 4) : (s.powerOff d).clock = s.clock := rfl

@[simp] theorem State.makeStandby_clock (d : Fin 4) : (s.makeStandby d).clock = s.clock := rfl

@[simp] theorem State.raiseDemand_clock (d : Fin 4) (b : DemandBy) : (s.raiseDemand d b).clock = s.clock := by
  simp only [State.raiseDemand, apply_ite State.clock]
  split <;> simp

/-! ## Checkpoints -/

@[simp] theorem State.modCkpt_clock (f : Ckpt → Ckpt) : (s.modCkpt f).clock = s.clock := rfl

@[simp] theorem State.answerAdopt_clock (ok : Bool) : (s.answerAdopt ok).clock = s.clock := by
  unfold State.answerAdopt
  split <;> simp [apply_ite State.clock]

@[simp] theorem State.modSeq_clock (f : Seq → Seq) : (s.modSeq f).clock = s.clock := rfl

@[simp] theorem State.answer_clock (q : CkptReq) (ok : Bool) (mask : Nat) (x : ImgSlot) : (s.answer q ok mask x).clock = s.clock := by
  unfold State.answer
  repeat' split
  all_goals simp

@[simp] theorem State.answerAll_clock (l : List CkptReq) (ok : Bool) (mask : Nat) (x : ImgSlot) :
    (s.answerAll l ok mask x).clock = s.clock :=
  foldl_clock (fun _ _ => by simp) _ s

@[simp] theorem State.ckptAsk_clock : s.ckptAsk.clock = s.clock := by
  unfold State.ckptAsk
  split <;> simp [apply_ite State.clock]

@[simp] theorem State.beginCkpt_clock (l : List CkptReq) : (s.beginCkpt l).clock = s.clock := by
  unfold State.beginCkpt
  dsimp only
  repeat' split
  all_goals simp

@[simp] theorem State.requestCkpt_clock (q : CkptReq) : (s.requestCkpt q).clock = s.clock := by
  unfold State.requestCkpt
  split
  · simp
  · split <;> simp

@[simp] theorem State.requestCkptAdopt_clock : s.requestCkptAdopt.clock = s.clock := by
  unfold State.requestCkptAdopt
  split <;> simp

@[simp] theorem State.ckptFailDrive_clock (i : Fin 2) : (s.ckptFailDrive i).clock = s.clock := rfl

@[simp] theorem State.ckptAdvance_clock (c : Ckpt) (i : Fin 2) : (s.ckptAdvance c i).clock = s.clock := by
  unfold State.ckptAdvance
  split <;> simp [apply_ite State.clock]

@[simp] theorem State.ckptOp_clock (i : Fin 2) (r : OpOutcome) : (s.ckptOp i r).clock = s.clock := by
  unfold State.ckptOp
  repeat' split
  all_goals simp

/-! ## The streams -/

@[simp] theorem State.cut_clock (n : Fin 8) : (s.cut n).clock = s.clock := rfl

@[simp] theorem State.cutOrHold_clock (n : Fin 8) : (s.cutOrHold n).clock = s.clock := by
  unfold State.cutOrHold
  split <;> simp

@[simp] theorem State.makeHeld_clock (n : Fin 8) : (s.makeHeld n).clock = s.clock := by
  unfold State.makeHeld
  split <;> simp

@[simp] theorem State.takeBytes_clock (n : Fin 8) (l : List Byte) : (s.takeBytes n l).1.clock = s.clock := by
  induction l generalizing s with
  | nil => rfl
  | cons b l ih =>
    unfold State.takeBytes
    split
    · rfl
    · simp [ih, apply_ite State.clock]

@[simp] theorem State.modWork_clock (id : Nat) (f : StreamWork → StreamWork) : (s.modWork id f).clock = s.clock := by
  unfold State.modWork
  split <;> simp

@[simp] theorem State.modOwner_clock (o : Option Nat) (f : StreamWork → StreamWork) : (s.modOwner o f).clock = s.clock := by
  unfold State.modOwner
  split <;> simp

@[simp] theorem State.modChunk_clock (n : Fin 8) (id : Nat) (f : Chunk → Chunk) : (s.modChunk n id f).clock = s.clock := rfl

@[simp] theorem State.rewindBefore_clock (n : Fin 8) (id : Nat) : (s.rewindBefore n id).clock = s.clock := rfl

@[simp] theorem State.resolveNext_clock (n : Fin 8) : (s.resolveNext n).clock = s.clock := by
  unfold State.resolveNext
  dsimp only
  repeat' split
  all_goals simp

@[simp] theorem State.issueRef_clock (n : Fin 8) (c : Chunk) (r : Ref) : (s.issueRef n c r).clock = s.clock := by
  unfold State.issueRef
  split
  · simp
  · split <;> simp

@[simp] theorem State.feedComplete_clock (id : Nat) : (s.feedComplete id).clock = s.clock := by
  unfold State.feedComplete
  split
  · simp
  · split <;> simp

@[simp] theorem State.finishNow_clock (n : Fin 8) (c : Chunk) (o : ChunkOutcome) : (s.finishNow n c o).clock = s.clock := by
  unfold State.finishNow
  dsimp only
  split <;> simp

@[simp] theorem State.tryFinish_clock (n : Fin 8) (id : Nat) : (s.tryFinish n id).clock = s.clock := by
  unfold State.tryFinish
  dsimp only
  repeat' split
  all_goals simp

@[simp] theorem State.decideChunk_clock (n : Fin 8) (id : Nat) (o : ChunkOutcome) (f : Ref) : (s.decideChunk n id o f).clock = s.clock := by
  simp [State.decideChunk]

@[simp] theorem State.startFeed_clock (n : Fin 8) (id : Nat) (w : StreamWork) : (s.startFeed n id w).clock = s.clock := rfl

@[simp] theorem State.startClose_clock (n : Fin 8) (id : Nat) (w : StreamWork) : (s.startClose n id w).clock = s.clock := by
  unfold State.startClose
  split <;> simp [apply_ite State.clock]

@[simp] theorem State.streamClosed_clock (n : Fin 8) : (s.streamClosed n).clock = s.clock := by
  unfold State.streamClosed
  dsimp only
  repeat' split
  all_goals simp

@[simp] theorem State.handOver_clock (n : Fin 8) (id : Nat) : (s.handOver n id).clock = s.clock := by
  simp [State.handOver]

@[simp] theorem State.headJob_clock (n : Fin 8) (j : Job) : (s.headJob n j).clock = s.clock := by
  unfold State.headJob
  repeat' split
  all_goals simp

theorem State.listAdvance_clock {s t : State} {n : Fin 8} (h : s.listAdvance n = some t) : t.clock = s.clock := by
  unfold State.listAdvance at h
  dsimp only at h
  repeat' split at h
  all_goals
    cases h
    try simp

@[simp] theorem State.pump_clock (n : Fin 8) : (s.pump n).clock = s.clock := by
  unfold State.pump
  repeat' split
  all_goals simp

@[simp] theorem State.streamWork_clock (n : Fin 8) : (s.streamWork n).clock = s.clock := by
  simp [State.streamWork]

@[simp] theorem State.settleLoop_clock (k : Nat) (n : Fin 8) : (State.settleLoop k n s).clock = s.clock := by
  induction k generalizing s with
  | zero => rfl
  | succ k ih =>
    unfold State.settleLoop
    dsimp only
    split
    · simp
    · rename_i h
      rw [ih, State.listAdvance_clock h, State.streamWork_clock]

@[simp] theorem State.settleStream_clock (n : Fin 8) : (s.settleStream n).clock = s.clock := by
  simp [State.settleStream]

@[simp] theorem State.settleStreams_clock : s.settleStreams.clock = s.clock :=
  foldl_clock (fun _ _ => by simp) _ s

@[simp] theorem State.refuseChunk_clock (n : Fin 8) (c : Chunk) : (s.refuseChunk n c).clock = s.clock := by
  simp [State.refuseChunk]

/-! ## FETCH, BLOCK_READ and the repair list -/

@[simp] theorem State.addRepair_clock (e : RepairEntry) : (s.addRepair e).clock = s.clock := by
  unfold State.addRepair
  split
  · simp
  · split <;> simp

@[simp] theorem State.addBadCopy_clock (slot : Nat) (k : Key) (n : CopyName) (l : Loc) (reason : RepairReason) :
    (s.addBadCopy slot k n l reason).clock = s.clock := by
  unfold State.addBadCopy
  split <;> simp

@[simp] theorem State.modFetch_clock (id : Nat) (f : FetchWork → FetchWork) : (s.modFetch id f).clock = s.clock := by
  unfold State.modFetch
  split <;> simp

@[simp] theorem State.fetchWrite_clock (id i : Nat) (w : FetchWork) (r : FetchRef) (chunk : Bool) (count : FetchCount) (bytes : List Byte) :
    (s.fetchWrite id i w r chunk count bytes).clock = s.clock := by
  simp [State.fetchWrite]

@[simp] theorem State.fetchZero_clock (id i : Nat) (w : FetchWork) (r : FetchRef) (count : FetchCount) (x : Status) :
    (s.fetchZero id i w r count x).clock = s.clock := by
  simp [State.fetchZero]

@[simp] theorem State.fetchMissing_clock (r : FetchRef) : (s.fetchMissing r).clock = s.clock := by
  unfold State.fetchMissing
  dsimp only
  repeat' split
  all_goals simp

@[simp] theorem State.fetchChoose_clock (id i : Nat) (w : FetchWork) (r : FetchRef) : (s.fetchChoose id i w r).clock = s.clock := by
  unfold State.fetchChoose
  split <;> simp [apply_ite State.clock]

@[simp] theorem State.fetchLookup_clock (id i : Nat) : (s.fetchLookup id i).clock = s.clock := by
  unfold State.fetchLookup
  repeat' split
  all_goals simp

@[simp] theorem State.fetchBad_clock (id i : Nat) (w : FetchWork) (r : FetchRef) (n : CopyName) (l : Loc) (reason : RepairReason) :
    (s.fetchBad id i w r n l reason).clock = s.clock := by
  unfold State.fetchBad
  dsimp only
  repeat' split
  all_goals simp

@[simp] theorem State.fetchOp_clock (id i : Nat) (o : OpOutcome) : (s.fetchOp id i o).clock = s.clock := by
  unfold State.fetchOp
  repeat' split
  all_goals simp

@[simp] theorem State.fetchWake_clock (k : Key) : (s.fetchWake k).clock = s.clock :=
  foldl_clock (fun _ _ => by simp) _ s

@[simp] theorem State.blockOffer_clock (id : Nat) (w : BlockReadWork) : (s.blockOffer id w).clock = s.clock := rfl

@[simp] theorem State.blockReadOp_clock (id : Nat) (o : OpOutcome) : (s.blockReadOp id o).clock = s.clock := by
  unfold State.blockReadOp
  repeat' split
  all_goals simp

/-! ## The chunks -/

theorem State.placeChunk_clock {s t : State} {n : Nat} {two : Bool} {a : Loc} {b : Option Loc}
    (h : s.placeChunk n two = some (a, b, t)) : t.clock = s.clock := by
  unfold State.placeChunk at h
  split at h
  · cases h
  · rename_i hfirst
    have hone := State.place_clock hfirst
    split at h
    · split at h
      · rename_i hsecond
        cases h
        exact (State.place_clock hsecond).trans hone
      · cases h
        exact hone
    · cases h
      exact hone

@[simp] theorem State.offerCopy_clock (n : Fin 8) (c : Chunk) (k : CopyName) (l : Loc) : (s.offerCopy n c k l).clock = s.clock := rfl

@[simp] theorem State.beginWrites_clock (n : Fin 8) (c : Chunk) (a : Loc) (b : Option Loc) (target : Target) (r : Ref) :
    (s.beginWrites n c a b target r).clock = s.clock := by
  unfold State.beginWrites
  split <;> simp

@[simp] theorem State.storeNew_clock (n : Fin 8) (c : Chunk) (slot : Nat) : (s.storeNew n c slot).clock = s.clock := by
  unfold State.storeNew
  dsimp only
  split
  · simp
  · simp [State.placeChunk_clock ‹_›]

@[simp] theorem State.storeUnindexed_clock (n : Fin 8) (c : Chunk) : (s.storeUnindexed n c).clock = s.clock := by
  unfold State.storeUnindexed
  split
  · simp
  · simp [State.placeChunk_clock ‹_›]

@[simp] theorem State.collide_clock (n : Fin 8) (c : Chunk) : (s.collide n c).clock = s.clock := by
  simp [State.collide]

@[simp] theorem State.takeCount_clock (n : Fin 8) (c : Chunk) (slot : Nat) (e : Entry) : (s.takeCount n c slot e).clock = s.clock := by
  simp [State.takeCount]

@[simp] theorem State.duplicate_clock (n : Fin 8) (c : Chunk) (slot : Nat) (e : Entry) : (s.duplicate n c slot e).clock = s.clock := by
  unfold State.duplicate
  dsimp only
  split <;> simp

@[simp] theorem State.repairIngest_clock (n : Fin 8) (c : Chunk) (slot : Nat) (e : Entry) :
    (s.repairIngest n c slot e).clock = s.clock := by
  unfold State.repairIngest
  dsimp only
  split
  · simp
  · simp [State.placeChunk_clock ‹_›]

@[simp] theorem State.compareNext_clock (n : Fin 8) (c : Chunk) (slot : Nat) (tried : List CopyName) :
    (s.compareNext n c slot tried).clock = s.clock := by
  unfold State.compareNext
  dsimp only
  split <;> simp

@[simp] theorem State.resolve_clock (n : Fin 8) (c : Chunk) : (s.resolve n c).clock = s.clock := by
  unfold State.resolve
  repeat' split
  all_goals simp

@[simp] theorem State.applyVerdict_clock (n : Fin 8) (c : Chunk) (v : Verdict) : (s.applyVerdict n c v).clock = s.clock := by
  unfold State.applyVerdict
  repeat' split
  all_goals simp

@[simp] theorem State.leavePending_clock (slot : Nat) (e : Entry) : (s.leavePending slot e).clock = s.clock := by
  simp [State.leavePending]

@[simp] theorem State.auOutcome_clock (l : Loc) (epoch n : Nat) (r : WriteResult) : (s.auOutcome l epoch n r).clock = s.clock := by
  unfold State.auOutcome
  split <;> simp

@[simp] theorem State.settleChunk_clock (n : Fin 8) (id : Nat) : (s.settleChunk n id).clock = s.clock := by
  unfold State.settleChunk
  repeat' split
  all_goals simp

@[simp] theorem State.moveCopy_clock (t : Target) (k : CopyName) (l : Loc) : (s.moveCopy t k l).clock = s.clock := by
  unfold State.moveCopy
  repeat' split
  all_goals simp

@[simp] theorem State.replaceCopy_clock (n : Fin 8) (c : Chunk) (w : CopyWrite) : (s.replaceCopy n c w).clock = s.clock := by
  unfold State.replaceCopy
  split
  · simp
  · split
    · simp
    · simp [State.place_clock ‹_›]

@[simp] theorem State.chunkOutcome_clock (n : Fin 8) (id : Nat) (k : CopyName) (r : WriteResult) :
    (s.chunkOutcome n id k r).clock = s.clock := by
  unfold State.chunkOutcome
  repeat' split
  all_goals simp

/-! ## RETAIN and RELEASE -/

@[simp] theorem State.nextRef_clock (id : Nat) (w : RefWork) (retain : Bool) : (s.nextRef id w retain).clock = s.clock := by
  unfold State.nextRef
  split <;> simp [apply_ite State.clock]

@[simp] theorem State.wait_clock (q : CatReq) : (s.wait q).clock = s.clock := rfl

@[simp] theorem State.retainOne_clock (id : Nat) (w : RefWork) (r : Ref) : (s.retainOne id w r).clock = s.clock := by
  unfold State.retainOne
  repeat' split
  all_goals simp

@[simp] theorem State.releaseOne_clock (id : Nat) (w : RefWork) (r : Ref) : (s.releaseOne id w r).clock = s.clock := by
  unfold State.releaseOne
  repeat' split
  all_goals simp

/-! ## The repair worker -/

@[simp] theorem State.dropRepair_clock (slot : Nat) (n : CopyName) : (s.dropRepair slot n).clock = s.clock := rfl

@[simp] theorem State.idleWorker_clock : s.idleWorker.clock = s.clock := rfl

@[simp] theorem State.requeueRepair_clock (e : RepairEntry) : (s.requeueRepair e).clock = s.clock := rfl

@[simp] theorem State.offerRepair_clock (e : RepairEntry) (src : Loc) (buf : List Byte) (l : Loc) (second : Bool) :
    (s.offerRepair e src buf l second).clock = s.clock := rfl

@[simp] theorem State.placeRepair_clock : s.placeRepair.clock = s.clock := by
  unfold State.placeRepair
  split
  · split
    · simp
    · split
      · simp
      · simp [State.place_clock ‹_›]
  all_goals rfl

@[simp] theorem State.repairOutcome_clock (r : WriteResult) : (s.repairOutcome r).clock = s.clock := by
  unfold State.repairOutcome
  split
  · dsimp only
    split
    · simp
    · simp
    all_goals
      split
      · simp
      · split
        · simp
        · obtain ⟨_, hplace⟩ := Option.ite_none_left_eq_some.mp ‹_›
          simp [State.place_clock hplace]
  all_goals rfl

@[simp] theorem State.updateRepair_clock : s.updateRepair.clock = s.clock := by
  unfold State.updateRepair
  repeat' split
  all_goals simp

/-! ## SCRUB -/

@[simp] theorem State.scrubRest_clock : s.scrubRest.clock = s.clock := by
  unfold State.scrubRest
  repeat' split
  all_goals simp

@[simp] theorem State.scrubWalked_clock (skipped : Bool) : (s.scrubWalked skipped).clock = s.clock := by
  simp [State.scrubWalked]

@[simp] theorem State.modStep_clock (f : ScrubStep → ScrubStep) : (s.modStep f).clock = s.clock := rfl

@[simp] theorem State.offerScrub_clock (cls : WorkClass) (p : ScrubStep) (o : Owner) (l : Loc) :
    (s.offerScrub cls p o l).clock = s.clock := rfl

@[simp] theorem State.planBad_clock (p : ScrubStep) (cls : WorkClass) (x : ScrubCopy) (reason : RepairReason) :
    (s.planBad p cls x reason).clock = s.clock := by
  simp only [State.planBad, apply_ite State.clock]
  split <;> simp

@[simp] theorem State.planMirror_clock (p : ScrubStep) (cls : WorkClass) (readyOnly : Bool) (e : Entry) :
    (s.planMirror p cls readyOnly e).clock = s.clock := by
  unfold State.planMirror
  dsimp only
  split
  · simp
  · simp [State.place_clock ‹_›]

@[simp] theorem State.planMissing_clock (p : ScrubStep) (e : Entry) : (s.planMissing p e).clock = s.clock :=
  foldl_clock (fun _ _ => by simp) _ s

@[simp] theorem State.planEnd_clock : s.planEnd.clock = s.clock := by
  unfold State.planEnd
  split
  · simp
  · split <;> simp

@[simp] theorem State.planScrub_clock : s.planScrub.clock = s.clock := by
  unfold State.planScrub
  dsimp only
  repeat' split
  all_goals simp

@[simp] theorem State.mirrorOutcome_clock (r : WriteResult) : (s.mirrorOutcome r).clock = s.clock := by
  unfold State.mirrorOutcome
  split
  · rfl
  · split
    · rfl
    · split
      · rfl
      · dsimp only
        split
        · obtain ⟨_, _, hplace⟩ := Option.bind_eq_some_iff.mp ‹_›
          simp [State.place_clock hplace]
        · simp

@[simp] theorem State.scrubWritten_clock : s.scrubWritten.clock = s.clock := by
  unfold State.scrubWritten
  split
  · simp
  · split <;> simp

@[simp] theorem State.finalRewrite_clock (p : ScrubStep) (ok : Bool) (w : ScrubRewrite) : (s.finalRewrite p ok w).clock = s.clock := by
  unfold State.finalRewrite
  dsimp only
  repeat' split
  all_goals simp

@[simp] theorem State.finalMirror_clock (p : ScrubStep) (ok : Bool) (m : ScrubMirror) : (s.finalMirror p ok m).clock = s.clock := by
  unfold State.finalMirror
  dsimp only
  repeat' split
  all_goals simp

@[simp] theorem State.updateScrub_clock : s.updateScrub.clock = s.clock := by
  unfold State.updateScrub
  split
  · simp
  · split <;> simp

/-! ## The requests, the hold and the end of a checkpoint -/

@[simp] theorem State.takeRequest_clock (q : CatReq) : (s.takeRequest q).clock = s.clock := by
  unfold State.takeRequest
  repeat' split
  all_goals simp

@[simp] theorem State.takeHold_clock (o : HoldOwner) : (s.takeHold o).clock = s.clock := rfl

@[simp] theorem State.beginCopy_clock (i : Fin 2) : (s.beginCopy i).clock = s.clock := rfl

@[simp] theorem State.beginResync_clock : s.beginResync.clock = s.clock := by
  unfold State.beginResync
  repeat' split
  all_goals simp

@[simp] theorem State.drainHeld_clock : s.drainHeld.clock = s.clock :=
  foldl_clock (fun _ _ => by simp) _ _

@[simp] theorem State.releaseHold_clock : s.releaseHold.clock = s.clock := by
  unfold State.releaseHold
  split <;> simp [apply_ite State.clock]

@[simp] theorem State.startQueued_clock : s.startQueued.clock = s.clock := by
  unfold State.startQueued
  split <;> simp

@[simp] theorem State.dropStaleHold_clock : s.dropStaleHold.clock = s.clock := by
  unfold State.dropStaleHold
  split <;> simp [apply_ite State.clock]

@[simp] theorem State.endCkpt_clock (c : Ckpt) : (s.endCkpt c).clock = s.clock := by
  unfold State.endCkpt
  split <;> simp [apply_ite State.clock]

@[simp] theorem State.ckptCheck_clock : s.ckptCheck.clock = s.clock := by
  unfold State.ckptCheck
  split <;> simp [apply_ite State.clock]

/-! ## The host area -/

@[simp] theorem State.blockStale_clock (w : BlockWriteWork) : (s.blockStale w).clock = s.clock := by
  unfold State.blockStale
  dsimp only
  repeat' split
  all_goals simp

@[simp] theorem State.blockWriteOffer_clock (id : Nat) (w : BlockWriteWork) : (s.blockWriteOffer id w).clock = s.clock := by
  unfold State.blockWriteOffer
  dsimp only
  repeat' split
  all_goals simp

@[simp] theorem State.blockOffers_clock : s.blockOffers.clock = s.clock := by
  unfold State.blockOffers
  split <;> simp

@[simp] theorem State.blockWriteOp_clock (id : Nat) (i : Fin 2) (x : AreaWrite) : (s.blockWriteOp id i x).clock = s.clock := by
  unfold State.blockWriteOp
  dsimp only
  repeat' split
  all_goals simp

@[simp] theorem State.copyRead_clock (h : HostCopy) : (s.copyRead h).clock = s.clock := rfl

@[simp] theorem State.copyEnded_clock (h : HostCopy) (x : Status) : (s.copyEnded h x).clock = s.clock := by
  unfold State.copyEnded
  dsimp only
  repeat' split
  all_goals simp

@[simp] theorem State.copyKick_clock : s.copyKick.clock = s.clock := by
  unfold State.copyKick
  split <;> simp [apply_ite State.clock]

@[simp] theorem State.copyOp_clock (o : Op) (r : OpOutcome) : (s.copyOp o r).clock = s.clock := by
  unfold State.copyOp
  dsimp only
  repeat' split
  all_goals simp

/-! ## LOAD, FORMAT and ADOPT -/

@[simp] theorem State.loadSlotB_clock (id : Nat) (w : LoadWork) : (s.loadSlotB id w).clock = s.clock := by
  unfold State.loadSlotB
  dsimp only
  repeat' split
  all_goals simp

@[simp] theorem State.loadHeaderOp_clock (x : ImgSlot) (i : Fin 2) (r : OpOutcome) : (s.loadHeaderOp x i r).clock = s.clock := by
  unfold State.loadHeaderOp
  split <;> simp

@[simp] theorem State.loadPageOp_clock (r : OpOutcome) : (s.loadPageOp r).clock = s.clock := by
  unfold State.loadPageOp
  split
  · simp
  · split <;> simp

@[simp] theorem State.formatPages_clock (w : FormatWork) (i : Fin 2) : (s.formatPages w i).1.clock = s.clock := by
  exact foldl_clock (fun _ _ => by simp) _ s

@[simp] theorem State.formatAdvance_clock (w : FormatWork) (d : Fin 4) : (s.formatAdvance w d).1.clock = s.clock := by
  unfold State.formatAdvance
  repeat' split
  all_goals simp

@[simp] theorem State.formatOp_clock (d : Fin 4) (r : OpOutcome) : (s.formatOp d r).clock = s.clock := by
  unfold State.formatOp
  split
  · simp
  · split <;> simp

@[simp] theorem State.adoptRead_clock (r : OpOutcome) : (s.adoptRead r).clock = s.clock := by
  unfold State.adoptRead
  repeat' split
  all_goals simp

@[simp] theorem State.adoptWritten_clock (r : OpOutcome) : (s.adoptWritten r).clock = s.clock := by
  unfold State.adoptWritten
  repeat' split
  all_goals simp

/-! ## What an operation that has ended is for -/

@[simp] theorem State.compareOp_clock (n : Fin 8) (id : Nat) (r : OpOutcome) : (s.compareOp n id r).clock = s.clock := by
  unfold State.compareOp
  repeat' split
  all_goals simp

@[simp] theorem State.repairReadOp_clock (r : OpOutcome) : (s.repairReadOp r).clock = s.clock := by
  unfold State.repairReadOp
  repeat' split
  all_goals simp

@[simp] theorem State.scrubReadOp_clock (k : CopyName) (r : OpOutcome) : (s.scrubReadOp k r).clock = s.clock := by
  unfold State.scrubReadOp
  split <;> simp [apply_ite State.clock]

@[simp] theorem State.scrubRewriteOp_clock (k : CopyName) (r : OpOutcome) : (s.scrubRewriteOp k r).clock = s.clock := by
  simp [State.scrubRewriteOp]

@[simp] theorem State.scrubMirrorOp_clock (r : OpOutcome) : (s.scrubMirrorOp r).clock = s.clock := by
  unfold State.scrubMirrorOp
  split
  · simp
  · split <;> simp

@[simp] theorem State.labelOp_clock (d : Fin 4) (o : Op) (r : OpOutcome) : (s.labelOp d o r).clock = s.clock := by
  unfold State.labelOp
  split <;> simp

@[simp] theorem State.hand_clock (d : Fin 4) (o : Op) (r : OpOutcome) : (s.hand d o r).clock = s.clock := by
  unfold State.hand
  repeat' split
  all_goals simp

@[simp] theorem State.handAll_clock (d : Fin 4) (l : List Op) (r : OpOutcome) : (s.handAll d l r).clock = s.clock :=
  foldl_clock (fun _ _ => by simp) _ s

/-! ## The drives settle -/

@[simp] theorem State.endNotReady_clock (d : Fin 4) : (s.endNotReady d).clock = s.clock := by
  simp only [State.endNotReady, apply_ite State.clock]
  split <;> simp

@[simp] theorem State.parkSettled_clock (d : Fin 4) : (s.parkSettled d).clock = s.clock := by
  unfold State.parkSettled
  dsimp only
  split <;> simp

@[simp] theorem State.parkPass_clock (d : Fin 4) : (s.parkPass d).clock = s.clock := by
  unfold State.parkPass
  dsimp only
  repeat' split
  all_goals simp

@[simp] theorem State.jobPass_clock (j : Job) : (s.jobPass j).clock = s.clock := by
  unfold State.jobPass
  split <;> simp [apply_ite State.clock]

@[simp] theorem State.kickAll_clock : s.kickAll.clock = s.clock :=
  foldl_clock (fun _ _ => by simp) _ s

@[simp] theorem State.settle_clock : s.settle.clock = s.clock := by
  simp [State.settle]

end

end Sys2Proof.Machine

/-! # A clock tick (R26, R30, R31) -/

namespace Sys2Proof.Machine

/-- Slots that are not due leave the state. -/
theorem State.evalAlarms_foldl_stays {s : State} {l : List (Fin 4)} (h : ∀ m ∈ l, s.clock.alarms[m].due s.clock = false) :
    l.foldl State.evalAlarm s = s := by
  induction l with
  | nil => rfl
  | cons m l ih =>
    rw [List.foldl_cons, State.evalAlarm_not_due (h m List.mem_cons_self), ih fun k hk => h k (List.mem_cons_of_mem _ hk)]

/-- The clock after the slot `n` has fired. -/
def Clock.fired (c : Clock) (n : Fin 4) : Clock := { c with alarms := c.alarms.set n (c.alarms[n].afterFire c.count) }

theorem Clock.fired_other (c : Clock) {n m : Fin 4} (h : m ≠ n) : (c.fired n).alarms[m] = c.alarms[m] := by
  have hval : n.val ≠ m.val := fun e => h (Fin.ext e.symm)
  simp [Clock.fired, hval]

/-- The one slot that is due is evaluated; its actions leave the clock, and no later slot is due at it. -/
theorem State.evalAlarms_one {s u t : State} {n : Fin 4} {a : Alarm} (ha : s.clock.alarms[n] = a) (hdue : a.due s.clock = true)
    (hothers : ∀ m : Fin 4, m ≠ n → s.clock.alarms[m].due s.clock = false) (hu : { s with clock := s.clock.fired n } = u)
    (ht : u.alarmActions a = t) (hkeeps : t.clock = u.clock) : s.evalAlarms = t := by
  subst ha hu
  have hn : n ∈ drives4 := by fin_cases n <;> decide
  obtain ⟨before, after, hsplit⟩ := List.append_of_mem hn
  have hnodup : (before ++ n :: after).Nodup := hsplit ▸ (by decide : drives4.Nodup)
  have hbefore : ∀ m ∈ before, m ≠ n := fun m hm hmn => (List.nodup_append.mp hnodup).2.2 m hm n List.mem_cons_self hmn
  have hafter : ∀ m ∈ after, m ≠ n := fun m hm hmn => (List.nodup_cons.mp (List.nodup_append.mp hnodup).2.1).1 (hmn ▸ hm)
  have hone : s.evalAlarm n = t := (if_pos hdue).trans ht
  rw [State.evalAlarms, hsplit, List.foldl_append, List.foldl_cons,
    State.evalAlarms_foldl_stays fun m hm => hothers m (hbefore m hm), hone]
  have hclock : t.clock = s.clock.fired n := hkeeps
  refine State.evalAlarms_foldl_stays fun m hm => ?_
  rw [hclock, Clock.fired_other _ (hafter m hm)]
  exact hothers m (hafter m hm)

/-! ## The actions of a slot -/

section
variable {s : State} {a : Alarm}

theorem State.wakesBox_running (h : s.box.st = .run) (w : WakeSource) : s.wakesBox w = false := by simp [State.wakesBox, h]

theorem State.alarmActions_attention (hst : s.box.st = .run) (ha : a.attention = true) (hp : a.prestart = false) :
    s.alarmActions a = s.setCause .alarm := by
  simp [State.alarmActions, hst, ha, hp, State.wakesBox_running]

theorem State.alarmActions_prestart (hst : s.box.st = .run) (hp : a.prestart = true) :
    s.alarmActions a = (if a.attention = true then s.setCause .alarm else s).prestart a.mask := by
  simp [State.alarmActions, hst, hp, State.wakesBox_running]

theorem State.alarmActions_wakes (hst : s.box.st = .sleep) (hw : a.wake = true) (hwakes : s.wakesBox .alarm = true) :
    s.alarmActions a = (s.enterWaking .alarm).modBox fun b => { b with keptPrestart := if a.prestart = true then a.mask else 0 } := by
  cases hp : a.prestart <;> simp [State.alarmActions, hst, hw, hp, hwakes]
  rfl

theorem State.alarmActions_asleep (hst : s.box.st = .sleep) (hw : a.wake = false ∨ s.wakesBox .alarm = false) :
    s.alarmActions a = s := by
  have hno : (a.wake && s.wakesBox .alarm) = false := Bool.and_eq_false_iff.mpr hw
  simp [State.alarmActions, hst, hno]

end

/-! ## PRESTART -/

/-- What PRESTART makes of a drive of its mask (R31). -/
def Drive.prestarted (x : Drive) (chosen : Bool) : Drive :=
  if chosen = true ∧ (x.power = .unpowered ∨ x.power = .parked) ∧ x.failed = false ∧ DemandBy.prestart ∉ x.demands then
    { x with demands := x.demands ++ [.prestart] }
  else x

theorem Drive.demanded_prestart {x : Drive} (h : x.power = .unpowered ∨ x.power = .parked) :
    x.demanded .prestart = x.prestarted true := by
  refine if_congr ?_ rfl rfl
  have husable : x.usable = true ↔ x.failed = false := by
    obtain h | h := h <;> simp [Drive.usable, h]
  have hready : x.power ≠ .ready := by
    obtain h | h := h <;> rw [h] <;> decide
  simp [husable, hready, h]

theorem State.prestart_eq (s : State) {mask : BitVec 4} (hmask : mask ≠ 0) :
    s.prestart mask = State.settle { s with drives := Vector.ofFn fun d => s.drives[d].prestarted (mask.getLsbD d.val) } := by
  refine (if_neg hmask).trans (congrArg State.settle ?_)
  have hfold := foldl_drives4
    (F := fun s d => if mask.getLsbD d.val ∧ (s.drives[d].power = .unpowered ∨ s.drives[d].power = .parked) then s.raiseDemand d .prestart else s)
    (s := s) (fun d => s.drives[d].prestarted (mask.getLsbD d.val)) (fun _ => []) fun d v l hv => by
      have hd : (s.withDrives v l).drives[d] = s.drives[d] := hv
      by_cases hgo : mask.getLsbD d.val = true ∧ (s.drives[d].power = .unpowered ∨ s.drives[d].power = .parked)
      · obtain ⟨hbit, hpower⟩ := hgo
        rw [if_pos (by rw [hd]; exact ⟨hbit, hpower⟩), State.raiseDemand_eq, hd, Drive.demanded_prestart hpower, hbit]
      · have hsame : s.drives[d].prestarted (mask.getLsbD d.val) = s.drives[d] := if_neg fun h => hgo ⟨h.1, h.2.1⟩
        rw [if_neg (by rw [hd]; exact hgo), hsame, ← hd, State.driveStep_self]
  refine hfold.trans ?_
  simp [State.withDrives, drives4]

theorem State.alarmActions_prestarts {s : State} {a : Alarm} (hst : s.box.st = .run) (hp : a.prestart = true) (hmask : a.mask ≠ 0) :
    s.alarmActions a =
      State.settle
        { s with
          attn := if a.attention then s.attn ||| 0x200 else s.attn
          drives := Vector.ofFn fun d => s.drives[d].prestarted (a.mask.getLsbD d.val) } := by
  rw [State.alarmActions_prestart hst hp, State.prestart_eq _ hmask]
  cases a.attention <;> rfl

/-! ## The obligation -/

/-- Settles O21. -/
theorem clockTick : Obligations.ClockTick := by
  intro s hp next
  have hrow := run_ends (exec_clockTick s) hp
  refine ⟨fun hnone => Ends.of_eq hrow (State.evalAlarms_none hnone), fun n hdue hperiod hothers => ?_⟩
  intro a fired
  have hfire : a.afterFire next.count = { a with enable := false } := if_pos hperiod
  have hfired : { s.mute.setCount (s.mute.clock.count + 1) with clock := next.fired n } = fired :=
    congrArg (fun x => { s with clock := { next with alarms := s.clock.alarms.set n x }, out := {} }) hfire
  have hone : ∀ t : State, fired.alarmActions a = t → t.clock = fired.clock → Ends s .clockTick t := fun t ht hkeeps => by
    have heval : (s.mute.setCount (s.mute.clock.count + 1)).evalAlarms = t :=
      State.evalAlarms_one (s := s.mute.setCount (s.mute.clock.count + 1)) (u := fired) (n := n) (a := a) rfl hdue hothers hfired ht hkeeps
    exact Ends.of_eq hrow heval
  refine ⟨fun hst hatt hpre => ?_, fun hst hpre hmask => ?_, fun hst hw hcfg hlow => ?_, fun hst hno => ?_⟩
  · exact hone _ (State.alarmActions_attention hst hatt hpre) rfl
  · have hacts := State.alarmActions_prestarts (s := fired) hst hpre hmask
    exact hone _ hacts (State.settle_clock _)
  · have hwakes : fired.wakesBox .alarm = true := State.wakesBox_enabled hst hcfg hlow
    exact hone _ (State.alarmActions_wakes hst hw hwakes) rfl
  · refine hone _ (State.alarmActions_asleep hst ?_) rfl
    exact hno.imp id fun h => h.elim (State.wakesBox_disabled (s := fired) (w := .alarm)) (State.wakesBox_low (s := fired) nofun)

end Sys2Proof.Machine
